-- ==== Sys2Proof/Word.lean ====
section
/-! DEFINITION. The words of the ZC24: the byte of a frame, the 32-bit corridor time of the
conventions in 00_scope.md, and the 13-bit alert source set of the field encodings in 12.1. -/

namespace Sys2Proof

/-- One byte of a frame (12.1). -/
abbrev Byte := BitVec 8

/-- A corridor time value CT: an unsigned 32-bit count of deciseconds that wraps (R1). -/
abbrev Ct := BitVec 32

/-- A set of alert sources, bit `k` for the source numbered `k` in the table of 12.1. -/
abbrev SourceSet := BitVec 13

end Sys2Proof
end

