-- ==== Sys2Proof/Config.lean ====
section
/-! DEFINITION. The constants the ZC24 fixes: its table sizes, its time limits, the type bytes of its
transactions and its request codes. The spec leaves no value open to an implementation, so there is
no free constant here. -/

namespace Sys2Proof.Config

/-- The largest number of configured junctions (table of 2.1). -/
abbrev maxJunctions : Nat := 24
/-- Stored plans are numbered 1 to 8 (section 3.1). -/
abbrev planCount : Nat := 8
/-- Schedule entries (section 4.1). -/
abbrev scheduleCount : Nat := 24
/-- Group ranges (section 2.4). -/
abbrev groupCount : Nat := 4
/-- Platoon slots (R102). -/
abbrev platoonSlots : Nat := 32
/-- Priority slots (R125). -/
abbrev prioritySlots : Nat := 16
/-- Discrete inputs IN0 to IN3 (section 9.2). -/
abbrev inputCount : Nat := 4

/-- The type byte of a SEND transaction (R173). -/
abbrev typeSend : Byte := 0xA1
/-- The type byte of a STATUS transaction (R173). -/
abbrev typeStatus : Byte := 0xA2
/-- The type byte of a RESULT transaction (R173). -/
abbrev typeResult : Byte := 0xA3
/-- The type byte of a PORT_RESET transaction (R173). -/
abbrev typePortReset : Byte := 0xAF

/-- The request codes of section 12.2, in the order of its table. -/
def requestCodes : List Byte :=
  [0x01, 0x02, 0x03, 0x10, 0x11, 0x12, 0x13, 0x14, 0x15, 0x18, 0x19, 0x1A, 0x1B] ++
  [0x20, 0x21, 0x22, 0x28, 0x29, 0x2A, 0x2B, 0x30, 0x31, 0x32, 0x33, 0x34] ++
  [0x38, 0x39, 0x3A, 0x3B, 0x3C, 0x40, 0x41, 0x48, 0x49, 0x4A, 0x50, 0x51]

end Sys2Proof.Config
end

