-- ==== Sys2Proof/Syntax.lean ====
section
/-! DEFINITION. The commands of the ZC24: one constructor for each row of spec/opcode_table.json.
A timed event carries the junction, slot or input it belongs to, a count of CT carries the levels
sampled at it, a transaction carries the bytes or the number of bytes clocked after its type byte,
and a request carries the parameter bytes of its frame (their number is the frame's length count) with the
number of bytes clocked in beyond the frame, which are ignored (R154); none unless another number is given. -/

namespace Sys2Proof

/-- The level of a pin. -/
inductive Level where
  | low
  | high
  deriving DecidableEq, Repr

/-- A direction of travel: INBOUND toward the centre, OUTBOUND away from it. -/
inductive Direction where
  | inbound
  | outbound
  deriving DecidableEq, Repr

/-- What the RESET pin does: it falls, and the part is held in reset; or it rises, with the SYNC level
present as reset ends (R174). Power-on is a rise (log 15). -/
inductive ResetEdge where
  | fall
  | rise (sync : Level)
  deriving DecidableEq, Repr

/-- One command to the ZC24: a row of the table of operations and events. -/
inductive Instr where
  /-- RESET: power-on or one edge of a RESET pin pulse (R174). -/
  | reset (edge : ResetEdge)
  /-- CT_COUNT: one count of CT, with the levels sampled at it on SYNC and IN0 to IN3 (R1, R7, R145). -/
  | ctCount (sync in0 in1 in2 in3 : Level)
  | minuteMark
  | referenceBoundary
  | syncPulse
  | syncLossTime
  | inputValidation (i : Fin Config.inputCount)
  | booking (j : Fin Config.maxJunctions)
  | greenEndCheck (j : Fin Config.maxJunctions)
  | spillbackExpiry (j : Fin Config.maxJunctions) (d : Direction)
  | platoonLost (slot : Fin Config.platoonSlots)
  | priorityExpiry (slot : Fin Config.prioritySlots)
  | preemptDeadline (j : Fin Config.maxJunctions)
  | pulseEnd
  | statusBlink
  /-- SEND_DISCARDED: a SEND transaction; `frame` is every byte clocked in after the type byte. -/
  | sendDiscarded (frame : List Byte)
  | executionComplete
  /-- STATUS_TRANSACTION with `n` bytes clocked after the type byte. -/
  | statusTransaction (n : Nat)
  /-- RESULT_TRANSACTION with `n` bytes clocked after the type byte. -/
  | resultTransaction (n : Nat)
  /-- PORT_RESET with `n` bytes clocked after the type byte. -/
  | portReset (n : Nat)
  /-- VOID_TRANSACTION; `bytes` are the whole bytes clocked in, none when the type byte is incomplete. -/
  | voidTransaction (bytes : List Byte)
  | unknownRequest (code : Byte) (params : List Byte) (extra : Nat := 0)
  | setClock (params : List Byte) (extra : Nat := 0)
  | readClock (params : List Byte) (extra : Nat := 0)
  | corridorStatus (params : List Byte) (extra : Nat := 0)
  | setCorridor (params : List Byte) (extra : Nat := 0)
  | readCorridor (params : List Byte) (extra : Nat := 0)
  | setJunction (params : List Byte) (extra : Nat := 0)
  | readJunction (params : List Byte) (extra : Nat := 0)
  | setGroup (params : List Byte) (extra : Nat := 0)
  | readGroup (params : List Byte) (extra : Nat := 0)
  | setPlan (params : List Byte) (extra : Nat := 0)
  | readPlan (params : List Byte) (extra : Nat := 0)
  | setScheduleEntry (params : List Byte) (extra : Nat := 0)
  | readScheduleEntry (params : List Byte) (extra : Nat := 0)
  | activatePlan (params : List Byte) (extra : Nat := 0)
  | resumeSchedule (params : List Byte) (extra : Nat := 0)
  | resyncJunction (params : List Byte) (extra : Nat := 0)
  | windowQuery (params : List Byte) (extra : Nat := 0)
  | spillback (params : List Byte) (extra : Nat := 0)
  | preemptBegin (params : List Byte) (extra : Nat := 0)
  | preemptEnd (params : List Byte) (extra : Nat := 0)
  | platoonSeen (params : List Byte) (extra : Nat := 0)
  | passage (params : List Byte) (extra : Nat := 0)
  | readPlatoon (params : List Byte) (extra : Nat := 0)
  | cancelPlatoon (params : List Byte) (extra : Nat := 0)
  | listPlatoons (params : List Byte) (extra : Nat := 0)
  | checkIn (params : List Byte) (extra : Nat := 0)
  | checkOut (params : List Byte) (extra : Nat := 0)
  | readPriority (params : List Byte) (extra : Nat := 0)
  | listPriority (params : List Byte) (extra : Nat := 0)
  | continueList (params : List Byte) (extra : Nat := 0)
  | clearRecords (params : List Byte) (extra : Nat := 0)
  | setInput (params : List Byte) (extra : Nat := 0)
  | readInputs (params : List Byte) (extra : Nat := 0)
  | readAlerts (params : List Byte) (extra : Nat := 0)
  | setAlertConfig (params : List Byte) (extra : Nat := 0)
  | acknowledgeAlerts (params : List Byte) (extra : Nat := 0)
  | lockEdits (params : List Byte) (extra : Nat := 0)
  deriving DecidableEq, Repr

end Sys2Proof
end

