-- ==== Sys2Proof/WellFormed.lean ====
section
/-! DEFINITION. Which command terms stand for something that can happen on the part's pins: a length
count is one byte (R154), an unknown request's code is in no row of the table of request codes (R156),
and a void transaction's type byte is none of the four (R153). -/

namespace Sys2Proof

/-- The parameter bytes of a request, where the command is one. -/
def Instr.params? : Instr → Option (List Byte)
  | .reset _ | .ctCount _ _ _ _ _ | .minuteMark | .referenceBoundary | .syncPulse | .syncLossTime
  | .inputValidation _ | .booking _ | .greenEndCheck _ | .spillbackExpiry _ _ | .platoonLost _
  | .priorityExpiry _ | .preemptDeadline _ | .pulseEnd | .statusBlink | .sendDiscarded _
  | .executionComplete | .statusTransaction _ | .resultTransaction _ | .portReset _
  | .voidTransaction _ => none
  | .unknownRequest _ ps _ | .setClock ps _ | .readClock ps _ | .corridorStatus ps _
  | .setCorridor ps _ | .readCorridor ps _ | .setJunction ps _ | .readJunction ps _ | .setGroup ps _
  | .readGroup ps _ | .setPlan ps _ | .readPlan ps _ | .setScheduleEntry ps _ | .readScheduleEntry ps _
  | .activatePlan ps _ | .resumeSchedule ps _ | .resyncJunction ps _ | .windowQuery ps _
  | .spillback ps _ | .preemptBegin ps _ | .preemptEnd ps _ | .platoonSeen ps _ | .passage ps _
  | .readPlatoon ps _ | .cancelPlatoon ps _ | .listPlatoons ps _ | .checkIn ps _ | .checkOut ps _
  | .readPriority ps _ | .listPriority ps _ | .continueList ps _ | .clearRecords ps _ | .setInput ps _
  | .readInputs ps _ | .readAlerts ps _ | .setAlertConfig ps _ | .acknowledgeAlerts ps _
  | .lockEdits ps _ => some ps

/-- The number of bytes a request clocks in beyond its frame, which are ignored (R154). -/
def Instr.extra : Instr → Nat
  | .reset _ | .ctCount _ _ _ _ _ | .minuteMark | .referenceBoundary | .syncPulse | .syncLossTime
  | .inputValidation _ | .booking _ | .greenEndCheck _ | .spillbackExpiry _ _ | .platoonLost _
  | .priorityExpiry _ | .preemptDeadline _ | .pulseEnd | .statusBlink | .sendDiscarded _
  | .executionComplete | .statusTransaction _ | .resultTransaction _ | .portReset _
  | .voidTransaction _ => 0
  | .unknownRequest _ _ k | .setClock _ k | .readClock _ k | .corridorStatus _ k
  | .setCorridor _ k | .readCorridor _ k | .setJunction _ k | .readJunction _ k | .setGroup _ k
  | .readGroup _ k | .setPlan _ k | .readPlan _ k | .setScheduleEntry _ k | .readScheduleEntry _ k
  | .activatePlan _ k | .resumeSchedule _ k | .resyncJunction _ k | .windowQuery _ k
  | .spillback _ k | .preemptBegin _ k | .preemptEnd _ k | .platoonSeen _ k | .passage _ k
  | .readPlatoon _ k | .cancelPlatoon _ k | .listPlatoons _ k | .checkIn _ k | .checkOut _ k
  | .readPriority _ k | .listPriority _ k | .continueList _ k | .clearRecords _ k | .setInput _ k
  | .readInputs _ k | .readAlerts _ k | .setAlertConfig _ k | .acknowledgeAlerts _ k
  | .lockEdits _ k => k

/-- The length count of a frame is one byte, so a request has at most 255 parameter bytes (R154). -/
def Instr.lengthFits (i : Instr) : Bool := (i.params?.getD []).length ≤ 255

/-- An unknown request's code names no request (R156). -/
def Instr.codeUnknown : Instr → Bool
  | .unknownRequest code _ _ => !Config.requestCodes.contains code
  | _ => true

/-- A void transaction's type byte, where one was clocked in whole, is none of the four (R153). -/
def Instr.typeVoid : Instr → Bool
  | .voidTransaction (t :: _) =>
    t != Config.typeSend && t != Config.typeStatus && t != Config.typeResult && t != Config.typePortReset
  | _ => true

/-- The command term spells something that can happen on the part's pins. -/
def Instr.wf (i : Instr) : Bool := i.lengthFits && i.codeUnknown && i.typeVoid

end Sys2Proof
end

