-- ==== Sys2Proof/Decode.lean ====
section
/-! DEFINITION. From the bytes of a transaction to the command it spells, and back (R153, R154, R172,
R173). The opcode table gives its rows no bits, so decodeTableWord answers none for every word;
decodeTransaction is the reader of the bytes that the request port itself sees. -/

namespace Sys2Proof

/-- The opcode table gives no row any bits: no word spells a command. -/
def decodeTableWord (_nbits _w : Nat) : Option Instr := none

/-- The request that a code of section 12.2 names, with its parameter bytes; a code of no row is an
unknown request, which is accepted and refused (R154, R156). -/
def decodeRequest (code : Byte) (params : List Byte) (extra : Nat := 0) : Instr :=
  match code.toNat with
  | 0x01 => .setClock params extra
  | 0x02 => .readClock params extra
  | 0x03 => .corridorStatus params extra
  | 0x10 => .setCorridor params extra
  | 0x11 => .readCorridor params extra
  | 0x12 => .setJunction params extra
  | 0x13 => .readJunction params extra
  | 0x14 => .setGroup params extra
  | 0x15 => .readGroup params extra
  | 0x18 => .setPlan params extra
  | 0x19 => .readPlan params extra
  | 0x1A => .setScheduleEntry params extra
  | 0x1B => .readScheduleEntry params extra
  | 0x20 => .activatePlan params extra
  | 0x21 => .resumeSchedule params extra
  | 0x22 => .resyncJunction params extra
  | 0x28 => .windowQuery params extra
  | 0x29 => .spillback params extra
  | 0x2A => .preemptBegin params extra
  | 0x2B => .preemptEnd params extra
  | 0x30 => .platoonSeen params extra
  | 0x31 => .passage params extra
  | 0x32 => .readPlatoon params extra
  | 0x33 => .cancelPlatoon params extra
  | 0x34 => .listPlatoons params extra
  | 0x38 => .checkIn params extra
  | 0x39 => .checkOut params extra
  | 0x3A => .readPriority params extra
  | 0x3B => .listPriority params extra
  | 0x3C => .clearRecords params extra
  | 0x40 => .setInput params extra
  | 0x41 => .readInputs params extra
  | 0x48 => .readAlerts params extra
  | 0x49 => .setAlertConfig params extra
  | 0x4A => .acknowledgeAlerts params extra
  | 0x50 => .continueList params extra
  | 0x51 => .lockEdits params extra
  | _ => .unknownRequest code params extra

/-- A request frame after the SEND type byte: the code, the length count, at least that many parameter
bytes, and any bytes beyond them, which are ignored; a frame that is not whole is discarded (R154). -/
def decodeFrame (frame : List Byte) : Instr :=
  match frame with
  | code :: len :: rest =>
    if len.toNat ≤ rest.length then decodeRequest code (rest.take len.toNat) (rest.length - len.toNat)
    else .sendDiscarded frame
  | _ => .sendDiscarded frame

/-- The command a transaction spells, from all whole bytes clocked in between the fall and the rise of
chip select (R153, R173). -/
def decodeTransaction (bytes : List Byte) : Instr :=
  match bytes with
  | [] => .voidTransaction []
  | t :: rest =>
    if t = Config.typeSend then decodeFrame rest
    else if t = Config.typeStatus then .statusTransaction rest.length
    else if t = Config.typeResult then .resultTransaction rest.length
    else if t = Config.typePortReset then .portReset rest.length
    else .voidTransaction (t :: rest)

/-- The request code of a request command (table of request codes, 12.2). -/
def Instr.code? : Instr → Option Byte
  | .reset _ | .ctCount _ _ _ _ _ | .minuteMark | .referenceBoundary | .syncPulse | .syncLossTime
  | .inputValidation _ | .booking _ | .greenEndCheck _ | .spillbackExpiry _ _ | .platoonLost _
  | .priorityExpiry _ | .preemptDeadline _ | .pulseEnd | .statusBlink | .sendDiscarded _
  | .executionComplete | .statusTransaction _ | .resultTransaction _ | .portReset _
  | .voidTransaction _ => none
  | .unknownRequest code _ _ => some code
  | .setClock _ _ => some 0x01
  | .readClock _ _ => some 0x02
  | .corridorStatus _ _ => some 0x03
  | .setCorridor _ _ => some 0x10
  | .readCorridor _ _ => some 0x11
  | .setJunction _ _ => some 0x12
  | .readJunction _ _ => some 0x13
  | .setGroup _ _ => some 0x14
  | .readGroup _ _ => some 0x15
  | .setPlan _ _ => some 0x18
  | .readPlan _ _ => some 0x19
  | .setScheduleEntry _ _ => some 0x1A
  | .readScheduleEntry _ _ => some 0x1B
  | .activatePlan _ _ => some 0x20
  | .resumeSchedule _ _ => some 0x21
  | .resyncJunction _ _ => some 0x22
  | .windowQuery _ _ => some 0x28
  | .spillback _ _ => some 0x29
  | .preemptBegin _ _ => some 0x2A
  | .preemptEnd _ _ => some 0x2B
  | .platoonSeen _ _ => some 0x30
  | .passage _ _ => some 0x31
  | .readPlatoon _ _ => some 0x32
  | .cancelPlatoon _ _ => some 0x33
  | .listPlatoons _ _ => some 0x34
  | .checkIn _ _ => some 0x38
  | .checkOut _ _ => some 0x39
  | .readPriority _ _ => some 0x3A
  | .listPriority _ _ => some 0x3B
  | .clearRecords _ _ => some 0x3C
  | .setInput _ _ => some 0x40
  | .readInputs _ _ => some 0x41
  | .readAlerts _ _ => some 0x48
  | .setAlertConfig _ _ => some 0x49
  | .acknowledgeAlerts _ _ => some 0x4A
  | .continueList _ _ => some 0x50
  | .lockEdits _ _ => some 0x51

/-- The bytes of a SEND transaction with the given code and parameter bytes, and fill bytes for what is clocked
in beyond the frame (R173). -/
def encodeSend (code : Byte) (params : List Byte) (extra : Nat) : List Byte :=
  Config.typeSend :: code :: BitVec.ofNat 8 params.length :: (params ++ List.replicate extra 0)

/-- The bytes that spell a transaction command on the port; a command that is no transaction has none.
What a STATUS, RESULT or PORT_RESET transaction clocks in after its type byte, or a SEND beyond its frame, does
not matter, and fill bytes stand there (R153, R154). -/
def encodeTransaction (i : Instr) : Option (List Byte) :=
  match i with
  | .sendDiscarded frame => some (Config.typeSend :: frame)
  | .statusTransaction n => some (Config.typeStatus :: List.replicate n 0)
  | .resultTransaction n => some (Config.typeResult :: List.replicate n 0)
  | .portReset n => some (Config.typePortReset :: List.replicate n 0)
  | .voidTransaction bytes => some bytes
  | .reset _ | .ctCount _ _ _ _ _ | .minuteMark | .referenceBoundary | .syncPulse | .syncLossTime
  | .inputValidation _ | .booking _ | .greenEndCheck _ | .spillbackExpiry _ _ | .platoonLost _
  | .priorityExpiry _ | .preemptDeadline _ | .pulseEnd | .statusBlink | .executionComplete => none
  | .unknownRequest code ps k => some (encodeSend code ps k)
  | .setClock ps k => some (encodeSend 0x01 ps k)
  | .readClock ps k => some (encodeSend 0x02 ps k)
  | .corridorStatus ps k => some (encodeSend 0x03 ps k)
  | .setCorridor ps k => some (encodeSend 0x10 ps k)
  | .readCorridor ps k => some (encodeSend 0x11 ps k)
  | .setJunction ps k => some (encodeSend 0x12 ps k)
  | .readJunction ps k => some (encodeSend 0x13 ps k)
  | .setGroup ps k => some (encodeSend 0x14 ps k)
  | .readGroup ps k => some (encodeSend 0x15 ps k)
  | .setPlan ps k => some (encodeSend 0x18 ps k)
  | .readPlan ps k => some (encodeSend 0x19 ps k)
  | .setScheduleEntry ps k => some (encodeSend 0x1A ps k)
  | .readScheduleEntry ps k => some (encodeSend 0x1B ps k)
  | .activatePlan ps k => some (encodeSend 0x20 ps k)
  | .resumeSchedule ps k => some (encodeSend 0x21 ps k)
  | .resyncJunction ps k => some (encodeSend 0x22 ps k)
  | .windowQuery ps k => some (encodeSend 0x28 ps k)
  | .spillback ps k => some (encodeSend 0x29 ps k)
  | .preemptBegin ps k => some (encodeSend 0x2A ps k)
  | .preemptEnd ps k => some (encodeSend 0x2B ps k)
  | .platoonSeen ps k => some (encodeSend 0x30 ps k)
  | .passage ps k => some (encodeSend 0x31 ps k)
  | .readPlatoon ps k => some (encodeSend 0x32 ps k)
  | .cancelPlatoon ps k => some (encodeSend 0x33 ps k)
  | .listPlatoons ps k => some (encodeSend 0x34 ps k)
  | .checkIn ps k => some (encodeSend 0x38 ps k)
  | .checkOut ps k => some (encodeSend 0x39 ps k)
  | .readPriority ps k => some (encodeSend 0x3A ps k)
  | .listPriority ps k => some (encodeSend 0x3B ps k)
  | .clearRecords ps k => some (encodeSend 0x3C ps k)
  | .setInput ps k => some (encodeSend 0x40 ps k)
  | .readInputs ps k => some (encodeSend 0x41 ps k)
  | .readAlerts ps k => some (encodeSend 0x48 ps k)
  | .setAlertConfig ps k => some (encodeSend 0x49 ps k)
  | .acknowledgeAlerts ps k => some (encodeSend 0x4A ps k)
  | .continueList ps k => some (encodeSend 0x50 ps k)
  | .lockEdits ps k => some (encodeSend 0x51 ps k)

end Sys2Proof
end

