-- ==== Sys2Proof/Machine/State.lean ====
section
/-! DEFINITION. The state of the ZC24, block by block as the block diagram of 00_scope.md names them,
the queue of commands that wait, the state after reset, and the reasons a step can stop. Corridor
times are Ct values; durations, lengths, counts and indexes are natural numbers; drift is an integer. -/

namespace Sys2Proof.Machine

/-- No rule of the spec stops the part with a fault: every command has an effect in every state, so
the type has no constructor. Safe: nothing can be claimed about a fault. -/
inductive Fault where
  deriving DecidableEq, Repr

/-- The reasons a step has no meaning. -/
inductive Refusal where
  /-- Raised by exec's arm of a command that has no meaning yet; no arm raises it. Safe: it stops. -/
  | notModelled (mnemonic : String)
  deriving DecidableEq, Repr

/-! ## Time base (chapter 1) -/

/-- The day clock of section 1.2. -/
structure DayClock where
  day : Nat
  hour : Nat
  minute : Nat
  second : Nat
  tenth : Nat
  valid : Bool
  deriving DecidableEq, Repr

/-- The time base: CT (R1), the day clock (R3), the SYNC input state (R7) and SYNC_LOST (R11). The last
three fields are the model's own: events of the present count that have not been taken yet. -/
structure TimeBase where
  ct : Ct
  clock : DayClock
  lastPulse : Ct
  syncHeld : Level
  syncLost : Bool
  /-- A rising edge sampled at this count whose SYNC_PULSE is not yet taken (R7). -/
  edgeDue : Bool
  /-- A minute mark handed over at this count whose MINUTE_MARK is not yet taken (R3, R10). -/
  markDue : Bool
  /-- A wrap of P_ref by counting whose REFERENCE_BOUNDARY is not yet taken (R13). -/
  boundaryDue : Bool
  deriving DecidableEq, Repr

/-! ## Corridor table (chapter 2) -/

/-- The corridor settings of section 2.1, but for N, which is the number of configured junctions. -/
structure Settings where
  entryIn : Nat
  entryOut : Nat
  gm : Nat
  dl : Nat
  lm : Nat
  pmax : Nat
  syncEnable : Bool
  ts : Nat
  deriving DecidableEq, Repr

/-- An attribute set (section 2.4). -/
structure Attributes where
  exclude : Bool
  queueGuard : Bool
  noPriority : Bool
  noExtend : Bool
  deriving DecidableEq, Repr

/-- A group range entry (section 2.4); a count of 0 is an unused entry. -/
structure GroupRange where
  first : Nat
  count : Nat
  attrs : Attributes
  deriving DecidableEq, Repr

/-! ## Plans and selection (chapters 3 and 4) -/

/-- A full plan record (section 3.1). -/
structure Plan where
  c : Nat
  b : Nat
  w : Nat
  o0 : Nat
  vIn : Nat
  vOut : Nat
  s : Nat
  hIn : Nat
  hOut : Nat
  k : Nat
  xMax : Nat
  eMax : Nat
  m : Nat
  r : Nat
  g : Vector Nat Config.maxJunctions
  deriving DecidableEq, Repr

/-- What the part holds for an active coordinated plan: its number, P_ref (R12 to R14), the link and
entry travel times (R24, R25) and the offsets (R42). Its record stays in the plan store (R32). -/
structure ActivePlan where
  number : Nat
  pRef : Nat
  tIn : List Nat
  tOut : List Nat
  entryIn : Option Nat
  entryOut : Option Nat
  offsets : List Nat
  deriving DecidableEq, Repr

/-- A schedule entry (section 4.1); bit 0 of the day mask is Monday (12.1). -/
structure ScheduleEntry where
  enabled : Bool
  days : BitVec 7
  hour : Nat
  minute : Nat
  plan : Nat
  deriving DecidableEq, Repr

/-- The plan selector: the schedule, the items of section 4.2, the active plan (none is plan 0) and the
pending plan. -/
structure Selector where
  schedule : Vector ScheduleEntry Config.scheduleCount
  scheduled : Nat
  holdOn : Bool
  holdPlan : Nat
  requested : Nat
  lastEntry : Option Nat
  active : Option ActivePlan
  pendingPlan : Option Nat
  deriving DecidableEq, Repr

/-! ## Junction contexts (chapters 2, 5, 6, 9) -/

/-- The cause of a FREE state (R63). -/
inductive FreeCause where
  | plan0
  | excluded
  | corridorFree
  | fault
  deriving DecidableEq, Repr

/-- The return state of a PREEMPT junction: SEEK, or FREE with a cause other than FAULT (R63). -/
inductive ReturnState where
  | plan0
  | excluded
  | corridorFree
  | seek
  deriving DecidableEq, Repr

/-- The phase of a booked cycle (R65). -/
inductive Phase where
  | green
  | side
  deriving DecidableEq, Repr

/-- The cycle limits held from the booking (R46). -/
structure Limits where
  g : Nat
  xMax : Nat
  eMax : Nat
  m : Nat
  r : Nat
  deriving DecidableEq, Repr

/-- The window fields that a booking sets (section 5.2): present once booked. -/
structure Cycle where
  lc : Nat
  greenEnd : Ct
  phase : Phase
  x : Nat
  y : Nat
  drift : Int
  held : Limits
  deriving DecidableEq, Repr

/-- The window of a coordinated junction: its cycle is absent between an entry into SEEK and the
booking that goes with it (R65, R76). -/
structure Window where
  start : Ct
  seekCount : Nat
  cycle : Option Cycle
  deriving DecidableEq, Repr

/-- The state of a configured junction's context (R63); UNUSED positions have no context. -/
inductive Coordination where
  | free (cause : FreeCause)
  | seek (w : Window)
  | inStep (w : Window)
  | preempt (start deadline : Ct) (ret : ReturnState)
  deriving DecidableEq, Repr

/-- A configured junction: its geometry (section 2.2) and its context (section 5.2). A spillback flag
is set exactly when its expiry is present (R90). -/
structure Junction where
  link : Option Nat
  smin : Nat
  state : Coordination
  lockout : Nat
  granted : Bool
  spillIn : Option Ct
  spillOut : Option Ct
  deriving DecidableEq, Repr

/-! ## Records (chapters 7 and 8) -/

/-- The cause of a retirement (R104, R125). -/
inductive RetireCause where
  | exited
  | dissolved
  | merged
  | lost
  | cancelled
  | evicted
  | cleared
  | checkedOut
  | expired
  deriving DecidableEq, Repr

/-- A retirement note (R102, R125). -/
structure RetirementNote where
  gen : Fin 16
  cause : RetireCause
  time : Ct
  deriving DecidableEq, Repr

/-- A slot of a record collection: live, or empty with or without a note (R102, R125). -/
structure Slot (α : Type) where
  gen : Fin 16
  live : Option α
  note : Option RetirementNote
  deriving DecidableEq, Repr

/-- A platoon record (R105); its tail ETA is its head ETA plus its spread. -/
structure Platoon where
  dir : Direction
  origin : Option Nat
  cur : Nat
  head : Ct
  spread : Nat
  count : Nat
  links : Nat
  lastPassage : Option Ct
  lost : Ct
  deriving DecidableEq, Repr

/-- A priority class (R126). -/
inductive PriorityClass where
  | regular
  | late
  deriving DecidableEq, Repr

/-- The kind of a grant (R97). -/
inductive GrantKind where
  | extension
  | early
  deriving DecidableEq, Repr

/-- A priority record (R126): WAITING while its grant is absent, GRANTED with its kind and time. -/
structure Priority where
  tag : Nat
  junction : Nat
  dir : Direction
  cls : PriorityClass
  eta : Ct
  expiry : Ct
  grant : Option (GrantKind × Ct)
  deriving DecidableEq, Repr

/-! ## Discrete inputs (chapter 9) -/

/-- The function of an input; PLAN_FORCE carries its plan (section 9.2). -/
inductive InputFunction where
  | none
  | editEnable
  | corridorFree
  | planForce (plan : Nat)
  deriving DecidableEq, Repr

/-- The polarity of an input. -/
inductive Polarity where
  | activeLow
  | activeHigh
  deriving DecidableEq, Repr

/-- An input channel (section 9.2). -/
structure Input where
  func : InputFunction
  polarity : Polarity
  assertTime : Nat
  releaseTime : Nat
  raw : Level
  runStart : Option Ct
  validated : Bool
  deriving DecidableEq, Repr

/-! ## Request port (chapter 10) -/

/-- The class of a result frame (R160). -/
inductive ResultClass where
  | none
  | done
  | refused
  deriving DecidableEq, Repr

/-- The reason of a result frame (table of R160). -/
inductive Reason where
  | none | clamped | merged | dissolved | exiting | evicted | noMatch | updated | pending | noChange
  | pendingCancelled | overridden | refreshed
  | unknownRequest | badFrame | locked | outOfRange | notConfigured | staleId | wrongJunction
  | noSuchRecord | tableFull | inUse | noClock | noPlan | planInvalid | wrongState | excluded
  deriving DecidableEq, Repr

/-- A result frame (R160, R173); `last` is its END flag. -/
structure ResultFrame where
  code : Byte
  cls : ResultClass
  reason : Reason
  w : Bool
  f : Bool
  more : Bool
  last : Bool
  payload : List Byte
  deriving DecidableEq, Repr

/-- The state of the request port (section 10.1). EXECUTING holds the result that completion will hold,
or, once a PORT_RESET has acted, discard (R159). -/
inductive PortState where
  | idle
  | executing (frame : ResultFrame) (discard : Bool)
  | result (frame : ResultFrame)
  deriving DecidableEq, Repr

/-- The collection a list sequence reads and its filters; an absent junction is ANY, an absent
direction is BOTH (section 10.4). -/
inductive ListFilter where
  | platoons (junction : Option Nat) (dir : Option Direction)
  | priorities (junction : Option Nat)
  deriving DecidableEq, Repr

/-- An open list sequence: its filters and its cursor, the key of the last record returned (R162). -/
structure ListSequence where
  filter : ListFilter
  keyTime : Ct
  keySlot : Nat
  deriving DecidableEq, Repr

/-- The request port. `sdo` is the model's own view of the data-out line: the bytes clocked out in the
last transaction. -/
structure Port where
  state : PortState
  rejected : Bool
  sequence : Option ListSequence
  editLock : Bool
  sdo : List Byte
  deriving DecidableEq, Repr

/-! ## Alert unit (chapter 11) -/

/-- The mode of the ALERT pin. -/
inductive PinMode where
  | level
  | pulse
  deriving DecidableEq, Repr

/-- The alert unit: the latched sources that are set, its configuration and its pulse end (11.2). -/
structure Alerts where
  latched : SourceSet
  enable : SourceSet
  global : Bool
  mode : PinMode
  wMask : SourceSet
  fMask : SourceSet
  pulseEnd : Option Ct
  deriving DecidableEq, Repr

/-! ## The whole part -/

/-- The state of the ZC24. The configured junctions are those of the list, so N is its length and a
position at or above N is UNUSED (R63). `blink` counts the 125 ms of the STATUS blink patterns since the
end of reset, modulo 8 (R152). `inReset` is true while the RESET pin is held low (R174). `pending` is the
model's own queue of waiting commands, first in first out. -/
structure State where
  inReset : Bool
  time : TimeBase
  settings : Settings
  groups : Vector GroupRange Config.groupCount
  junctions : List Junction
  plans : Vector (Option Plan) Config.planCount
  selector : Selector
  platoons : Vector (Slot Platoon) Config.platoonSlots
  priorities : Vector (Slot Priority) Config.prioritySlots
  inputs : Vector Input Config.inputCount
  blink : Fin 8
  port : Port
  alerts : Alerts
  pending : List Instr
  deriving DecidableEq, Repr

/-! ## Reset values -/

/-- The empty attribute set. -/
def Attributes.empty : Attributes := ⟨false, false, false, false⟩

/-- An input channel as the table of 9.2 gives it after reset. Its raw level before the first sample is
high, the level that is inactive under the reset polarity: DESIGN CHOICE, unsafe (log 2). -/
def Input.reset : Input :=
  { func := .none, polarity := .activeLow, assertTime := 2, releaseTime := 2, raw := .high, runStart := none
    validated := false }

/-- The time base after reset (R1, R3, R7, R11). The held SYNC level is the level present as reset ends,
an input of the part; here it is low: DESIGN CHOICE, unsafe (log 1). -/
def TimeBase.reset : TimeBase :=
  { ct := 0, clock := ⟨1, 0, 0, 0, 0, false⟩, lastPulse := 0, syncHeld := .low, syncLost := false
    edgeDue := false, markDue := false, boundaryDue := false }

/-- The machine right after reset: every field at the reset value its chapter gives, nothing waiting. -/
def State.reset : State :=
  { inReset := false
    time := TimeBase.reset
    settings := ⟨0, 0, 50, 400, 300, 3000, false, 50⟩
    groups := Vector.replicate _ ⟨0, 0, Attributes.empty⟩
    junctions := []
    plans := Vector.replicate _ none
    selector := ⟨Vector.replicate _ ⟨false, 0, 0, 0, 0⟩, 0, false, 0, 0, none, none, none⟩
    platoons := Vector.replicate _ ⟨0, none, none⟩
    priorities := Vector.replicate _ ⟨0, none, none⟩
    inputs := Vector.replicate _ Input.reset
    blink := 0
    port := ⟨.idle, false, none, false, []⟩
    alerts := ⟨0, 0, false, .level, 0, 0, none⟩
    pending := [] }

/-! ## One update per block -/

/-- The state with the part held in reset, or not. -/
def State.setInReset (s : State) (v : Bool) : State := { s with inReset := v }
/-- The state with another time base. -/
def State.setTime (s : State) (v : TimeBase) : State := { s with time := v }
/-- The state with other corridor settings. -/
def State.setSettings (s : State) (v : Settings) : State := { s with settings := v }
/-- The state with other group ranges. -/
def State.setGroups (s : State) (v : Vector GroupRange Config.groupCount) : State := { s with groups := v }
/-- The state with other configured junctions. -/
def State.setJunctions (s : State) (v : List Junction) : State := { s with junctions := v }
/-- The state with another plan store. -/
def State.setPlans (s : State) (v : Vector (Option Plan) Config.planCount) : State := { s with plans := v }
/-- The state with another plan selector. -/
def State.setSelector (s : State) (v : Selector) : State := { s with selector := v }
/-- The state with another platoon table. -/
def State.setPlatoons (s : State) (v : Vector (Slot Platoon) Config.platoonSlots) : State :=
  { s with platoons := v }
/-- The state with another priority list. -/
def State.setPriorities (s : State) (v : Vector (Slot Priority) Config.prioritySlots) : State :=
  { s with priorities := v }
/-- The state with other discrete inputs. -/
def State.setInputs (s : State) (v : Vector Input Config.inputCount) : State := { s with inputs := v }
/-- The state with another blink phase. -/
def State.setBlink (s : State) (v : Fin 8) : State := { s with blink := v }
/-- The state with another request port. -/
def State.setPort (s : State) (v : Port) : State := { s with port := v }
/-- The state with another alert unit. -/
def State.setAlerts (s : State) (v : Alerts) : State := { s with alerts := v }
/-- The state with another queue of waiting commands. -/
def State.setPending (s : State) (v : List Instr) : State := { s with pending := v }

end Sys2Proof.Machine
end

