-- ==== Sys2Proof/Machine/Ops.lean ====
section
/-! DEFINITION. The shared operations over times, slots, junctions and the state: wrap-safe comparison
(R2), the record slots (R102 to R104, R125), the effective attributes (R27), and the combined conditions
that other blocks read (R15, R52, R148, R150). -/

namespace Sys2Proof.Machine

/-! ## Corridor time (R1, R2) -/

/-- The duration from `a` to `b`: (b − a) mod 2^32 (R2). -/
def ahead (a b : Ct) : Nat := (b - a).toNat

/-- Time `a` is before time `b`: (b − a) mod 2^32 lies in 1 to 2^31 − 1 (R2). -/
def before (a b : Ct) : Bool := 1 ≤ ahead a b && ahead a b ≤ 2147483647

/-- Time `a` is at or before time `b` (R2). -/
def atOrBefore (a b : Ct) : Bool := ahead a b ≤ 2147483647

/-- `d` deciseconds after `t`, modulo 2^32 (R2). -/
def plus (t : Ct) (d : Nat) : Ct := t + BitVec.ofNat 32 d

/-- `d` deciseconds before `t`, modulo 2^32 (R2). -/
def minus (t : Ct) (d : Nat) : Ct := t - BitVec.ofNat 32 d

/-- The earlier of two times; the first where neither is before the other. -/
def earlier (a b : Ct) : Ct := if before b a then b else a

/-- The later of two times; the first where neither is before the other. -/
def later (a b : Ct) : Ct := if before a b then b else a

/-- The wrap-safe difference of two times, in either sense (R111, R117). -/
def apart (a b : Ct) : Nat := min (ahead a b) (ahead b a)

/-! ## Lists and tables -/

/-- The number as an index below `n`, where it is one. -/
def index? (n i : Nat) : Option (Fin n) := if h : i < n then some ⟨i, h⟩ else none

/-- A table with one entry replaced. -/
def put {α : Type} {n : Nat} (v : Vector α n) (k : Fin n) (x : α) : Vector α n := v.set k.val x k.isLt

/-- A table with a function applied to every entry. -/
def mapTable {α β : Type} {n : Nat} (f : α → β) (v : Vector α n) : Vector β n :=
  ⟨(v.toList.map f).toArray, by simp⟩

/-- The first element that no other element beats under a strict comparison. -/
def best {α : Type} (beats : α → α → Bool) : List α → Option α
  | [] => none
  | x :: xs => some (xs.foldl (fun b y => if beats y b then y else b) x)

/-- A function applied to every element with its index. -/
def mapIndexed {α β : Type} (f : Nat → α → β) : Nat → List α → List β
  | _, [] => []
  | i, x :: xs => f i x :: mapIndexed f (i + 1) xs

/-! ## Record slots (R102 to R104, R125) -/

/-- A slot given a new record: its generation advances and its note is discarded (R102, R125). -/
def Slot.place {α : Type} (s : Slot α) (r : α) : Slot α := { gen := s.gen + 1, live := some r, note := none }

/-- A slot whose record, if it has one, is retired: empty, the generation kept, with a note (R104, R125). -/
def Slot.retire {α : Type} (s : Slot α) (cause : RetireCause) (now : Ct) : Slot α :=
  match s.live with
  | none => s
  | some _ => { gen := s.gen, live := none, note := some ⟨s.gen, cause, now⟩ }

/-- The live records of a collection with their slots, in rising slot order. -/
def lives {α : Type} {n : Nat} (v : Vector (Slot α) n) : List (Fin n × α) :=
  (List.finRange n).filterMap fun k => v[k].live.map fun r => (k, r)

/-- The lowest-numbered empty slot (R114, R131). -/
def lowestEmpty {α : Type} {n : Nat} (v : Vector (Slot α) n) : Option (Fin n) :=
  (List.finRange n).find? fun k => v[k].live.isNone

/-- The record an identifier names: the slot is live with the carried generation (R103, R127). -/
def named {α : Type} {n : Nat} (v : Vector (Slot α) n) (k : Fin n) (gen : Nat) : Option α :=
  if v[k].gen.val = gen then v[k].live else none

/-- The note a STALE_ID result carries: the slot is empty and its note has the carried generation
(R103, R127). -/
def staleNote {α : Type} {n : Nat} (v : Vector (Slot α) n) (k : Fin n) (gen : Nat) : Option RetirementNote :=
  if v[k].live.isNone then v[k].note.filter fun note => note.gen.val == gen else none

/-- A collection with one live record replaced in its slot, under its identifier. -/
def rewrite {α : Type} {n : Nat} (v : Vector (Slot α) n) (k : Fin n) (r : α) : Vector (Slot α) n :=
  put v k { v[k] with live := some r }

/-- A collection with the record of one slot retired. -/
def retireAt {α : Type} {n : Nat} (v : Vector (Slot α) n) (k : Fin n) (cause : RetireCause) (now : Ct) :
    Vector (Slot α) n :=
  put v k (v[k].retire cause now)

/-- A collection with every record retired with one cause. -/
def retireAll {α : Type} {n : Nat} (v : Vector (Slot α) n) (cause : RetireCause) (now : Ct) :
    Vector (Slot α) n :=
  mapTable (fun s => s.retire cause now) v

/-! ## The hold in reset (R174) -/

/-- What a command does to a part that runs. While the part is held in reset no count is made, no event is taken
and no transaction reaches the port: the state stays (R174). -/
def run (f : State → State) (s : State) : Host.Outcome State Fault Refusal := .next (if s.inReset then s else f s)

/-! ## Reading the state -/

/-- The present count of CT, the now of every event (conventions of 00_scope.md). -/
def State.now (s : State) : Ct := s.time.ct

/-- The number N of configured junctions. -/
def State.n (s : State) : Nat := s.junctions.length

/-- The number of the active plan; 0 when no coordinated plan is active. -/
def State.activeNumber (s : State) : Nat := (s.selector.active.map ActivePlan.number).getD 0

/-- The record of plan `p`, where `p` is 1 to 8 and the record is full. -/
def State.planRecord (s : State) (p : Nat) : Option Plan :=
  if p = 0 then none else (index? Config.planCount (p - 1)).bind fun k => s.plans[k]

/-- The active coordinated plan with its record. -/
def State.activeRecord (s : State) : Option (ActivePlan × Plan) :=
  s.selector.active.bind fun a => (s.planRecord a.number).map fun p => (a, p)

/-- The target plan: the pending plan when one is pending, the active plan otherwise (R52). -/
def State.target (s : State) : Nat := s.selector.pendingPlan.getD s.activeNumber

/-- The state with the live data of the active plan replaced. -/
def State.setActive (s : State) (a : ActivePlan) : State :=
  s.setSelector { s.selector with active := some a }

/-- The state with junction `j` replaced by a function of it; nothing when `j` is not configured. -/
def State.updateJunction (s : State) (j : Nat) (f : Junction → Junction) : State :=
  s.setJunctions (s.junctions.modify j f)

/-! ## Attributes (R27) -/

/-- The union of two attribute sets. -/
def Attributes.union (a b : Attributes) : Attributes :=
  ⟨a.exclude || b.exclude, a.queueGuard || b.queueGuard, a.noPriority || b.noPriority, a.noExtend || b.noExtend⟩

/-- A range entry covers junction `j`, for `j` below N (R27). -/
def GroupRange.covers (g : GroupRange) (j : Nat) : Bool := g.first ≤ j && j < g.first + g.count

/-- The effective attribute set of junction `j`: the union over the entries that cover it (R27). -/
def effective (groups : Vector GroupRange Config.groupCount) (j : Nat) : Attributes :=
  groups.toList.foldl (fun acc g => if g.covers j then acc.union g.attrs else acc) Attributes.empty

/-- The effective attribute set of junction `j` as the corridor table stands. -/
def State.attributes (s : State) (j : Nat) : Attributes := effective s.groups j

/-! ## Inputs (R52, R148, R150) -/

/-- The input has the given function and is validated active. -/
def Input.asserts (i : Input) (f : InputFunction) : Bool := i.validated && i.func == f

/-- The plan an asserted PLAN_FORCE input supplies. -/
def Input.forces (i : Input) : Option Nat :=
  match i.func with
  | .planForce p => if i.validated then some p else none
  | .none | .editEnable | .corridorFree => none

/-- CORRIDOR_FREE is validated active (R148). -/
def State.corridorFree (s : State) : Bool := s.inputs.toList.any fun i => i.asserts .corridorFree

/-- The asserted PLAN_FORCE input of the lowest index, with its plan (R52). -/
def State.forced (s : State) : Option (Nat × Nat) :=
  (List.finRange Config.inputCount).findSome? fun k => (s.inputs[k].forces).map fun p => (k.val, p)

/-- The edit gate is open (R150). -/
def State.editGate (s : State) : Bool :=
  s.inputs.toList.all (fun i => i.func != .editEnable) || s.inputs.toList.any fun i => i.asserts .editEnable

/-! ## Junction contexts -/

/-- The window of a coordinated state. -/
def Coordination.window? : Coordination → Option Window
  | .seek w | .inStep w => some w
  | .free _ | .preempt _ _ _ => none

/-- The same coordinated state with another window; other states are unchanged. -/
def Coordination.setWindow (c : Coordination) (w : Window) : Coordination :=
  match c with
  | .seek _ => .seek w
  | .inStep _ => .inStep w
  | .free cause => .free cause
  | .preempt start deadline ret => .preempt start deadline ret

/-- The booked cycle of a coordinated junction (R65). -/
def Junction.cycle? (j : Junction) : Option Cycle := j.state.window?.bind Window.cycle

/-- The state is SEEK. -/
def Coordination.isSeek : Coordination → Bool
  | .seek _ => true
  | .free _ | .inStep _ | .preempt _ _ _ => false

/-- The state is IN_STEP. -/
def Coordination.isInStep : Coordination → Bool
  | .inStep _ => true
  | .free _ | .seek _ | .preempt _ _ _ => false

/-- The state is PREEMPT. -/
def Coordination.isPreempt : Coordination → Bool
  | .preempt _ _ _ => true
  | .free _ | .seek _ | .inStep _ => false

/-- The state is FREE(FAULT). -/
def Coordination.isFault (c : Coordination) : Bool := c == .free .fault

/-- How many junctions are in a state that a test accepts (R16). -/
def State.countJunctions (s : State) (p : Coordination → Bool) : Nat :=
  s.junctions.countP fun j => p j.state

/-- Some junction is in a state that a test accepts. -/
def State.anyJunction (s : State) (p : Coordination → Bool) : Bool := s.junctions.any fun j => p j.state

/-- An entry into SEEK: seek count 0, local cycle start now, and a booking owed at once (R76). -/
def enterSeek (now : Ct) : Coordination := .seek { start := now, seekCount := 0, cycle := none }

/-- The state that a preemption's end puts the junction into (R141). -/
def ReturnState.enter (r : ReturnState) (now : Ct) : Coordination :=
  match r with
  | .plan0 => .free .plan0
  | .excluded => .free .excluded
  | .corridorFree => .free .corridorFree
  | .seek => enterSeek now

/-- The spillback flag of a direction, as its expiry (R90). -/
def Junction.spill (j : Junction) (d : Direction) : Option Ct :=
  match d with
  | .inbound => j.spillIn
  | .outbound => j.spillOut

/-- The junction with the spillback flag of one direction set or cleared. -/
def Junction.setSpill (j : Junction) (d : Direction) (e : Option Ct) : Junction :=
  match d with
  | .inbound => { j with spillIn := e }
  | .outbound => { j with spillOut := e }

/-! ## Platoon records -/

/-- The tail ETA: head ETA plus spread (R105). -/
def Platoon.tail (p : Platoon) : Ct := plus p.head p.spread

/-- The live records of the platoon table. -/
def State.livePlatoons (s : State) : List (Fin Config.platoonSlots × Platoon) := lives s.platoons

/-- The live records of the priority list. -/
def State.livePriorities (s : State) : List (Fin Config.prioritySlots × Priority) := lives s.priorities

/-- The record is WAITING (R126). -/
def Priority.waiting (r : Priority) : Bool := r.grant.isNone

/-! ## Corridor stage and STATUS output (R15, R152) -/

/-- The corridor stage. -/
inductive Stage where
  | ready
  | clock
  | plan
  | locked
  deriving DecidableEq, Repr

/-- The corridor stage: the last one whose condition holds (R15). -/
def State.stage (s : State) : Stage :=
  if s.selector.active.isSome && (s.anyJunction Coordination.isSeek || s.anyJunction Coordination.isInStep)
      && !s.anyJunction Coordination.isSeek && !s.anyJunction Coordination.isFault then .locked
  else if s.time.clock.valid && s.selector.active.isSome then .plan
  else if s.time.clock.valid then .clock
  else .ready

/-- The pattern of the STATUS output. -/
inductive LampPattern where
  | off
  | steady
  | slow
  | fast
  deriving DecidableEq, Repr

/-- The STATUS pattern: the first that applies (R152). -/
def State.lampPattern (s : State) : LampPattern :=
  if !s.time.clock.valid || s.anyJunction Coordination.isFault then .fast
  else if s.anyJunction Coordination.isSeek || s.anyJunction Coordination.isPreempt then .slow
  else if s.stage = .locked then .steady
  else .off

/-- The pattern at the point its free-running phase has reached: fast blink 125 ms on and off, slow blink
500 ms on and off, both on at the end of reset (R152). -/
def State.patternOn (s : State) : Bool :=
  match s.lampPattern with
  | .off => false
  | .steady => true
  | .slow => s.blink.val < 4
  | .fast => s.blink.val % 2 = 0

/-- The drive of the STATUS pin: its pattern, and low while the part is held in reset (R152, R174). -/
def State.lampOn (s : State) : Bool := !s.inReset && s.patternOn

/-- The part drives SDO: while chip select is low and the part is not held in reset. Otherwise SDO is
high-impedance (R174). -/
def State.sdoDriven (s : State) (cs : Level) : Bool := cs == .low && !s.inReset

end Sys2Proof.Machine
end

