-- ==== Sys2Proof/Machine/Operands.lean ====
section
/-! DEFINITION. The operand forms of the requests: how the parameter bytes of a frame are read as the
fields of section 12.2. A parser answers none when the number of bytes is not one the request defines
(BAD_FRAME, R156); it keeps every field as carried, since the owning block checks each field at the step
of its own rule (R172). -/

namespace Sys2Proof.Machine

/-- A 2-byte number, most significant byte first (chapter 12). -/
def word16 (hi lo : Byte) : Nat := hi.toNat * 256 + lo.toNat

/-- A CT value, most significant byte first (12.1). -/
def word32 (b3 b2 b1 b0 : Byte) : Ct :=
  BitVec.ofNat 32 (((b3.toNat * 256 + b2.toNat) * 256 + b1.toNat) * 256 + b0.toNat)

/-- The byte at an offset of the parameters. -/
def at8 (ps : List Byte) (i : Nat) : Nat := (ps.getD i 0).toNat

/-- The 2-byte number at an offset of the parameters. -/
def at16 (ps : List Byte) (i : Nat) : Nat := word16 (ps.getD i 0) (ps.getD (i + 1) 0)

/-- A direction (12.1). -/
def direction? (n : Nat) : Option Direction :=
  if n = 0 then some .inbound else if n = 1 then some .outbound else none

/-- A class (12.1). -/
def class? (n : Nat) : Option PriorityClass :=
  if n = 0 then some .regular else if n = 1 then some .late else none

/-- A yes / no, on / off or set / clear byte (12.1). -/
def flag? (n : Nat) : Option Bool := if n = 0 then some false else if n = 1 then some true else none

/-- A polarity (12.1). -/
def polarity? (n : Nat) : Option Polarity :=
  if n = 0 then some .activeLow else if n = 1 then some .activeHigh else none

/-- An alert pin mode (12.1). -/
def pinMode? (n : Nat) : Option PinMode :=
  if n = 0 then some .level else if n = 1 then some .pulse else none

/-- An input function with the carried plan; a plan carried with another function is not stored (R146). -/
def inputFunction? (n plan : Nat) : Option InputFunction :=
  if n = 0 then some .none else if n = 1 then some .editEnable
  else if n = 2 then some .corridorFree else if n = 3 then some (.planForce plan) else none

/-- An attribute set: bit 0 EXCLUDE, bit 1 QUEUE_GUARD, bit 2 NO_PRIORITY, bit 3 NO_EXTEND; any of bits
4 to 7 is undefined (12.1, R172). -/
def attributes? (n : Nat) : Option Attributes :=
  if n < 16 then some ⟨n.testBit 0, n.testBit 1, n.testBit 2, n.testBit 3⟩ else none

/-- A day mask: bit 0 Monday to bit 6 Sunday; bit 7 is undefined (12.1, R172). -/
def dayMask? (n : Nat) : Option (BitVec 7) := if n < 128 then some (BitVec.ofNat 7 n) else none

/-- An alert source set; any of bits 13 to 15 is undefined (12.1, R172). -/
def sourceSet? (n : Nat) : Option SourceSet := if n < 8192 then some (BitVec.ofNat 13 n) else none

/-- Two BCD digits in one byte (section 12.1, clock fields). -/
def bcd? (b : Nat) : Option Nat := if b / 16 ≤ 9 && b % 16 ≤ 9 then some (b / 16 * 10 + b % 16) else none

/-- A junction filter: 0 to 23, or 255 for ANY, as an absent junction (12.1). -/
def junctionFilter? (n : Nat) : Option (Option Nat) :=
  if n < Config.maxJunctions then some (some n) else if n = 255 then some none else none

/-- A direction filter: a direction, or 2 for BOTH, as an absent direction (12.1). -/
def directionFilter? (n : Nat) : Option (Option Direction) :=
  if n = 2 then some none else (direction? n).map some

/-- The parameters of a request that carries none. -/
def parseNone (ps : List Byte) : Option Unit :=
  match ps with
  | [] => some ()
  | _ :: _ => none

/-- The parameters of a request that carries one byte. -/
def parseByte (ps : List Byte) : Option Nat :=
  match ps with
  | [a] => some a.toNat
  | _ => none

/-- An identifier: slot, then generation (12.1). -/
structure Identifier where
  slot : Nat
  gen : Nat
  deriving DecidableEq, Repr

/-- The parameters of a request that carries one identifier. -/
def parseIdentifier (ps : List Byte) : Option Identifier :=
  match ps with
  | [a, b] => some ⟨a.toNat, b.toNat⟩
  | _ => none

/-- The clock fields of SET CLOCK, each as decoded from BCD, absent where a digit is above 9. -/
structure ClockFields where
  day : Option Nat
  hour : Option Nat
  minute : Option Nat
  second : Option Nat
  deriving DecidableEq, Repr

/-- SET CLOCK: clock bytes 0 to 3 (12.2). -/
def parseSetClock (ps : List Byte) : Option ClockFields :=
  match ps with
  | [a, b, c, d] => some ⟨bcd? a.toNat, bcd? b.toNat, bcd? c.toNat, bcd? d.toNat⟩
  | _ => none

/-- The nine settings of SET CORRIDOR as carried; sync enable is still a byte. -/
structure CorridorFields where
  n : Nat
  entryIn : Nat
  entryOut : Nat
  gm : Nat
  dl : Nat
  lm : Nat
  pmax : Nat
  sync : Nat
  ts : Nat
  deriving DecidableEq, Repr

/-- SET CORRIDOR (12.2). -/
def parseSetCorridor (ps : List Byte) : Option CorridorFields :=
  if ps.length = 16 then
    some ⟨at8 ps 0, at16 ps 1, at16 ps 3, at16 ps 5, at16 ps 7, at16 ps 9, at16 ps 11, at8 ps 13, at16 ps 14⟩
  else none

/-- The fields of SET JUNCTION. -/
structure JunctionFields where
  j : Nat
  link : Nat
  smin : Nat
  deriving DecidableEq, Repr

/-- SET JUNCTION (12.2). -/
def parseSetJunction (ps : List Byte) : Option JunctionFields :=
  match ps with
  | [j, l1, l0, s1, s0] => some ⟨j.toNat, word16 l1 l0, word16 s1 s0⟩
  | _ => none

/-- The fields of SET GROUP. -/
structure GroupFields where
  index : Nat
  first : Nat
  count : Nat
  attrs : Nat
  deriving DecidableEq, Repr

/-- SET GROUP (12.2). -/
def parseSetGroup (ps : List Byte) : Option GroupFields :=
  match ps with
  | [i, f, c, a] => some ⟨i.toNat, f.toNat, c.toNat, a.toNat⟩
  | _ => none

/-- SET PLAN: the plan number and a complete set of fields (12.2). -/
def parseSetPlan (ps : List Byte) : Option (Nat × Plan) :=
  if ps.length = 69 then
    some (at8 ps 0,
      { c := at16 ps 1, b := at16 ps 3, w := at8 ps 5, o0 := at16 ps 6, vIn := at8 ps 8, vOut := at8 ps 9
        s := at16 ps 10, hIn := at8 ps 12, hOut := at8 ps 13, k := at8 ps 14, xMax := at16 ps 15
        eMax := at16 ps 17, m := at8 ps 19, r := at8 ps 20
        g := ⟨((List.range Config.maxJunctions).map fun j => at16 ps (21 + 2 * j)).toArray, by simp⟩ })
  else none

/-- The fields of SET SCHEDULE ENTRY. -/
structure ScheduleFields where
  index : Nat
  enabled : Nat
  days : Nat
  hour : Nat
  minute : Nat
  plan : Nat
  deriving DecidableEq, Repr

/-- SET SCHEDULE ENTRY (12.2). -/
def parseSetScheduleEntry (ps : List Byte) : Option ScheduleFields :=
  match ps with
  | [i, e, d, h, m, p] => some ⟨i.toNat, e.toNat, d.toNat, h.toNat, m.toNat, p.toNat⟩
  | _ => none

/-- The fields of SPILLBACK. -/
structure SpillbackFields where
  j : Nat
  dir : Nat
  on : Nat
  deriving DecidableEq, Repr

/-- SPILLBACK (12.2). -/
def parseSpillback (ps : List Byte) : Option SpillbackFields :=
  match ps with
  | [j, d, o] => some ⟨j.toNat, d.toNat, o.toNat⟩
  | _ => none

/-- The fields of PLATOON SEEN; an absent junction is the entry form. -/
structure SeenFields where
  j : Option Nat
  dir : Nat
  t : Ct
  count : Nat
  spread : Nat
  deriving DecidableEq, Repr

/-- PLATOON SEEN: 9 bytes in the junction form, 8 in the entry form (12.2, R156). -/
def parsePlatoonSeen (ps : List Byte) : Option SeenFields :=
  match ps with
  | [j, d, t3, t2, t1, t0, c, s1, s0] =>
    some ⟨some j.toNat, d.toNat, word32 t3 t2 t1 t0, c.toNat, word16 s1 s0⟩
  | [d, t3, t2, t1, t0, c, s1, s0] => some ⟨none, d.toNat, word32 t3 t2 t1 t0, c.toNat, word16 s1 s0⟩
  | _ => none

/-- The fields of PASSAGE. -/
structure PassageFields where
  j : Nat
  dir : Nat
  t : Ct
  id : Option Identifier
  deriving DecidableEq, Repr

/-- PASSAGE: 6 bytes without an identifier, 8 with one (12.2, R156). -/
def parsePassage (ps : List Byte) : Option PassageFields :=
  match ps with
  | [j, d, t3, t2, t1, t0] => some ⟨j.toNat, d.toNat, word32 t3 t2 t1 t0, none⟩
  | [j, d, t3, t2, t1, t0, k, g] => some ⟨j.toNat, d.toNat, word32 t3 t2 t1 t0, some ⟨k.toNat, g.toNat⟩⟩
  | _ => none

/-- The two filters of LIST PLATOONS (12.2). -/
def parseListPlatoons (ps : List Byte) : Option (Nat × Nat) :=
  match ps with
  | [j, d] => some (j.toNat, d.toNat)
  | _ => none

/-- The fields of CHECK IN. -/
structure CheckInFields where
  j : Nat
  dir : Nat
  tag : Nat
  cls : Nat
  eta : Ct
  deriving DecidableEq, Repr

/-- CHECK IN (12.2). -/
def parseCheckIn (ps : List Byte) : Option CheckInFields :=
  match ps with
  | [j, d, t1, t0, c, e3, e2, e1, e0] => some ⟨j.toNat, d.toNat, word16 t1 t0, c.toNat, word32 e3 e2 e1 e0⟩
  | _ => none

/-- The two forms of CHECK OUT. -/
inductive CheckOutForm where
  | byId (id : Identifier)
  | byTag (tag j : Nat)
  deriving DecidableEq, Repr

/-- CHECK OUT: 2 bytes by identifier, 3 by tag and junction (12.2, R156). -/
def parseCheckOut (ps : List Byte) : Option CheckOutForm :=
  match ps with
  | [k, g] => some (.byId ⟨k.toNat, g.toNat⟩)
  | [t1, t0, j] => some (.byTag (word16 t1 t0) j.toNat)
  | _ => none

/-- The fields of SET INPUT. -/
structure InputFields where
  index : Nat
  func : Nat
  plan : Nat
  polarity : Nat
  assertTime : Nat
  releaseTime : Nat
  deriving DecidableEq, Repr

/-- SET INPUT (12.2). -/
def parseSetInput (ps : List Byte) : Option InputFields :=
  match ps with
  | [i, f, p, q, a, r] => some ⟨i.toNat, f.toNat, p.toNat, q.toNat, a.toNat, r.toNat⟩
  | _ => none

/-- The fields of SET ALERT CONFIG. -/
structure AlertFields where
  enable : Nat
  global : Nat
  mode : Nat
  wMask : Nat
  fMask : Nat
  deriving DecidableEq, Repr

/-- SET ALERT CONFIG (12.2). -/
def parseSetAlertConfig (ps : List Byte) : Option AlertFields :=
  match ps with
  | [e1, e0, g, m, w1, w0, f1, f0] => some ⟨word16 e1 e0, g.toNat, m.toNat, word16 w1 w0, word16 f1 f0⟩
  | _ => none

/-- The mask of ACKNOWLEDGE ALERTS (12.2). -/
def parseMask (ps : List Byte) : Option Nat :=
  match ps with
  | [m1, m0] => some (word16 m1 m0)
  | _ => none

end Sys2Proof.Machine
end

