-- ==== Sys2Proof/Machine/Flags.lean ====
section
/-! DEFINITION. The alert flags: the thirteen sources and their bits (12.1), the level sources (R167),
the pending and active sets, the W and F flags (R161), the ALERT pin and the pulse a joining source
starts (R169), and the port status byte (R158). -/

namespace Sys2Proof.Machine

/-- The thirteen alert sources, in the order of their bits (12.1). -/
inductive AlertSource where
  | clockInvalid | syncLost | junctionFault | preemptActive | resultReady
  | planChanged | planRejected | syncSlip | platoonEvicted | platoonRefused
  | priorityExpired | preemptTimeout | seekFault
  deriving DecidableEq, Repr

/-- The bit of a source in an alert source set (12.1). -/
def AlertSource.bit : AlertSource → Nat
  | .clockInvalid => 0
  | .syncLost => 1
  | .junctionFault => 2
  | .preemptActive => 3
  | .resultReady => 4
  | .planChanged => 5
  | .planRejected => 6
  | .syncSlip => 7
  | .platoonEvicted => 8
  | .platoonRefused => 9
  | .priorityExpired => 10
  | .preemptTimeout => 11
  | .seekFault => 12

/-- The set that holds one source. -/
def AlertSource.only (a : AlertSource) : SourceSet := 1#13 <<< a.bit

/-- The set that holds one source when a condition is true, and is empty otherwise. -/
def AlertSource.onlyIf (a : AlertSource) (c : Bool) : SourceSet := if c then a.only else 0

/-- The source is in the set. -/
def holdsSource (set : SourceSet) (a : AlertSource) : Bool := set.getLsbD a.bit

/-- The eight latched sources (R168). -/
def latchedSources : SourceSet := 0x1FE0#13

/-- A latched source is set; a source already set stays set (R168). -/
def State.latch (s : State) (a : AlertSource) : State :=
  s.setAlerts { s.alerts with latched := s.alerts.latched ||| a.only }

/-- JUNCTION_FAULT: one or more junctions are in FREE(FAULT) (R167). -/
def State.junctionFault (s : State) : Bool := s.anyJunction Coordination.isFault

/-- PREEMPT_ACTIVE: one or more junctions are in PREEMPT (R167). -/
def State.preemptActive (s : State) : Bool := s.anyJunction Coordination.isPreempt

/-- RESULT_READY: the request port is in RESULT (R167). -/
def State.resultReady (s : State) : Bool :=
  match s.port.state with
  | .result _ => true
  | .idle | .executing _ _ => false

/-- The level sources that are true (R167). -/
def State.levelSet (s : State) : SourceSet :=
  AlertSource.clockInvalid.onlyIf (!s.time.clock.valid) ||| AlertSource.syncLost.onlyIf s.time.syncLost |||
    AlertSource.junctionFault.onlyIf s.junctionFault ||| AlertSource.preemptActive.onlyIf s.preemptActive |||
    AlertSource.resultReady.onlyIf s.resultReady

/-- The pending set: the level sources that are true and the latched sources that are set. -/
def State.pendingSet (s : State) : SourceSet := s.levelSet ||| s.alerts.latched

/-- The active set (R169). -/
def State.activeSet (s : State) : SourceSet :=
  if s.alerts.global then s.pendingSet &&& s.alerts.enable else 0

/-- The W flag (R161). -/
def State.wFlag (s : State) : Bool := s.pendingSet &&& s.alerts.wMask != 0

/-- The F flag (R161). -/
def State.fFlag (s : State) : Bool := s.pendingSet &&& s.alerts.fMask != 0 || s.junctionFault

/-- The alert unit asks for the ALERT pin: in LEVEL mode while the active set is not empty, in PULSE mode while
a pulse runs (R169). -/
def State.alertWanted (s : State) : Bool :=
  match s.alerts.mode with
  | .level => s.activeSet != 0
  | .pulse => s.alerts.pulseEnd.isSome

/-- The ALERT pin is asserted; it is released while the part is held in reset (R169, R174). -/
def State.alertPin (s : State) : Bool := !s.inReset && s.alertWanted

/-- The sources that the event from `s` to `t` brings into the active set (R169). -/
def joined (s t : State) : SourceSet := t.activeSet &&& ~~~s.activeSet

/-- The end of one event that led from `s` to `t`: in PULSE mode a joining source sets the pulse end to
now + 1, which asserts the pin (R169). -/
def settle (s t : State) : State :=
  if t.alerts.mode = .pulse && joined s t != 0 then
    t.setAlerts { t.alerts with pulseEnd := some (plus t.now 1) }
  else t

/-- The number of a port state in the status byte (R173). -/
def PortState.number : PortState → Nat
  | .idle => 0
  | .executing _ _ => 1
  | .result _ => 2

/-- The port status byte (R158, R173). -/
def State.statusByte (s : State) : Byte :=
  BitVec.ofNat 8 (s.port.state.number + 4 * s.port.rejected.toNat + 8 * s.port.sequence.isSome.toNat
    + 16 * s.port.editLock.toNat + 32 * s.wFlag.toNat + 64 * s.fFlag.toNat + 128)

end Sys2Proof.Machine
end

