-- ==== Sys2Proof/Machine/Payload.lean ====
section
/-! DEFINITION. The payloads of the result frames: the field encodings of 12.1, the presence bytes and
the item order of R172, the record encodings and the result frame of 12.2 (R173). -/

namespace Sys2Proof.Machine

/-! ## Field encodings (12.1) -/

/-- A 1-byte number. -/
def byteOf (n : Nat) : List Byte := [BitVec.ofNat 8 n]

/-- A 2-byte number, most significant byte first. -/
def wordOf (n : Nat) : List Byte := [BitVec.ofNat 8 (n / 256), BitVec.ofNat 8 n]

/-- A CT value, most significant byte first. -/
def ctOf (t : Ct) : List Byte :=
  [BitVec.ofNat 8 (t.toNat / 16777216), BitVec.ofNat 8 (t.toNat / 65536), BitVec.ofNat 8 (t.toNat / 256),
   BitVec.ofNat 8 t.toNat]

/-- A drift: two bytes, two's complement. -/
def driftOf (e : Int) : List Byte := wordOf (BitVec.ofInt 16 e).toNat

/-- A yes / no byte. -/
def flagOf (b : Bool) : List Byte := byteOf b.toNat

/-- A direction. -/
def directionOf : Direction → List Byte
  | .inbound => byteOf 0
  | .outbound => byteOf 1

/-- A class. -/
def classOf : PriorityClass → List Byte
  | .regular => byteOf 0
  | .late => byteOf 1

/-- A grant kind. -/
def grantKindOf : GrantKind → List Byte
  | .extension => byteOf 0
  | .early => byteOf 1

/-- A phase. -/
def phaseOf : Phase → List Byte
  | .green => byteOf 0
  | .side => byteOf 1

/-- An attribute set. -/
def attributesOf (a : Attributes) : List Byte :=
  byteOf (a.exclude.toNat + 2 * a.queueGuard.toNat + 4 * a.noPriority.toNat + 8 * a.noExtend.toNat)

/-- An alert source set. -/
def sourceSetOf (x : SourceSet) : List Byte := wordOf x.toNat

/-- An identifier. -/
def identifierOf (slot gen : Nat) : List Byte := byteOf slot ++ byteOf gen

/-- A retirement cause. -/
def retireCauseOf : RetireCause → List Byte
  | .exited => byteOf 0
  | .dissolved => byteOf 1
  | .merged => byteOf 2
  | .lost => byteOf 3
  | .cancelled => byteOf 4
  | .evicted => byteOf 5
  | .cleared => byteOf 6
  | .checkedOut => byteOf 7
  | .expired => byteOf 8

/-- A cause of a FREE state. -/
def freeCauseOf : FreeCause → List Byte
  | .plan0 => byteOf 0
  | .excluded => byteOf 1
  | .corridorFree => byteOf 2
  | .fault => byteOf 3

/-- A return state. -/
def returnStateOf : ReturnState → List Byte
  | .plan0 => byteOf 0
  | .excluded => byteOf 1
  | .corridorFree => byteOf 2
  | .seek => byteOf 4

/-- A context state byte, followed by the cause or return state byte. -/
def contextStateOf : Coordination → List Byte
  | .free cause => byteOf 1 ++ freeCauseOf cause
  | .seek _ => byteOf 2 ++ byteOf 0
  | .inStep _ => byteOf 3 ++ byteOf 0
  | .preempt _ _ ret => byteOf 4 ++ returnStateOf ret

/-- A corridor stage. -/
def stageOf : Stage → List Byte
  | .ready => byteOf 0
  | .clock => byteOf 1
  | .plan => byteOf 2
  | .locked => byteOf 3

/-- A STATUS drive. -/
def lampOf : LampPattern → List Byte
  | .off => byteOf 0
  | .steady => byteOf 1
  | .slow => byteOf 2
  | .fast => byteOf 3

/-- An input function, without its plan. -/
def inputFunctionOf : InputFunction → List Byte
  | .none => byteOf 0
  | .editEnable => byteOf 1
  | .corridorFree => byteOf 2
  | .planForce _ => byteOf 3

/-- The plan of an input function; 0 for any function other than PLAN_FORCE (R146). -/
def inputPlan : InputFunction → Nat
  | .planForce p => p
  | .none | .editEnable | .corridorFree => 0

/-- A polarity. -/
def polarityOf : Polarity → List Byte
  | .activeLow => byteOf 0
  | .activeHigh => byteOf 1

/-- A pin mode. -/
def pinModeOf : PinMode → List Byte
  | .level => byteOf 0
  | .pulse => byteOf 1

/-! ## Items and presence bytes (R172) -/

/-- One item of a payload: its bytes, and whether it is an optional field and is present. -/
structure Item where
  optional : Bool
  present : Bool
  bytes : List Byte
  deriving DecidableEq, Repr

/-- An item that is always carried. -/
def item (bytes : List Byte) : Item := ⟨false, true, bytes⟩

/-- An optional field of `width` bytes: absent, it keeps its place as zero bytes (R172). -/
def optItem (width : Nat) (bytes : Option (List Byte)) : Item :=
  ⟨true, bytes.isSome, bytes.getD (List.replicate width 0)⟩

/-- An optional 1-byte number. -/
def optByte (n : Option Nat) : Item := optItem 1 (n.map byteOf)

/-- An optional 2-byte number. -/
def optWord (n : Option Nat) : Item := optItem 2 (n.map wordOf)

/-- An optional CT value. -/
def optCt (t : Option Ct) : Item := optItem 4 (t.map ctOf)

/-- Up to eight marks in one byte, the first at bit 0. -/
def packBits (bits : List Bool) : Byte := BitVec.ofNat 8 (bits.foldr (fun b acc => b.toNat + 2 * acc) 0)

/-- One presence byte for each eight optional fields or part of eight (R172). -/
def presenceBytes (bits : List Bool) : List Byte :=
  (List.range ((bits.length + 7) / 8)).map fun i => packBits ((bits.drop (8 * i)).take 8)

/-- A payload: presence bytes for its optional fields, then every item in its place (R172). -/
def payloadOf (items : List Item) : List Byte :=
  presenceBytes ((items.filter Item.optional).map Item.present) ++ items.flatMap Item.bytes

/-! ## Records (12.2) -/

/-- A platoon record, 26 bytes (12.2). -/
def platoonBytes (slot gen : Nat) (p : Platoon) : List Byte :=
  identifierOf slot gen ++ [packBits [p.origin.isSome, p.lastPassage.isSome]] ++ directionOf p.dir ++
    byteOf (p.origin.getD 0) ++ byteOf p.cur ++ ctOf p.head ++ wordOf p.spread ++ ctOf p.tail ++ byteOf p.count ++
    byteOf p.links ++ ctOf (p.lastPassage.getD 0) ++ ctOf p.lost

/-- A priority record, 22 bytes (12.2). -/
def priorityBytes (slot gen : Nat) (r : Priority) : List Byte :=
  identifierOf slot gen ++ [packBits [r.grant.isSome]] ++ wordOf r.tag ++ byteOf r.junction ++ directionOf r.dir ++
    classOf r.cls ++ ctOf r.eta ++ ctOf r.expiry ++ flagOf r.grant.isSome ++
    ((r.grant.map fun g => grantKindOf g.1).getD (byteOf 0)) ++ ctOf ((r.grant.map Prod.snd).getD 0)

/-- The payload of a STALE_ID result: the slot's retirement note, or the note marked absent (R172). -/
def stalePayload (note : Option RetirementNote) : List Byte :=
  [packBits [note.isSome]] ++ byteOf ((note.map fun x => x.gen.val).getD 0) ++
    ((note.map fun x => retireCauseOf x.cause).getD (byteOf 0)) ++ ctOf ((note.map RetirementNote.time).getD 0)

/-- The clamp byte of a report's result: bit 0 t, bit 1 count, bit 2 spread, bit 3 ETA (R172). -/
def clampByte (t count spread eta : Bool) : List Byte := [packBits [t, count, spread, eta]]

/-! ## The result frame (R160, R173) -/

/-- The number of a class. -/
def ResultClass.number : ResultClass → Nat
  | .none => 0
  | .done => 1
  | .refused => 2

/-- The reason codes (12.2). -/
def Reason.number : Reason → Nat
  | .none => 0
  | .clamped => 1
  | .merged => 2
  | .dissolved => 3
  | .exiting => 4
  | .evicted => 5
  | .noMatch => 6
  | .updated => 7
  | .pending => 8
  | .noChange => 9
  | .pendingCancelled => 10
  | .overridden => 11
  | .refreshed => 12
  | .unknownRequest => 32
  | .badFrame => 33
  | .locked => 34
  | .outOfRange => 35
  | .notConfigured => 36
  | .staleId => 37
  | .wrongJunction => 38
  | .noSuchRecord => 39
  | .tableFull => 40
  | .inUse => 41
  | .noClock => 42
  | .noPlan => 43
  | .planInvalid => 44
  | .wrongState => 45
  | .excluded => 46

/-- The bytes of a result frame, header first (12.2). -/
def ResultFrame.bytes (r : ResultFrame) : List Byte :=
  [r.code] ++ byteOf r.cls.number ++ byteOf r.reason.number ++ [packBits [r.w, r.f, r.more, r.last]] ++
    byteOf r.payload.length ++ r.payload

end Sys2Proof.Machine
end

