-- ==== Sys2Proof/Machine/Port.lean ====
section
/-! DEFINITION. The request port: how a SEND is accepted, executed and answered (R154 to R156, R160,
R161), the edit gate and lock before an edit (R165), and the STATUS, RESULT and PORT_RESET transactions
(R157 to R159). -/

namespace Sys2Proof.Machine

/-- What an owning block answers: class, reason, payload and list flags (R160). -/
structure Reply where
  cls : ResultClass
  reason : Reason
  payload : List Byte
  more : Bool
  last : Bool
  deriving DecidableEq, Repr

/-- A DONE reply without list flags. -/
def doneReply (reason : Reason) (payload : List Byte) : Reply := ⟨.done, reason, payload, false, false⟩

/-- A REFUSED reply. -/
def refusedReply (reason : Reason) (payload : List Byte) : Reply := ⟨.refused, reason, payload, false, false⟩

/-- A request carried out: the state it leaves, with its reason and payload. -/
def done (reason : Reason) (payload : List Byte) (s : State) : Reply × State := (doneReply reason payload, s)

/-- A request refused with an empty payload, the state left as it was (R160). -/
def refuse (reason : Reason) (s : State) : Reply × State := (refusedReply reason [], s)

/-- A request as the port sees it: whether it is an edit, and what its owner does, absent when the
number of parameter bytes is none that the request defines. -/
structure Request where
  edit : Bool
  body : Option (State → Reply × State)

/-- The fill byte (R153). -/
def fillByte : Byte := 0x00

/-- What a SEND with `k` bytes after the type byte clocks out: the status byte at the fall of chip
select, then fill bytes (R153). -/
def sendOut (s : State) (k : Nat) : List Byte := s.statusByte :: List.replicate k fillByte

/-- The edit lock is set or the edit gate is closed (R165). -/
def State.editsLocked (s : State) : Bool := s.port.editLock || !s.editGate

/-- The port's own checks, then the owner: unknown code, length count, edit lock and gate (R156). -/
def serve (req : Option Request) (s : State) : Reply × State :=
  match req with
  | none => refuse .unknownRequest s
  | some q =>
    match q.body with
    | none => refuse .badFrame s
    | some owner => if q.edit && s.editsLocked then refuse .locked s else owner s

/-- The result frame of an executed request, with W and F formed after its effects (R160, R161). -/
def frameOf (code : Byte) (r : Reply) (t : State) : ResultFrame :=
  { code := code, cls := r.cls, reason := r.reason, w := t.wFlag, f := t.fFlag, more := r.more, last := r.last
    payload := r.payload }

/-- A SEND discarded at the rise of chip select: REJECTED is set (R154, R155). -/
def discardSend (k : Nat) (s : State) : State :=
  s.setPort { s.port with rejected := true, sdo := sendOut s k }

/-- An accepted request: REJECTED clears, the request executes whole, and the port is EXECUTING with
the result that completion will hold (R154, R156). -/
def acceptSend (code : Byte) (k : Nat) (req : Option Request) (s : State) : State :=
  let a := serve req (s.setPort { s.port with rejected := false, sdo := sendOut s k })
  let t := a.2.setPort { a.2.port with state := .executing (frameOf code a.1 a.2) false }
  settle s t

/-- A SEND of a whole frame with the given code and parameters, and so many bytes beyond it: accepted by an IDLE
port, discarded by any other (R154, R155). A fill byte is clocked out at each byte after the type byte (R153). -/
def send (code : Byte) (params : List Byte) (extra : Nat) (req : Option Request) (s : State) : State :=
  match s.port.state with
  | .idle => acceptSend code (2 + params.length + extra) req s
  | .executing _ _ | .result _ => discardSend (2 + params.length + extra) s

/-- Completion of an execution: the port enters RESULT, or, after a PORT_RESET, discards the result,
closes a sequence it opened and enters IDLE (R156, R159). Without an execution nothing completes. -/
def completeExecution (s : State) : State :=
  match s.port.state with
  | .executing frame false => settle s (s.setPort { s.port with state := .result frame })
  | .executing _ true => settle s (s.setPort { s.port with state := .idle, sequence := none })
  | .idle | .result _ => s

/-- A STATUS transaction: the status byte twice, then fill; no state of the port changes (R158). -/
def statusTransaction (n : Nat) (s : State) : State :=
  s.setPort { s.port with sdo := (s.statusByte :: s.statusByte :: List.replicate n fillByte).take (n + 1) }

/-- The frame of class NONE (R157). -/
def noneFrame (s : State) : ResultFrame :=
  { code := 0, cls := .none, reason := .none, w := s.wFlag, f := s.fFlag, more := false, last := false, payload := [] }

/-- What a RESULT transaction with `n` bytes after the type byte clocks out: the status byte, the frame
from its first byte, then fill (R153, R157). -/
def resultOut (s : State) (frame : ResultFrame) (n : Nat) : List Byte :=
  s.statusByte :: (frame.bytes ++ List.replicate n fillByte).take n

/-- A RESULT transaction: in RESULT the held frame, discarded once it has been read whole; otherwise a
frame of class NONE (R157). -/
def resultTransaction (n : Nat) (s : State) : State :=
  match s.port.state with
  | .result frame =>
    if frame.bytes.length ≤ n then settle s (s.setPort { s.port with state := .idle, sdo := resultOut s frame n })
    else s.setPort { s.port with sdo := resultOut s frame n }
  | .idle | .executing _ _ => s.setPort { s.port with sdo := resultOut s (noneFrame s) n }

/-- The port state a PORT_RESET leaves: IDLE at once, or an execution whose result will be discarded
(R159). -/
def PortState.afterReset : PortState → PortState
  | .idle => .idle
  | .executing frame _ => .executing frame true
  | .result _ => .idle

/-- A PORT_RESET transaction (R159). -/
def portReset (n : Nat) (s : State) : State :=
  settle s (s.setPort { s.port with state := s.port.state.afterReset, rejected := false, sequence := none
                                    sdo := sendOut s n })

/-- A void transaction: fill bytes after the status byte, nothing else; an incomplete type byte clocks
out no whole byte (R153). -/
def voidTransaction (bytes : List Byte) (s : State) : State :=
  s.setPort { s.port with sdo := (s.statusByte :: List.replicate bytes.length fillByte).take bytes.length }

end Sys2Proof.Machine
end

