-- ==== Sys2Proof/Machine/Contexts.lean ====
section
/-! DEFINITION. The junction contexts: what a plan taking effect, an edit, CORRIDOR_FREE and a
preemption do to one junction (R28, R29, R43 to R45, R47, R139, R141, R148, R149), and the booking
(R69 to R75). Leaving SEEK or IN_STEP withdraws the window, since no other state has one (R66). -/

namespace Sys2Proof.Machine

/-! ## Plans taking effect -/

/-- The return state of a preempted junction once a coordinated plan has taken effect (R45). -/
def returnUnderPlan (excluded corridorFree : Bool) : ReturnState :=
  if excluded then .excluded else if corridorFree then .corridorFree else .seek

/-- The return state of a preempted junction once plan 0 has taken effect (R45). -/
def returnUnderPlan0 (excluded : Bool) : ReturnState := if excluded then .excluded else .plan0

/-- A junction moved by R44: into SEEK, or FREE(CORRIDOR_FREE), lockout 0 and the flag clear. -/
def joinPlan (now : Ct) (corridorFree : Bool) (j : Junction) : Junction :=
  { j with state := if corridorFree then .free .corridorFree else enterSeek now, lockout := 0, granted := false }

/-- Stage 5 of R40 at one junction: R43 for a coordinated one, R44 for FREE(PLAN0) and FREE(FAULT), R45
for a preempted one; FREE(EXCLUDED) and FREE(CORRIDOR_FREE) keep their state. -/
def planEffect (now : Ct) (excluded corridorFree : Bool) (j : Junction) : Junction :=
  match j.state with
  | .seek w | .inStep w => { j with state := .seek { w with seekCount := 0 } }
  | .free .plan0 | .free .fault => if excluded then j else joinPlan now corridorFree j
  | .free .excluded | .free .corridorFree => j
  | .preempt start deadline _ => { j with state := .preempt start deadline (returnUnderPlan excluded corridorFree) }

/-- A junction moved to FREE by stage 3 of R47: lockout 0 and the flag clear. -/
def leaveToPlan0 (excluded : Bool) (j : Junction) : Junction :=
  { j with state := .free (if excluded then .excluded else .plan0), lockout := 0, granted := false }

/-- Stage 3 of R47 at one junction, with the return state revised as R45 states. -/
def plan0Effect (excluded : Bool) (j : Junction) : Junction :=
  match j.state with
  | .seek _ | .inStep _ | .free .fault | .free .corridorFree => leaveToPlan0 excluded j
  | .free .excluded | .free .plan0 => j
  | .preempt start deadline _ => { j with state := .preempt start deadline (returnUnderPlan0 excluded) }

/-! ## EXCLUDE gained and lost (R28, R29) -/

/-- The junction gains EXCLUDE (R28). -/
def gainExclude (j : Junction) : Junction :=
  match j.state with
  | .seek _ | .inStep _ | .free _ => { j with state := .free .excluded }
  | .preempt start deadline _ => { j with state := .preempt start deadline .excluded }

/-- Where a junction goes on losing EXCLUDE (R29). -/
def afterExclude (coordinated corridorFree : Bool) : ReturnState :=
  if coordinated then if corridorFree then .corridorFree else .seek else .plan0

/-- The junction loses EXCLUDE: it acts in FREE(EXCLUDED) or FREE(PLAN0), or in PREEMPT with one of
those as its return state (R29). -/
def loseExclude (now : Ct) (coordinated corridorFree : Bool) (j : Junction) : Junction :=
  match j.state with
  | .free .excluded | .free .plan0 => { j with state := (afterExclude coordinated corridorFree).enter now }
  | .preempt start deadline .excluded | .preempt start deadline .plan0 =>
    { j with state := .preempt start deadline (afterExclude coordinated corridorFree) }
  | .free .corridorFree | .free .fault | .seek _ | .inStep _ | .preempt _ _ .corridorFree | .preempt _ _ .seek => j

/-! ## CORRIDOR_FREE validated and released (R148, R149) -/

/-- CORRIDOR_FREE is validated: a coordinated junction is withdrawn to FREE(CORRIDOR_FREE), and a return
state of SEEK is revised (R148). -/
def freeByCorridor (j : Junction) : Junction :=
  match j.state with
  | .seek _ | .inStep _ => { j with state := .free .corridorFree }
  | .preempt start deadline .seek => { j with state := .preempt start deadline .corridorFree }
  | .free _ | .preempt _ _ .plan0 | .preempt _ _ .excluded | .preempt _ _ .corridorFree => j

/-- CORRIDOR_FREE is released: a junction in FREE(CORRIDOR_FREE) enters SEEK, and a return state of
FREE(CORRIDOR_FREE) becomes SEEK (R149). -/
def rejoinCorridor (now : Ct) (j : Junction) : Junction :=
  match j.state with
  | .free .corridorFree => { j with state := enterSeek now }
  | .preempt start deadline .corridorFree => { j with state := .preempt start deadline .seek }
  | .free .plan0 | .free .excluded | .free .fault | .seek _ | .inStep _ | .preempt _ _ .plan0
  | .preempt _ _ .excluded | .preempt _ _ .seek => j

/-! ## Preemption (R139 to R142) -/

/-- The return state a PREEMPT BEGIN forms from the state it finds (R139); in PREEMPT the one held (R140). -/
def returnOf (corridorFree : Bool) (c : Coordination) : ReturnState :=
  match c with
  | .seek _ | .inStep _ => .seek
  | .free .fault => if corridorFree then .corridorFree else .seek
  | .free .plan0 => .plan0
  | .free .excluded => .excluded
  | .free .corridorFree => .corridorFree
  | .preempt _ _ ret => ret

/-- The preempt start after a PREEMPT BEGIN: now, or the one kept by a refresh (R139, R140). -/
def preemptStartOf (now : Ct) (c : Coordination) : Ct :=
  match c with
  | .preempt start _ _ => start
  | .seek _ | .inStep _ | .free _ => now

/-- A junction as a PREEMPT BEGIN leaves it, fresh or refreshed (R139, R140). -/
def beginPreempt (now : Ct) (pmax : Nat) (corridorFree : Bool) (j : Junction) : Junction :=
  { j with state := .preempt (preemptStartOf now j.state) (plus now pmax) (returnOf corridorFree j.state) }

/-- A junction as the end of its preemption leaves it (R141); one not in PREEMPT is left as it is. -/
def endPreempt (now : Ct) (j : Junction) : Junction :=
  match j.state with
  | .preempt _ _ ret => { j with state := ret.enter now }
  | .seek _ | .inStep _ | .free _ => j

/-! ## The booking (R69 to R75) -/

/-- The drift at a booking: the value congruent to P_ref − O_j modulo C for which −C < 2e ≤ C (R69). -/
def driftAt (c pRef offset : Nat) : Int :=
  let r : Int := ((pRef : Int) - (offset : Int)) % (c : Int)
  if 2 * r ≤ (c : Int) then r else r - (c : Int)

/-- The judgement of a booking (R71). -/
inductive Verdict where
  | inStep
  | seek (count : Nat)
  | fault
  deriving DecidableEq, Repr

/-- The judgement from the drift, the state and the seek count (R71). -/
def judge (p : Plan) (e : Int) (wasInStep : Bool) (count : Nat) : Verdict :=
  if wasInStep then if e.natAbs ≤ p.hOut then .inStep else .seek 0
  else if e.natAbs ≤ p.hIn then .inStep
  else if count + 1 < p.k then .seek (count + 1) else .fault

/-- The shorten capacity C − G_j − Smin_j (R73). -/
def shortenCapacity (p : Plan) (g smin : Nat) : Nat := p.c - g - smin

/-- The length of the cycle being set up, after its correction (R73, R74). -/
def correctedLength (p : Plan) (g smin : Nat) (e : Int) : Nat :=
  if 0 < e then
    if 0 < shortenCapacity p g smin then p.c - min e.natAbs (min p.s (shortenCapacity p g smin))
    else p.c + min (p.c - e.natAbs) p.s
  else if e < 0 then p.c + min e.natAbs p.s
  else p.c

/-- The split of junction `j` in a plan. -/
def Plan.split (p : Plan) (j : Nat) : Nat := p.g.toList.getD j 0

/-- The limits the cycle holds from its booking (R46). -/
def Plan.limits (p : Plan) (j : Nat) : Limits := ⟨p.split j, p.xMax, p.eMax, p.m, p.r⟩

/-- The cycle a booking sets up at `now` (R75). -/
def bookedCycle (now : Ct) (p : Plan) (j smin : Nat) (e : Int) : Cycle :=
  { lc := correctedLength p (p.split j) smin e, greenEnd := plus now (p.split j), phase := .green, x := 0, y := 0
    drift := e, held := p.limits j }

/-- A coordinated junction as a booking that faults nothing leaves it: the new cycle, the lockout
lowered and the granted-this-cycle flag cleared (R67, R75). -/
def bookInto (now : Ct) (p : Plan) (j : Nat) (e : Int) (inStep : Bool) (count : Nat) (jn : Junction) : Junction :=
  let w : Window := { start := now, seekCount := count, cycle := some (bookedCycle now p j jn.smin e) }
  { jn with state := if inStep then .inStep w else .seek w, lockout := jn.lockout - 1, granted := false }

/-- One coordinated junction at its booking (R70): judged, then faulted (R72) or corrected and set up. -/
def bookJunction (now : Ct) (p : Plan) (j : Nat) (e : Int) (jn : Junction) : Junction :=
  match jn.state with
  | .seek w | .inStep w =>
    match judge p e jn.state.isInStep w.seekCount with
    | .inStep => bookInto now p j e true 0 jn
    | .seek count => bookInto now p j e false count jn
    | .fault => { jn with state := .free .fault }
  | .free _ | .preempt _ _ _ => jn

/-- The drift of junction `j` from the reference of the active plan (R69). -/
def driftOfJunction (a : ActivePlan) (p : Plan) (j : Nat) : Int := driftAt p.c a.pRef (a.offsets.getD j 0)

/-- The booking of junction `j`: measured against the active plan as it stands, with SEEK_FAULT set when
the junction is faulted (R70, R72). -/
def book (j : Nat) (s : State) : State :=
  match s.activeRecord, s.junctions[j]? with
  | some (a, p), some jn =>
    let jn' := bookJunction s.now p j (driftOfJunction a p j) jn
    let t := s.updateJunction j fun _ => jn'
    if jn'.state.isFault && !jn.state.isFault then t.latch .seekFault else t
  | _, _ => s

/-- The time of the next booking of a window: local cycle start + Lc, or at once while the booking of an
entry into SEEK is owed (R68, R76). -/
def Window.bookingTime (w : Window) : Ct :=
  match w.cycle with
  | some c => plus w.start c.lc
  | none => w.start

end Sys2Proof.Machine
end

