-- ==== Sys2Proof/Machine/Plans.lean ====
section
/-! DEFINITION. Coordination plans: the travel times (R24, R25), the offset computation (R41, R42),
validation (R36), plans taking effect (R40, R47, R48), activation (R34 to R38) and the reference boundary
(R39). -/

namespace Sys2Proof.Machine

/-! ## Travel times (R24, R25) -/

/-- A travel time: floor((36·L + floor(v/2)) / v) ds (R24). -/
def travelTime (len v : Nat) : Nat := (36 * len + v / 2) / v

/-- An entry travel time: absent when the entry length is 0 (R25). -/
def entryTime (len v : Nat) : Option Nat := if len = 0 then none else some (travelTime len v)

/-- The travel times of links 0 to N − 2 at one speed (R24). -/
def linkTimes (js : List Junction) (v : Nat) : List Nat := js.dropLast.map fun j => travelTime (j.link.getD 0) v

/-! ## The offset computation (R41, R42) -/

/-- The inbound step a = T_in mod C (R41). -/
def inboundStep (c tIn : Nat) : Int := (tIn : Int) % (c : Int)

/-- The outbound residue b0 = (−T_out) mod C (R41). -/
def outboundResidue (c tOut : Nat) : Int := (-(tOut : Int)) % (c : Int)

/-- The outbound step b′: the value congruent to b0 modulo C with −C < 2·(b′ − a) ≤ C (R41). -/
def outboundStep (c : Nat) (a b0 : Int) : Int :=
  if 2 * (b0 - a) > (c : Int) then b0 - (c : Int)
  else if 2 * (b0 - a) ≤ -(c : Int) then b0 + (c : Int)
  else b0

/-- The increment d = floor((w·a + (16 − w)·b′ + 8) / 16), rounding toward minus infinity (R42). -/
def offsetIncrement (c w tIn tOut : Nat) : Int :=
  let a := inboundStep c tIn
  let b' := outboundStep c a (outboundResidue c tOut)
  ((w : Int) * a + (16 - (w : Int)) * b' + 8) / 16

/-- The next offset O_j = (O_{j−1} + d) mod C (R42). -/
def nextOffset (c w tIn tOut prev : Nat) : Nat := (((prev : Int) + offsetIncrement c w tIn tOut) % (c : Int)).toNat

/-- The offsets after a given one, for the links that follow (R42). -/
def offsetsAfter (c w : Nat) : Nat → List (Nat × Nat) → List Nat
  | _, [] => []
  | prev, (tIn, tOut) :: links =>
    nextOffset c w tIn tOut prev :: offsetsAfter c w (nextOffset c w tIn tOut prev) links

/-- The offsets O_0 to O_{N−1} of a plan from its link travel times (R41, R42). -/
def planOffsets (p : Plan) (tIn tOut : List Nat) : List Nat := p.o0 :: offsetsAfter p.c p.w p.o0 (tIn.zip tOut)

/-! ## The reference cycle position (R12, R14) -/

/-- The time of day in ds (conventions of 00_scope.md). -/
def DayClock.tod (k : DayClock) : Nat := ((k.hour * 60 + k.minute) * 60 + k.second) * 10 + k.tenth

/-- P_ref = (ToD − B) mod C (R12). -/
def derivePRef (p : Plan) (k : DayClock) : Nat := (((k.tod : Int) - (p.b : Int)) % (p.c : Int)).toNat

/-! ## Validation (R36) -/

/-- What an invalid plan fails: the number of the check and, for check 7, the first junction (R36). -/
structure Failure where
  check : Nat
  junction : Option Nat
  deriving DecidableEq, Repr

/-- The first junction, in rising order from `i`, with G_j + Smin_j above C. -/
def firstOverfull (p : Plan) : Nat → List Junction → Option Nat
  | _, [] => none
  | i, j :: js => if p.split i + j.smin ≤ p.c then firstOverfull p (i + 1) js else some i

/-- The first check of R36 that a full record fails, from check 2 on. -/
def failedCheck (p : Plan) (js : List Junction) : Option Failure :=
  if js.length < 2 then some ⟨2, none⟩
  else if p.c ≤ p.b then some ⟨3, none⟩
  else if p.c ≤ p.o0 then some ⟨4, none⟩
  else if p.c < p.s * 4 then some ⟨5, none⟩
  else if p.hOut < p.hIn then some ⟨6, none⟩
  else (firstOverfull p 0 js).map fun j => ⟨7, some j⟩

/-! ## Taking effect (R40, R47) -/

/-- The live data of a coordinated plan at its taking effect: stages 2 to 4 of R40. -/
def formActive (number : Nat) (p : Plan) (s : State) : ActivePlan :=
  let tIn := linkTimes s.junctions p.vIn
  let tOut := linkTimes s.junctions p.vOut
  { number := number, pRef := derivePRef p s.time.clock, tIn := tIn, tOut := tOut
    entryIn := entryTime s.settings.entryIn p.vIn, entryOut := entryTime s.settings.entryOut p.vOut
    offsets := (planOffsets p tIn tOut).take s.n }

/-- A coordinated plan takes effect: the six stages of R40. -/
def takeEffect (number : Nat) (p : Plan) (s : State) : State :=
  let t := s.setSelector { s.selector with active := some (formActive number p s), pendingPlan := none }
  let u := t.setJunctions (mapIndexed (fun j jn => planEffect s.now (s.attributes j).exclude s.corridorFree jn) 0 s.junctions)
  u.latch .planChanged

/-- Plan 0 takes effect at a reference boundary: the five stages of R47, every record retired CLEARED
(R48). -/
def takeEffectPlan0 (s : State) : State :=
  let t := s.setSelector { s.selector with active := none, pendingPlan := none }
  let u := t.setJunctions (mapIndexed (fun j jn => plan0Effect (s.attributes j).exclude jn) 0 s.junctions)
  let v := (u.setPlatoons (retireAll s.platoons .cleared s.now)).setPriorities (retireAll s.priorities .cleared s.now)
  v.latch .planChanged

/-- The reference boundary: any pending plan takes effect, and none is pending afterwards (R39). -/
def takeBoundary (s : State) : State :=
  match s.selector.pendingPlan with
  | none => s
  | some 0 => takeEffectPlan0 s
  | some (k + 1) =>
    match s.planRecord (k + 1) with
    | some p => takeEffect (k + 1) p s
    | none => s.setSelector { s.selector with pendingPlan := none }

/-! ## Activation (R34 to R38) -/

/-- The outcome of an activation. -/
inductive ActivationOutcome where
  | noChange
  | pendingCancelled
  | noClock
  | invalid (f : Failure)
  | tookEffect
  | pending
  deriving DecidableEq, Repr

/-- The state with a plan made the pending plan (R38). -/
def makePending (number : Nat) (s : State) : State :=
  s.setSelector { s.selector with pendingPlan := some number }

/-- The state with no plan pending (R34). -/
def cancelPending (s : State) : State := s.setSelector { s.selector with pendingPlan := none }

/-- An activation of a coordinated plan whose record passed validation (R37, R38). -/
def activateValid (number : Nat) (p : Plan) (s : State) : ActivationOutcome × State :=
  match s.selector.active with
  | none => (.tookEffect, takeEffect number p s)
  | some _ => (.pending, makePending number s)

/-- An activation of plan `number`, handled whole at the event that issued it (R34 to R38). -/
def activate (number : Nat) (s : State) : ActivationOutcome × State :=
  if number = s.activeNumber then
    if s.selector.pendingPlan.isSome then (.pendingCancelled, cancelPending s) else (.noChange, s)
  else if number = 0 then (.pending, makePending 0 s)
  else if !s.time.clock.valid then (.noClock, s)
  else
    match s.planRecord number with
    | none => (.invalid ⟨1, none⟩, s)
    | some p =>
      match failedCheck p s.junctions with
      | some f => (.invalid f, s)
      | none => activateValid number p s

/-- The activation was refused (R35, R36). -/
def ActivationOutcome.refused : ActivationOutcome → Bool
  | .noClock | .invalid _ => true
  | .noChange | .pendingCancelled | .tookEffect | .pending => false

/-- An activation without a request to answer: a refusal sets PLAN_REJECTED (R53, R62). -/
def activateUnanswered (number : Nat) (s : State) : State :=
  let r := activate number s
  if r.1.refused then r.2.latch .planRejected else r.2

end Sys2Proof.Machine
end

