-- ==== Sys2Proof/Machine/Selection.lean ====
section
/-! DEFINITION. The schedule and the plan selector: the schedule match (R54), the catch-up (R55), the
arbitration (R50 to R53), the operator's requests (R56 to R58), RESYNC JUNCTION (R77), and the plan and
schedule edits and reads (R32, R33, R50, R51). -/

namespace Sys2Proof.Machine

/-! ## Arbitration (R52, R53) -/

/-- The requested plan: the lowest asserted PLAN_FORCE input's, else the manual hold's, else the
scheduled plan (R52). -/
def State.arbitrate (s : State) : Nat :=
  match s.forced with
  | some (_, p) => p
  | none => if s.selector.holdOn then s.selector.holdPlan else s.selector.scheduled

/-- The state with the requested plan re-formed (R52). -/
def reform (s : State) : State := s.setSelector { s.selector with requested := s.arbitrate }

/-- A selector event: the requested plan is re-formed, and an activation is issued on a change, or, at an
event that includes a catch-up, when it differs from the target plan (R53). -/
def select (reconcile : Bool) (s : State) : State :=
  if s.arbitrate ≠ s.selector.requested || (reconcile && s.arbitrate ≠ s.target) then
    activateUnanswered s.arbitrate (reform s)
  else reform s

/-! ## Schedule match and catch-up (R54, R55) -/

/-- The entry's day mask includes a day of week 1 to 7. -/
def ScheduleEntry.onDay (e : ScheduleEntry) (day : Nat) : Bool := e.days.getLsbD (day - 1)

/-- The entry matches the clock (R54). -/
def ScheduleEntry.matchesClock (e : ScheduleEntry) (k : DayClock) : Bool :=
  e.enabled && e.onDay k.day && e.hour == k.hour && e.minute == k.minute

/-- The state with the scheduled plan and the last setting entry. -/
def setScheduled (plan : Nat) (entry : Option Nat) (s : State) : State :=
  s.setSelector { s.selector with scheduled := plan, lastEntry := entry }

/-- The schedule match: of the entries that match, the lowest index wins (R54). -/
def scheduleMatch (s : State) : State :=
  match (s.selector.schedule.toList.zipIdx).find? fun e => e.1.matchesClock s.time.clock with
  | some (e, i) => setScheduled e.plan (some i) s
  | none => s

/-- A minute mark at the selector (R54). -/
def minuteMark (s : State) : State := select false (scheduleMatch s)

/-- The week position of the clock (R55). -/
def DayClock.weekPosition (k : DayClock) : Nat := (k.day - 1) * 864000 + k.tod

/-- How far back in the week the moment of day `d` of an entry lies (R55). -/
def ScheduleEntry.distanceOn (e : ScheduleEntry) (now d : Nat) : Nat :=
  (now + 6048000 - ((d - 1) * 864000 + (e.hour * 60 + e.minute) * 600)) % 6048000

/-- The entry's distance: the least over the days in its mask; absent for a disabled entry and for an
empty mask (R55). -/
def ScheduleEntry.distance (e : ScheduleEntry) (now : Nat) : Option Nat :=
  if e.enabled then
    best (fun a b => a < b) ((([1, 2, 3, 4, 5, 6, 7] : List Nat).filter fun d => e.onDay d).map fun d => e.distanceOn now d)
  else none

/-- The entry with the least distance, the lowest index on a tie, as (distance, index, plan) (R55). -/
def nearestEntry (schedule : List ScheduleEntry) (now : Nat) : Option (Nat × Nat × Nat) :=
  best (fun a b => a.1 < b.1)
    (schedule.zipIdx.filterMap fun e => (e.1.distance now).map fun d => (d, e.2, e.1.plan))

/-- The scheduled plan as a catch-up leaves it (R55). -/
def catchUpSchedule (s : State) : State :=
  if s.time.clock.valid then
    match nearestEntry s.selector.schedule.toList s.time.clock.weekPosition with
    | some (_, i, plan) => setScheduled plan (some i) s
    | none => setScheduled 0 none s
  else setScheduled 0 none s

/-- A catch-up, with its reconcile step (R53, R55). -/
def catchUp (s : State) : State := select true (catchUpSchedule s)

/-! ## Operator requests (R56 to R58) -/

/-- The state with the manual hold set to a plan, or turned off (R56 to R58). -/
def setHold (on : Bool) (plan : Nat) (s : State) : State :=
  s.setSelector { s.selector with holdOn := on, holdPlan := plan }

/-- The payload of PLAN_INVALID: the failing check and, for check 7, the junction (R36). -/
def Failure.payload (f : Failure) : List Byte := payloadOf [item (byteOf f.check), optByte f.junction]

/-- The result of a manual activation (table of R56). -/
def ActivationOutcome.reply : ActivationOutcome → Reply
  | .noChange => doneReply .noChange []
  | .pendingCancelled => doneReply .pendingCancelled []
  | .noClock => refusedReply .noClock []
  | .invalid f => refusedReply .planInvalid f.payload
  | .tookEffect => doneReply .none []
  | .pending => doneReply .pending []

/-- ACTIVATE PLAN at the selector (R56, R57). -/
def ownActivatePlan (p : Nat) (s : State) : Reply × State :=
  if Config.planCount < p then refuse .outOfRange s
  else if s.forced.isSome then done .overridden [] (reform (setHold true p s))
  else
    let r := activate p s
    (r.1.reply, if r.1.refused then r.2 else reform (setHold true p r.2))

/-- RESUME SCHEDULE at the selector (R58). -/
def ownResumeSchedule (_ : Unit) (s : State) : Reply × State := done .none [] (catchUp (setHold false 0 s))

/-- RESYNC JUNCTION at the context (R77). -/
def ownResyncJunction (j : Nat) (s : State) : Reply × State :=
  match s.junctions[j]? with
  | none => refuse .notConfigured s
  | some jn =>
    if jn.state.isFault then
      done .none [] (s.updateJunction j fun q =>
        { q with state := if s.corridorFree then .free .corridorFree else enterSeek s.now })
    else refuse .wrongState s

/-! ## Plan and schedule records -/

/-- Every field of a plan record lies in its own range (table of 3.1). -/
def Plan.inRange (p : Plan) : Bool :=
  400 ≤ p.c && p.c ≤ 2400 && p.b ≤ 2399 && p.w ≤ 16 && p.o0 ≤ 2399 && 15 ≤ p.vIn && p.vIn ≤ 90 &&
    15 ≤ p.vOut && p.vOut ≤ 90 && p.s ≤ 600 && p.hIn ≤ 100 && p.hOut ≤ 200 && 1 ≤ p.k && p.k ≤ 15 &&
    p.xMax ≤ 300 && p.eMax ≤ 300 && p.m ≤ 50 && p.r ≤ 7 && p.g.toList.all fun g => 50 ≤ g && g ≤ 2350

/-- The record number `k` of plan `p` as an index of the store, for `p` from 1 to 8. -/
def planIndex (p : Nat) : Option (Fin Config.planCount) := if p = 0 then none else index? Config.planCount (p - 1)

/-- SET PLAN at the plan store (R32). -/
def ownSetPlan (q : Nat × Plan) (s : State) : Reply × State :=
  match planIndex q.1 with
  | none => refuse .outOfRange s
  | some k =>
    if q.1 = s.activeNumber || s.selector.pendingPlan = some q.1 then refuse .inUse s
    else if q.2.inRange then done .none [] (s.setPlans (put s.plans k (some q.2)))
    else refuse .outOfRange s

/-- The role of a plan: 0 neither, 1 active, 2 pending (R33, 12.1). -/
def State.planRole (s : State) (p : Nat) : Nat :=
  if p = s.activeNumber then 1 else if s.selector.pendingPlan = some p then 2 else 0

/-- The offsets READ PLAN returns: those of the active plan, for the plan that is active (R33). -/
def State.offsetsOf (s : State) (p : Nat) : List Nat :=
  match s.selector.active with
  | some a => if a.number = p then a.offsets else []
  | none => []

/-- The payload of READ PLAN: whether the record is empty, its fields, its role, the offsets (R33). -/
def readPlanPayload (p : Nat) (record : Option Plan) (s : State) : List Byte :=
  payloadOf <|
    [item (flagOf record.isNone)] ++
    [optWord (record.map Plan.c), optWord (record.map Plan.b), optByte (record.map Plan.w),
     optWord (record.map Plan.o0), optByte (record.map Plan.vIn), optByte (record.map Plan.vOut),
     optWord (record.map Plan.s), optByte (record.map Plan.hIn), optByte (record.map Plan.hOut),
     optByte (record.map Plan.k), optWord (record.map Plan.xMax), optWord (record.map Plan.eMax),
     optByte (record.map Plan.m), optByte (record.map Plan.r)] ++
    ((List.range Config.maxJunctions).map fun j => optWord (record.map fun q => q.split j)) ++
    [item (byteOf (s.planRole p))] ++
    ((List.range Config.maxJunctions).map fun j => optWord (s.offsetsOf p)[j]?)

/-- READ PLAN at the plan store (R33). -/
def ownReadPlan (p : Nat) (s : State) : Reply × State :=
  match planIndex p with
  | none => refuse .outOfRange s
  | some k => done .none (readPlanPayload p s.plans[k] s) s

/-- The entry SET SCHEDULE ENTRY carries, where every field is in range (R50). -/
def ScheduleFields.entry (q : ScheduleFields) : Option ScheduleEntry :=
  match flag? q.enabled, dayMask? q.days with
  | some en, some days =>
    if q.hour ≤ 23 && q.minute ≤ 59 && q.plan ≤ Config.planCount then some ⟨en, days, q.hour, q.minute, q.plan⟩ else none
  | _, _ => none

/-- SET SCHEDULE ENTRY at the selector (R50). -/
def ownSetScheduleEntry (q : ScheduleFields) (s : State) : Reply × State :=
  match index? Config.scheduleCount q.index, q.entry with
  | some k, some e =>
    done .none [] (s.setSelector { s.selector with schedule := put s.selector.schedule k e })
  | _, _ => refuse .outOfRange s

/-- The payload of READ SCHEDULE ENTRY: the five fields and the summary of the selector (R51). -/
def readSchedulePayload (e : ScheduleEntry) (s : State) : List Byte :=
  payloadOf
    [item (flagOf e.enabled), item (byteOf e.days.toNat), item (byteOf e.hour), item (byteOf e.minute),
     item (byteOf e.plan), item (byteOf s.selector.scheduled), item (flagOf s.selector.holdOn),
     item (byteOf s.selector.holdPlan), optByte (s.forced.map Prod.fst), item (byteOf s.selector.requested),
     optByte s.selector.lastEntry]

/-- READ SCHEDULE ENTRY at the selector (R51). -/
def ownReadScheduleEntry (i : Nat) (s : State) : Reply × State :=
  match index? Config.scheduleCount i with
  | none => refuse .outOfRange s
  | some k => done .none (readSchedulePayload s.selector.schedule[k] s) s

/-! ## The requests and the MINUTE_MARK of this block -/

/-- SET PLAN as the port sees it: an edit (R165). -/
def reqSetPlan (ps : List Byte) : Request := ⟨true, (parseSetPlan ps).map ownSetPlan⟩
/-- READ PLAN as the port sees it. -/
def reqReadPlan (ps : List Byte) : Request := ⟨false, (parseByte ps).map ownReadPlan⟩
/-- SET SCHEDULE ENTRY as the port sees it: an edit (R165). -/
def reqSetScheduleEntry (ps : List Byte) : Request := ⟨true, (parseSetScheduleEntry ps).map ownSetScheduleEntry⟩
/-- READ SCHEDULE ENTRY as the port sees it. -/
def reqReadScheduleEntry (ps : List Byte) : Request := ⟨false, (parseByte ps).map ownReadScheduleEntry⟩
/-- ACTIVATE PLAN as the port sees it. -/
def reqActivatePlan (ps : List Byte) : Request := ⟨false, (parseByte ps).map ownActivatePlan⟩
/-- RESUME SCHEDULE as the port sees it. -/
def reqResumeSchedule (ps : List Byte) : Request := ⟨false, (parseNone ps).map ownResumeSchedule⟩
/-- RESYNC JUNCTION as the port sees it. -/
def reqResyncJunction (ps : List Byte) : Request := ⟨false, (parseByte ps).map ownResyncJunction⟩

/-- SET_PLAN (R32). -/
def execSetPlan (ps : List Byte) (s : State) (extra : Nat := 0) : Host.Outcome State Fault Refusal :=
  run (send 0x18 ps extra (some (reqSetPlan ps))) s
/-- READ_PLAN (R33). -/
def execReadPlan (ps : List Byte) (s : State) (extra : Nat := 0) : Host.Outcome State Fault Refusal :=
  run (send 0x19 ps extra (some (reqReadPlan ps))) s
/-- SET_SCHEDULE_ENTRY (R50). -/
def execSetScheduleEntry (ps : List Byte) (s : State) (extra : Nat := 0) : Host.Outcome State Fault Refusal :=
  run (send 0x1A ps extra (some (reqSetScheduleEntry ps))) s
/-- READ_SCHEDULE_ENTRY (R51). -/
def execReadScheduleEntry (ps : List Byte) (s : State) (extra : Nat := 0) : Host.Outcome State Fault Refusal :=
  run (send 0x1B ps extra (some (reqReadScheduleEntry ps))) s
/-- ACTIVATE_PLAN (R56, R57). -/
def execActivatePlan (ps : List Byte) (s : State) (extra : Nat := 0) : Host.Outcome State Fault Refusal :=
  run (send 0x20 ps extra (some (reqActivatePlan ps))) s
/-- RESUME_SCHEDULE (R58). -/
def execResumeSchedule (ps : List Byte) (s : State) (extra : Nat := 0) : Host.Outcome State Fault Refusal :=
  run (send 0x21 ps extra (some (reqResumeSchedule ps))) s
/-- RESYNC_JUNCTION (R77). -/
def execResyncJunction (ps : List Byte) (s : State) (extra : Nat := 0) : Host.Outcome State Fault Refusal :=
  run (send 0x22 ps extra (some (reqResyncJunction ps))) s

end Sys2Proof.Machine
end

