-- ==== Sys2Proof/Machine/Clock.lean ====
section
/-! DEFINITION. The time base and the reference generator: counting (R1, R3, R13), SYNC pulses (R7 to
R10, R14), SYNC loss (R11), SET CLOCK and READ CLOCK (R4 to R6), and CORRIDOR STATUS (R16). -/

namespace Sys2Proof.Machine

/-! ## Counting (R1, R3, R13) -/

/-- The clock one day on, at 00:00. -/
def DayClock.carryDay (k : DayClock) : DayClock := { k with day := if k.day < 7 then k.day + 1 else 1 }

/-- One hour carried (R3). -/
def DayClock.carryHour (k : DayClock) : DayClock :=
  if k.hour < 23 then { k with hour := k.hour + 1 } else { k with hour := 0 }.carryDay

/-- One minute carried (R3). -/
def DayClock.carryMinute (k : DayClock) : DayClock :=
  if k.minute < 59 then { k with minute := k.minute + 1 } else { k with minute := 0 }.carryHour

/-- One second carried (R3). -/
def DayClock.carrySecond (k : DayClock) : DayClock :=
  if k.second < 59 then { k with second := k.second + 1 } else { k with second := 0 }.carryMinute

/-- The day clock one tenth on, valid or not (R3). -/
def DayClock.tick (k : DayClock) : DayClock :=
  if k.tenth < 9 then { k with tenth := k.tenth + 1 } else { k with tenth := 0 }.carrySecond

/-- The clock stands at second 0, tenth 0. -/
def DayClock.onMinute (k : DayClock) : Bool := k.second == 0 && k.tenth == 0

/-- P_ref counts by one and wraps from C − 1 to 0; the wrap is the reference boundary (R13). -/
def countPRef (s : State) : State :=
  match s.activeRecord with
  | some (a, p) =>
    if a.pRef + 1 < p.c then s.setActive { a with pRef := a.pRef + 1 }
    else (s.setActive { a with pRef := 0 }).setTime { s.time with boundaryDue := true }
  | none => s

/-- CT and the day clock count by one; a valid clock that reaches a whole minute hands over a minute
mark (R1, R3). -/
def TimeBase.count (b : TimeBase) : TimeBase :=
  { b with ct := b.ct + 1, clock := b.clock.tick, markDue := b.markDue || (b.clock.valid && b.clock.tick.onMinute) }

/-- The SYNC pin sampled at a count: a high sample after a held low level is a rising edge (R7). -/
def TimeBase.sampleSync (b : TimeBase) (l : Level) : TimeBase :=
  { b with syncHeld := l, edgeDue := l == .high && b.syncHeld == .low }

/-! ## SYNC pulses (R7 to R10, R14) -/

/-- The position within the minute, r = second·10 + tenth (R8). -/
def DayClock.minutePosition (k : DayClock) : Nat := k.second * 10 + k.tenth

/-- The step d to the nearest whole minute, a tie going backward (R8). -/
def syncStep (r : Nat) : Int := if r ≤ 300 then -(r : Int) else 600 - (r : Int)

/-- The clock after an accepted step: on second 0, tenth 0 of this minute, or of the next one with its
carries (R8, R10). -/
def DayClock.stepTo (k : DayClock) (d : Int) : DayClock :=
  if d < 0 then { k with second := 0, tenth := 0 } else { k with second := 0, tenth := 0 }.carryMinute

/-- P_ref moved by a SYNC step, which is no reference boundary (R14). -/
def stepPRef (d : Int) (s : State) : State :=
  match s.activeRecord with
  | some (a, p) => s.setActive { a with pRef := (((a.pRef : Int) + d) % (p.c : Int)).toNat }
  | none => s

/-- An accepted nonzero step moves the clock and P_ref, and a forward one hands over a minute mark (R10). -/
def applyStep (d : Int) (s : State) : State :=
  (stepPRef d s).setTime { s.time with clock := s.time.clock.stepTo d, markDue := s.time.markDue || decide (0 < d) }

/-- What a pulse does to a valid clock (R8, R9). -/
def pullClock (s : State) : State :=
  let d := syncStep s.time.clock.minutePosition
  if d = 0 then s
  else if s.settings.ts < d.natAbs then s.latch .syncSlip
  else applyStep d s

/-- A rising edge: with sync enable yes it is a pulse, which renews the last-pulse time and ends
SYNC_LOST; with sync enable no it is ignored (R7). The held level is then high. -/
def takeEdge (s : State) : State :=
  let t := s.setTime { s.time with syncHeld := .high, edgeDue := false }
  if s.settings.syncEnable then
    let u := t.setTime { t.time with lastPulse := s.now, syncLost := false }
    if s.time.clock.valid then pullClock u else u
  else t

/-- SYNC_LOST becomes true (R11). -/
def loseSync (s : State) : State := s.setTime { s.time with syncLost := true }

/-! ## SET CLOCK, READ CLOCK (R4 to R6) -/

/-- The clock SET CLOCK carries, where every digit and field is in range: valid, its tenth 0 (R4, R5). -/
def ClockFields.clock (q : ClockFields) : Option DayClock :=
  match q.day, q.hour, q.minute, q.second with
  | some d, some h, some m, some sec =>
    if 1 ≤ d && d ≤ 7 && h ≤ 23 && m ≤ 59 && sec ≤ 59 then some ⟨d, h, m, sec, 0, true⟩ else none
  | _, _, _, _ => none

/-- P_ref derived afresh while a coordinated plan is active (R5, R12). -/
def rederive (s : State) : State :=
  match s.activeRecord with
  | some (a, p) => s.setActive { a with pRef := derivePRef p s.time.clock }
  | none => s

/-- The time base with the clock set. A wrap of the old P_ref that has not been taken signals no boundary any more:
a pending plan waits for one reached by counting from the P_ref derived now (R5, R39). -/
def TimeBase.setClock (b : TimeBase) (k : DayClock) : TimeBase := { b with clock := k, boundaryDue := false }

/-- SET CLOCK at the time base: the clock, then P_ref, then the catch-up (R5). -/
def ownSetClock (q : ClockFields) (s : State) : Reply × State :=
  match q.clock with
  | none => refuse .outOfRange s
  | some k => done .none [] (catchUp (rederive (s.setTime (s.time.setClock k))))

/-- Two BCD digits (12.1, clock fields). -/
def bcdOf (n : Nat) : List Byte := byteOf (n / 10 * 16 + n % 10)

/-- The payload of READ CLOCK: the BCD clock bytes 0 to 4, CT and SYNC_LOST (R6, 12.1). -/
def readClockPayload (s : State) : List Byte :=
  let k := s.time.clock
  byteOf k.day ++ bcdOf k.hour ++ bcdOf k.minute ++ bcdOf k.second ++ byteOf (16 * k.valid.toNat + k.tenth) ++
    ctOf s.now ++ flagOf s.time.syncLost

/-- READ CLOCK at the time base (R6). -/
def ownReadClock (_ : Unit) (s : State) : Reply × State := done .none (readClockPayload s) s

/-! ## CORRIDOR STATUS (R16) -/

/-- The payload of CORRIDOR STATUS (R16). -/
def corridorStatusPayload (s : State) : List Byte :=
  payloadOf
    [item (stageOf s.stage), item (byteOf s.activeNumber), optByte s.selector.pendingPlan,
     optWord (s.activeRecord.map fun ap => ap.2.c), optWord (s.selector.active.map ActivePlan.pRef),
     item (byteOf s.n), item (byteOf (s.countJunctions Coordination.isSeek)),
     item (byteOf (s.countJunctions Coordination.isInStep)), item (byteOf (s.countJunctions Coordination.isPreempt)),
     item (byteOf (s.countJunctions Coordination.isFault))]

/-- CORRIDOR STATUS (R16). -/
def ownCorridorStatus (_ : Unit) (s : State) : Reply × State := done .none (corridorStatusPayload s) s

/-! ## The requests of this block -/

/-- SET CLOCK as the port sees it. -/
def reqSetClock (ps : List Byte) : Request := ⟨false, (parseSetClock ps).map ownSetClock⟩
/-- READ CLOCK as the port sees it. -/
def reqReadClock (ps : List Byte) : Request := ⟨false, (parseNone ps).map ownReadClock⟩
/-- CORRIDOR STATUS as the port sees it. -/
def reqCorridorStatus (ps : List Byte) : Request := ⟨false, (parseNone ps).map ownCorridorStatus⟩

/-- SET_CLOCK (R4, R5). -/
def execSetClock (ps : List Byte) (s : State) (extra : Nat := 0) : Host.Outcome State Fault Refusal :=
  run (send 0x01 ps extra (some (reqSetClock ps))) s
/-- READ_CLOCK (R6). -/
def execReadClock (ps : List Byte) (s : State) (extra : Nat := 0) : Host.Outcome State Fault Refusal :=
  run (send 0x02 ps extra (some (reqReadClock ps))) s
/-- CORRIDOR_STATUS (R16). -/
def execCorridorStatus (ps : List Byte) (s : State) (extra : Nat := 0) : Host.Outcome State Fault Refusal :=
  run (send 0x03 ps extra (some (reqCorridorStatus ps))) s

end Sys2Proof.Machine
end

