-- ==== Sys2Proof/Machine/Corridor.lean ====
section
/-! DEFINITION. The corridor table: SET CORRIDOR and the resizing of the corridor (R17 to R20), SET
JUNCTION (R22), SET GROUP and the changes of EXCLUDE it makes (R26 to R30), and their reads (R21, R23,
R26). -/

namespace Sys2Proof.Machine

/-! ## SET CORRIDOR (R17 to R20) -/

/-- N is 0 or 2 to 24 (table of 2.1). -/
def nInRange (n : Nat) : Bool := n == 0 || (2 ≤ n && n ≤ Config.maxJunctions)

/-- The settings SET CORRIDOR carries, where every one of the nine is in range (R17). -/
def CorridorFields.settings (q : CorridorFields) : Option Settings :=
  match flag? q.sync with
  | none => none
  | some en =>
    if nInRange q.n && q.entryIn ≤ 3000 && q.entryOut ≤ 3000 && 10 ≤ q.gm && q.gm ≤ 300 && 100 ≤ q.dl && q.dl ≤ 900
        && 50 ≤ q.lm && q.lm ≤ 1200 && 300 ≤ q.pmax && q.pmax ≤ 6000 && 1 ≤ q.ts && q.ts ≤ 300 then
      some ⟨q.entryIn, q.entryOut, q.gm, q.dl, q.lm, q.pmax, en, q.ts⟩
    else none

/-- A junction created by a raise of N (R19). -/
def newJunction (link : Option Nat) (excluded : Bool) : Junction :=
  { link := link, smin := 200, state := .free (if excluded then .excluded else .plan0), lockout := 0, granted := false
    spillIn := none, spillOut := none }

/-- The junctions created from position `i` on, `k` of them, the last one of the corridor without a link
length (R19). -/
def newJunctions (groups : Vector GroupRange Config.groupCount) (i k : Nat) : List Junction :=
  (List.range k).map fun d =>
    newJunction (if d + 1 = k then none else some 200) (effective groups (i + d)).exclude

/-- The link length of the last junction of a list replaced. -/
def setLastLink (js : List Junction) (link : Option Nat) : List Junction :=
  js.modify (js.length - 1) fun j => { j with link := link }

/-- The configured junctions once N is `n` (R19, R20). -/
def resize (groups : Vector GroupRange Config.groupCount) (js : List Junction) (n : Nat) : List Junction :=
  if js.length < n then setLastLink js (some 200) ++ newJunctions groups js.length (n - js.length)
  else if n < js.length then setLastLink (js.take n) none
  else js

/-- The SYNC watch as a SET CORRIDOR leaves it: a change from no to yes sets the last-pulse time to now,
a change from yes to no ends SYNC_LOST (R11, R18). -/
def TimeBase.enableSync (b : TimeBase) (was is : Bool) : TimeBase :=
  if !was && is then { b with lastPulse := b.ct } else if was && !is then { b with syncLost := false } else b

/-- An accepted SET CORRIDOR (R17 to R20). -/
def applyCorridor (v : Settings) (n : Nat) (s : State) : State :=
  ((s.setTime (s.time.enableSync s.settings.syncEnable v.syncEnable)).setSettings v).setJunctions
    (resize s.groups s.junctions n)

/-- SET CORRIDOR at the corridor table (R17). -/
def ownSetCorridor (q : CorridorFields) (s : State) : Reply × State :=
  if s.selector.active.isSome then refuse .inUse s
  else
    match q.settings with
    | none => refuse .outOfRange s
    | some v =>
      if (s.junctions.drop q.n).any fun j => j.state.isPreempt then refuse .inUse s
      else done .none [] (applyCorridor v q.n s)

/-- The payload of READ CORRIDOR: the nine settings, the entry travel times of the active plan (R21). -/
def readCorridorPayload (s : State) : List Byte :=
  let v := s.settings
  payloadOf
    [item (byteOf s.n), item (wordOf v.entryIn), item (wordOf v.entryOut), item (wordOf v.gm), item (wordOf v.dl),
     item (wordOf v.lm), item (wordOf v.pmax), item (flagOf v.syncEnable), item (wordOf v.ts),
     optWord (s.selector.active.bind ActivePlan.entryIn), optWord (s.selector.active.bind ActivePlan.entryOut)]

/-- READ CORRIDOR at the corridor table (R21). -/
def ownReadCorridor (_ : Unit) (s : State) : Reply × State := done .none (readCorridorPayload s) s

/-! ## SET JUNCTION (R22, R23) -/

/-- The link length SET JUNCTION carries for junction `j` of `n`, where it suits the junction: absent,
carried as 0, for the last one (R22). -/
def linkFor (j n link : Nat) : Option (Option Nat) :=
  if j + 1 = n then if link = 0 then some none else none
  else if 20 ≤ link && link ≤ 3000 then some (some link) else none

/-- SET JUNCTION at the corridor table (R22). -/
def ownSetJunction (q : JunctionFields) (s : State) : Reply × State :=
  if s.selector.active.isSome || s.selector.pendingPlan.isSome then refuse .inUse s
  else if s.n ≤ q.j then refuse .notConfigured s
  else if 50 ≤ q.smin && q.smin ≤ 1200 then
    match linkFor q.j s.n q.link with
    | none => refuse .outOfRange s
    | some link => done .none [] (s.updateJunction q.j fun j => { j with link := link, smin := q.smin })
  else refuse .outOfRange s

/-- The payload of READ JUNCTION: link length, side minimum, attributes, the indices of the covering
ranges, the travel times of link `j` (R23). -/
def readJunctionPayload (j : Nat) (jn : Junction) (s : State) : List Byte :=
  payloadOf <|
    [optWord jn.link, item (wordOf jn.smin), item (attributesOf (s.attributes j))] ++
    ((s.groups.toList.zipIdx).map fun g => optByte (if g.1.covers j then some g.2 else none)) ++
    [optWord (s.selector.active.bind fun a => a.tIn[j]?), optWord (s.selector.active.bind fun a => a.tOut[j]?)]

/-- READ JUNCTION at the corridor table (R23). -/
def ownReadJunction (j : Nat) (s : State) : Reply × State :=
  match s.junctions[j]? with
  | none => refuse .notConfigured s
  | some jn => done .none (readJunctionPayload j jn s) s

/-! ## SET GROUP (R26 to R30) -/

/-- The range entry SET GROUP carries, where it is in range; a count of 0 stores an unused entry (R26). -/
def GroupFields.entry (q : GroupFields) : Option GroupRange :=
  match attributes? q.attrs with
  | none => none
  | some a =>
    if q.first ≤ 23 && q.count ≤ 24 && q.first + q.count ≤ 24 then
      some (if q.count = 0 then ⟨0, 0, Attributes.empty⟩ else ⟨q.first, q.count, a⟩)
    else none

/-- One junction as a change of its EXCLUDE membership leaves it (R28, R29). -/
def excludeChange (now : Ct) (coordinated corridorFree was is : Bool) (j : Junction) : Junction :=
  if is && !was then gainExclude j else if was && !is then loseExclude now coordinated corridorFree j else j

/-- An accepted SET GROUP: the entry, then every change of EXCLUDE membership (R26). -/
def applyGroup (k : Fin Config.groupCount) (g : GroupRange) (s : State) : State :=
  let groups := put s.groups k g
  (s.setGroups groups).setJunctions
    (mapIndexed (fun j jn => excludeChange s.now s.selector.active.isSome s.corridorFree (s.attributes j).exclude
      (effective groups j).exclude jn) 0 s.junctions)

/-- SET GROUP at the corridor table (R26). -/
def ownSetGroup (q : GroupFields) (s : State) : Reply × State :=
  match index? Config.groupCount q.index, q.entry with
  | some k, some g => done .none [] (applyGroup k g s)
  | _, _ => refuse .outOfRange s

/-- READ GROUP at the corridor table (R26). -/
def ownReadGroup (i : Nat) (s : State) : Reply × State :=
  match index? Config.groupCount i with
  | none => refuse .outOfRange s
  | some k =>
    let g := s.groups[k]
    done .none (byteOf g.first ++ byteOf g.count ++ attributesOf g.attrs) s

/-! ## The requests of this block -/

/-- SET CORRIDOR as the port sees it: an edit (R165). -/
def reqSetCorridor (ps : List Byte) : Request := ⟨true, (parseSetCorridor ps).map ownSetCorridor⟩
/-- READ CORRIDOR as the port sees it. -/
def reqReadCorridor (ps : List Byte) : Request := ⟨false, (parseNone ps).map ownReadCorridor⟩
/-- SET JUNCTION as the port sees it: an edit (R165). -/
def reqSetJunction (ps : List Byte) : Request := ⟨true, (parseSetJunction ps).map ownSetJunction⟩
/-- READ JUNCTION as the port sees it. -/
def reqReadJunction (ps : List Byte) : Request := ⟨false, (parseByte ps).map ownReadJunction⟩
/-- SET GROUP as the port sees it: an edit (R165). -/
def reqSetGroup (ps : List Byte) : Request := ⟨true, (parseSetGroup ps).map ownSetGroup⟩
/-- READ GROUP as the port sees it. -/
def reqReadGroup (ps : List Byte) : Request := ⟨false, (parseByte ps).map ownReadGroup⟩

/-- SET_CORRIDOR (R17). -/
def execSetCorridor (ps : List Byte) (s : State) (extra : Nat := 0) : Host.Outcome State Fault Refusal :=
  run (send 0x10 ps extra (some (reqSetCorridor ps))) s
/-- READ_CORRIDOR (R21). -/
def execReadCorridor (ps : List Byte) (s : State) (extra : Nat := 0) : Host.Outcome State Fault Refusal :=
  run (send 0x11 ps extra (some (reqReadCorridor ps))) s
/-- SET_JUNCTION (R22). -/
def execSetJunction (ps : List Byte) (s : State) (extra : Nat := 0) : Host.Outcome State Fault Refusal :=
  run (send 0x12 ps extra (some (reqSetJunction ps))) s
/-- READ_JUNCTION (R23). -/
def execReadJunction (ps : List Byte) (s : State) (extra : Nat := 0) : Host.Outcome State Fault Refusal :=
  run (send 0x13 ps extra (some (reqReadJunction ps))) s
/-- SET_GROUP (R26). -/
def execSetGroup (ps : List Byte) (s : State) (extra : Nat := 0) : Host.Outcome State Fault Refusal :=
  run (send 0x14 ps extra (some (reqSetGroup ps))) s
/-- READ_GROUP (R26). -/
def execReadGroup (ps : List Byte) (s : State) (extra : Nat := 0) : Host.Outcome State Fault Refusal :=
  run (send 0x15 ps extra (some (reqReadGroup ps))) s

end Sys2Proof.Machine
end

