-- ==== Sys2Proof/Machine/Green.lean ====
section
/-! DEFINITION. Green windows: the green-end check (R83 to R89), spillback and QUEUE_GUARD (R90 to R93),
early green (R94 to R96), grants (R97, R98), and WINDOW QUERY (R79 to R82). -/

namespace Sys2Proof.Machine

/-! ## Junction updates within a cycle -/

/-- A junction with its booked cycle replaced; unchanged without a window. -/
def Junction.setCycle (j : Junction) (c : Cycle) : Junction :=
  match j.state.window? with
  | some w => { j with state := j.state.setWindow { w with cycle := some c } }
  | none => j

/-- The junction after a grant: the flag set and the lockout at the held R (R88, R96, R98). -/
def Junction.grantWith (j : Junction) (r : Nat) : Junction := { j with granted := true, lockout := r }

/-- A WAITING record that is granted (R97). -/
def Priority.grantAs (r : Priority) (kind : GrantKind) (now : Ct) : Priority := { r with grant := some (kind, now) }

/-- Every live record that a test accepts is granted with one kind at now (R88, R97). -/
def grantRecords (accept : Priority → Bool) (kind : GrantKind) (now : Ct)
    (v : Vector (Slot Priority) Config.prioritySlots) : Vector (Slot Priority) Config.prioritySlots :=
  mapTable (fun s => { s with live := s.live.map fun r => if accept r then r.grantAs kind now else r }) v

/-! ## Candidates (R84, R85, R93) -/

/-- Direction `d` is suppressed: QUEUE_GUARD with the spillback flag set (R93). -/
def suppressed (a : Attributes) (j : Junction) (d : Direction) : Bool := a.queueGuard && (j.spill d).isSome

/-- What a green-end check reads: the junction, its attributes, its cycle, and now (R83). -/
structure CheckView where
  j : Nat
  jn : Junction
  attrs : Attributes
  cycle : Cycle
  now : Ct
  deriving DecidableEq, Repr

/-- The remaining reach Rr = X_max − x (R83). -/
def CheckView.reach (v : CheckView) : Nat := v.cycle.held.xMax - v.cycle.x

/-- The reach limit now + Rr (R83). -/
def CheckView.limit (v : CheckView) : Ct := plus v.now v.reach

/-- A live platoon record is a candidate of the check (R84). -/
def CheckView.platoonCandidate (v : CheckView) (p : Platoon) : Bool :=
  p.cur == v.j && !suppressed v.attrs v.jn p.dir && !v.attrs.noExtend &&
    atOrBefore (plus p.head v.cycle.held.m) v.limit && before v.now (plus p.tail v.cycle.held.m)

/-- The target a platoon candidate offers: min(tail ETA + M, reach limit) (R84). -/
def CheckView.platoonTarget (v : CheckView) (p : Platoon) : Ct := earlier (plus p.tail v.cycle.held.m) v.limit

/-- A live priority record is a candidate of the check (R85). -/
def CheckView.priorityCandidate (v : CheckView) (r : Priority) : Bool :=
  r.junction == v.j && r.waiting && v.jn.lockout == 0 && !v.jn.granted && !v.attrs.noPriority &&
    !suppressed v.attrs v.jn r.dir && before v.now (plus r.eta v.cycle.held.m) &&
    atOrBefore (plus r.eta v.cycle.held.m) v.limit

/-- The targets of every candidate of the check (R84, R85). -/
def CheckView.targets (v : CheckView) (s : State) : List Ct :=
  ((s.livePlatoons.filter fun p => v.platoonCandidate p.2).map fun p => v.platoonTarget p.2) ++
    ((s.livePriorities.filter fun r => v.priorityCandidate r.2).map fun r => plus r.2.eta v.cycle.held.m)

/-! ## Extension and closing (R86 to R89) -/

/-- The cycle length after an extension to `newEnd`: kept while the side time left is at least the side
minimum, else lengthened to leave exactly that (R87). -/
def extendedLength (start : Ct) (lc smin : Nat) (newEnd : Ct) : Nat :=
  if ahead start newEnd + smin ≤ lc then lc else ahead start newEnd + smin

/-- The extended cycle (R86, R87). -/
def extendCycle (start : Ct) (smin : Nat) (now newEnd : Ct) (c : Cycle) : Cycle :=
  { c with x := c.x + ahead now newEnd, greenEnd := newEnd, lc := extendedLength start c.lc smin newEnd }

/-- The check extends the green to `newEnd`, granting its priority candidates (R86 to R88). -/
def extendGreen (v : CheckView) (start newEnd : Ct) (s : State) : State :=
  let jn := v.jn.setCycle (extendCycle start v.jn.smin v.now newEnd v.cycle)
  let grants := s.livePriorities.any fun r => v.priorityCandidate r.2
  (s.updateJunction v.j fun _ => if grants then jn.grantWith v.cycle.held.r else jn).setPriorities
    (grantRecords v.priorityCandidate .extension v.now s.priorities)

/-! ## Early green (R94 to R96) -/

/-- The record an early-green evaluation of junction `j` takes: the WAITING LATE one with the earliest
ETA, the lower slot on a tie (R94). -/
def earliestLate (j : Nat) (s : State) : Option (Fin Config.prioritySlots × Priority) :=
  best (fun a b => before a.2.eta b.2.eta)
    (s.livePriorities.filter fun r => r.2.junction == j && r.2.waiting && r.2.cls == .late)

/-- The new end: the latest of the four bounds (R95). -/
def earlyEnd (start : Ct) (c : Cycle) (smin : Nat) (now eta : Ct) : Ct :=
  later (later (later (plus c.greenEnd smin) (minus eta c.held.m)) now)
    (minus (plus start c.lc) (c.held.eMax - c.y))

/-- The shortened cycle (R96). -/
def shortenCycle (start newEnd : Ct) (c : Cycle) : Cycle :=
  { c with lc := c.lc - ahead newEnd (plus start c.lc), y := c.y + ahead newEnd (plus start c.lc) }

/-- The conditions of the evaluation on the junction and its attributes (R94). -/
def mayShorten (a : Attributes) (jn : Junction) (c : Cycle) : Bool :=
  c.phase == .side && jn.lockout == 0 && !jn.granted && !a.noPriority && c.y < c.held.eMax

/-- A successful evaluation: the cycle ends at `newEnd` and the record is granted EARLY (R96). -/
def grantEarly (j : Nat) (jn : Junction) (w : Window) (c : Cycle) (k : Fin Config.prioritySlots) (r : Priority)
    (newEnd : Ct) (s : State) : State :=
  (s.updateJunction j fun _ => (jn.setCycle (shortenCycle w.start newEnd c)).grantWith c.held.r).setPriorities
    (rewrite s.priorities k (r.grantAs .early s.now))

/-- The early-green evaluation of junction `j` (R94 to R96). -/
def evaluateEarly (j : Nat) (s : State) : State :=
  match s.junctions[j]? with
  | none => s
  | some jn =>
    match jn.state.window?, jn.cycle? with
    | some w, some c =>
      if mayShorten (s.attributes j) jn c then
        match earliestLate j s with
        | some (k, r) =>
          let newEnd := earlyEnd w.start c jn.smin s.now r.eta
          if before newEnd (plus w.start c.lc) then grantEarly j jn w c k r newEnd s else s
        | none => s
      else s
    | _, _ => s

/-- The check closes the green: the side-time start, then the early-green evaluation (R89). -/
def closeGreen (v : CheckView) (s : State) : State :=
  evaluateEarly v.j (s.updateJunction v.j fun _ => v.jn.setCycle { v.cycle with phase := .side })

/-- The green-end check of a booked junction (R83). -/
def checkGreen (v : CheckView) (start : Ct) (s : State) : State :=
  match v.targets s with
  | [] => closeGreen v s
  | t :: ts => if v.reach = 0 then closeGreen v s else extendGreen v start (ts.foldl later t) s

/-- The green-end check of junction `j` (R83). -/
def greenEnd (j : Nat) (s : State) : State :=
  match s.junctions[j]? with
  | none => s
  | some jn =>
    match jn.state.window?, jn.cycle? with
    | some w, some c => checkGreen ⟨j, jn, s.attributes j, c, s.now⟩ w.start s
    | _, _ => s

/-! ## Spillback (R91, R92) -/

/-- The payload of SPILLBACK: the flag and its expiry as they stand after the request (R91). -/
def spillbackPayload (e : Option Ct) : List Byte := payloadOf [item (flagOf e.isSome), optCt e]

/-- SPILLBACK at the junction context (R91). -/
def ownSpillback (q : SpillbackFields) (s : State) : Reply × State :=
  match direction? q.dir, flag? q.on with
  | some d, some on =>
    if s.n ≤ q.j then refuse .notConfigured s
    else
      let e := if on then some (plus s.now 600) else none
      done .none (spillbackPayload e) (s.updateJunction q.j fun j => j.setSpill d e)
  | _, _ => refuse .outOfRange s

/-- The expiry of a spillback flag clears it (R92). -/
def expireSpill (j : Nat) (d : Direction) (s : State) : State := s.updateJunction j fun q => q.setSpill d none

/-! ## WINDOW QUERY (R79 to R82) -/

/-- The earliest head ETA among the live platoon records of a direction at junction `j` (R81). -/
def earliestHead (j : Nat) (d : Direction) (s : State) : Option Ct :=
  best (fun a b => before a b)
    ((s.livePlatoons.filter fun p => p.2.cur == j && p.2.dir == d).map fun p => p.2.head)

/-- The number of WAITING records at junction `j` (R81). -/
def waitingCount (j : Nat) (s : State) : Nat :=
  s.livePriorities.countP fun r => r.2.junction == j && r.2.waiting

/-- The preempt start and deadline of a PREEMPT junction. -/
def Coordination.preemption : Coordination → Option (Ct × Ct)
  | .preempt start deadline _ => some (start, deadline)
  | .free _ | .seek _ | .inStep _ => none

/-- The payload of WINDOW QUERY (R80, R81). -/
def windowPayload (j : Nat) (jn : Junction) (s : State) : List Byte :=
  let w := jn.state.window?
  let c := jn.cycle?
  payloadOf
    [item (ctOf s.now), item (contextStateOf jn.state), item (byteOf s.activeNumber),
     optWord (s.activeRecord.map fun ap => ap.2.c), optWord (s.selector.active.bind fun a => a.offsets[j]?),
     optCt (w.map Window.start), optWord (c.map Cycle.lc), optCt (c.map Cycle.greenEnd),
     optItem 1 (c.map fun q => phaseOf q.phase), optWord (c.map Cycle.x), optWord (c.map Cycle.y),
     optWord (c.map fun q => q.held.g), optItem 2 (c.map fun q => driftOf q.drift), optByte (w.map Window.seekCount),
     item (byteOf jn.lockout), item (flagOf jn.granted), item (flagOf jn.spillIn.isSome), optCt jn.spillIn,
     item (flagOf jn.spillOut.isSome), optCt jn.spillOut, optCt (jn.state.preemption.map Prod.fst),
     optCt (jn.state.preemption.map Prod.snd), optCt (earliestHead j .inbound s), optCt (earliestHead j .outbound s),
     item (byteOf (waitingCount j s))]

/-- WINDOW QUERY at the junction context (R79). -/
def ownWindowQuery (j : Nat) (s : State) : Reply × State :=
  match s.junctions[j]? with
  | none => refuse .notConfigured s
  | some jn => done .none (windowPayload j jn s) s

/-! ## The requests of this block -/

/-- WINDOW QUERY as the port sees it. -/
def reqWindowQuery (ps : List Byte) : Request := ⟨false, (parseByte ps).map ownWindowQuery⟩
/-- SPILLBACK as the port sees it. -/
def reqSpillback (ps : List Byte) : Request := ⟨false, (parseSpillback ps).map ownSpillback⟩

/-- WINDOW_QUERY (R79, R80). -/
def execWindowQuery (ps : List Byte) (s : State) (extra : Nat := 0) : Host.Outcome State Fault Refusal :=
  run (send 0x28 ps extra (some (reqWindowQuery ps))) s
/-- SPILLBACK (R91). -/
def execSpillback (ps : List Byte) (s : State) (extra : Nat := 0) : Host.Outcome State Fault Refusal :=
  run (send 0x29 ps extra (some (reqSpillback ps))) s

end Sys2Proof.Machine
end

