-- ==== Sys2Proof/Machine/Platoons.lean ====
section
/-! DEFINITION. The platoon table: journey arithmetic (R106), PLATOON SEEN (R107 to R114), PASSAGE (R115
to R119), loss (R120), the look-ups and CANCEL PLATOON (R122), and the list order (R123). -/

namespace Sys2Proof.Machine

/-! ## Identifiers (R103) -/

/-- What an identifier names in a collection of `n` slots (R103, R127). -/
inductive Naming (α : Type) (n : Nat) where
  | outOfRange
  | stale (note : Option RetirementNote)
  | record (k : Fin n) (r : α)

/-- An identifier resolved in a collection (R103, R127). -/
def resolve {α : Type} {n : Nat} (v : Vector (Slot α) n) (id : Identifier) : Naming α n :=
  match index? n id.slot with
  | none => .outOfRange
  | some k =>
    if 15 < id.gen then .outOfRange
    else match named v k id.gen with
      | some r => .record k r
      | none => .stale (staleNote v k id.gen)

/-- A STALE_ID refusal with its note (R103, R127). -/
def refuseStale (note : Option RetirementNote) (s : State) : Reply × State :=
  (refusedReply .staleId (stalePayload note), s)

/-! ## Clamping and reasons (R108) -/

/-- Which values of a platoon report or passage were clamped (R108). -/
structure Clamps where
  t : Bool
  count : Bool
  spread : Bool
  deriving DecidableEq, Repr

/-- The clamp byte of a platoon result (R172). -/
def Clamps.bytes (c : Clamps) : List Byte := clampByte c.t c.count c.spread false

/-- The reason of a plain outcome: CLAMPED if any value was clamped, NONE otherwise (R108). -/
def Clamps.reason (c : Clamps) : Reason := if c.t || c.count || c.spread then .clamped else .none

/-- A reported time after now becomes now (R108). -/
def clampTime (now t : Ct) : Ct := if before now t then now else t

/-- A reported time lies more than 300 ds before now (R107). -/
def tooOld (now t : Ct) : Bool := !before now t && 300 < ahead t now

/-! ## Journey arithmetic (R106) -/

/-- The junction is the last one in a direction. -/
def isLast (n : Nat) (d : Direction) (j : Nat) : Bool :=
  match d with
  | .inbound => j + 1 == n
  | .outbound => j == 0

/-- The next junction from `j` in a direction, and the travel time there (table of R106). -/
def linkFrom (a : ActivePlan) (d : Direction) (j : Nat) : Nat × Nat :=
  match d with
  | .inbound => (j + 1, a.tIn.getD j 0)
  | .outbound => (j - 1, a.tOut.getD (j - 1) 0)

/-- The entry travel time of a direction, absent without an entry detector (R25). -/
def entryOf (a : ActivePlan) (d : Direction) : Option Nat :=
  match d with
  | .inbound => a.entryIn
  | .outbound => a.entryOut

/-- The first junction an entry report approaches (table of R106). -/
def entryTarget (n : Nat) (d : Direction) : Nat :=
  match d with
  | .inbound => 0
  | .outbound => n - 1

/-- A record departing at `t` toward junction `k` over a link of travel time `T` (R106). -/
def depart (t : Ct) (k travel c lm : Nat) (p : Platoon) : Platoon :=
  { p with cur := k, head := plus t travel, spread := p.spread + travel / 8, lost := plus (plus t travel) (c + lm) }

/-! ## Merging (R111) -/

/-- The record is a merge partner of another: same direction and junction, heads less than Gm apart
(R111). -/
def isPartner (gm : Nat) (formed r : Platoon) : Bool :=
  r.dir == formed.dir && r.cur == formed.cur && apart r.head formed.head < gm

/-- The merge partner in the table, the one with the earlier head; a slot may be left out (R111, R119). -/
def mergePartner (gm : Nat) (formed : Platoon) (skip : Option (Fin Config.platoonSlots))
    (v : Vector (Slot Platoon) Config.platoonSlots) : Option (Fin Config.platoonSlots × Platoon) :=
  best (fun a b => before a.2.head b.2.head)
    ((lives v).filter fun r => isPartner gm formed r.2 && skip != some r.1)

/-- The partner after the merge (table of R111). -/
def mergeInto (partner formed : Platoon) : Platoon :=
  { partner with head := earlier partner.head formed.head
                 spread := ahead (earlier partner.head formed.head) (later partner.tail formed.tail)
                 count := min 99 (partner.count + formed.count)
                 lost := later partner.lost formed.lost }

/-! ## PLATOON SEEN (R107 to R114) -/

/-- A PLATOON SEEN result that carries a record. -/
def platoonReply (reason : Reason) (k : Fin Config.platoonSlots) (gen : Nat) (p : Platoon) (extra : List Byte)
    (c : Clamps) : Reply :=
  doneReply reason (platoonBytes k.val gen p ++ extra ++ c.bytes)

/-- The formed record placed in a slot (R114). -/
def createPlatoon (k : Fin Config.platoonSlots) (p : Platoon) (s : State) : State :=
  s.setPlatoons (put s.platoons k (s.platoons[k].place p))

/-- The formed record merged into a partner, which may dissolve it (R111, R112). -/
def seenMerge (dl : Nat) (k : Fin Config.platoonSlots) (partner formed : Platoon) (c : Clamps) (s : State) :
    Reply × State :=
  let m := mergeInto partner formed
  let gen := s.platoons[k].gen.val
  if dl < m.spread then
    (doneReply .dissolved (identifierOf k.val gen ++ c.bytes), s.setPlatoons (retireAt s.platoons k .dissolved s.now))
  else (platoonReply .merged k gen m [] c, s.setPlatoons (rewrite s.platoons k m))

/-- The record a full table would give up: smallest count, then latest head, then highest slot (R113). -/
def platoonVictim (v : Vector (Slot Platoon) Config.platoonSlots) : Option (Fin Config.platoonSlots × Platoon) :=
  best (fun a b => a.2.count < b.2.count ||
      (a.2.count == b.2.count && (before b.2.head a.2.head || (a.2.head == b.2.head && b.1.val < a.1.val)))) (lives v)

/-- The formed record on a full table: the victim is evicted, or the report is refused TABLE_FULL (R113). -/
def seenEvict (formed : Platoon) (c : Clamps) (s : State) : Reply × State :=
  match platoonVictim s.platoons with
  | some (k, victim) =>
    if victim.count < formed.count then
      let old := s.platoons[k].gen.val
      let t := (createPlatoon k formed (s.setPlatoons (retireAt s.platoons k .evicted s.now))).latch .platoonEvicted
      (platoonReply .evicted k t.platoons[k].gen.val formed (identifierOf k.val old) c, t)
    else (refusedReply .tableFull [], s.latch .platoonRefused)
  | none => (refusedReply .tableFull [], s.latch .platoonRefused)

/-- The formed record given a slot (R113, R114). -/
def seenPlace (formed : Platoon) (c : Clamps) (s : State) : Reply × State :=
  match lowestEmpty s.platoons with
  | some k =>
    let t := createPlatoon k formed s
    (platoonReply c.reason k t.platoons[k].gen.val formed [] c, t)
  | none => seenEvict formed c s

/-- The formed record dissolved, merged or placed (R110 to R114). -/
def seenFormed (formed : Platoon) (c : Clamps) (s : State) : Reply × State :=
  if s.settings.dl < formed.spread then (doneReply .dissolved c.bytes, s)
  else match mergePartner s.settings.gm formed none s.platoons with
    | some (k, partner) => seenMerge s.settings.dl k partner formed c s
    | none => seenPlace formed c s

/-- The clamps of an admitted report (R108). -/
def seenClamps (now : Ct) (q : SeenFields) : Clamps := ⟨before now q.t, 99 < q.count, 600 < q.spread⟩

/-- The record a report starts from, before its first link (R109). -/
def reported (q : SeenFields) (d : Direction) : Platoon :=
  { dir := d, origin := q.j, cur := 0, head := 0, spread := min q.spread 600, count := min q.count 99, links := 0
    lastPassage := none, lost := 0 }

/-- An admitted report from a junction (R109). -/
def seenAtJunction (q : SeenFields) (d : Direction) (j : Nat) (a : ActivePlan) (p : Plan) (s : State) :
    Reply × State :=
  let c := seenClamps s.now q
  if isLast s.n d j then (doneReply .exiting c.bytes, s)
  else
    let link := linkFrom a d j
    seenFormed (depart (clampTime s.now q.t) link.1 link.2 p.c s.settings.lm (reported q d)) c s

/-- An admitted report from an entry link of travel time `T` (R109). -/
def seenAtEntry (q : SeenFields) (d : Direction) (travel : Nat) (p : Plan) (s : State) : Reply × State :=
  seenFormed (depart (clampTime s.now q.t) (entryTarget s.n d) travel p.c s.settings.lm (reported q d))
    (seenClamps s.now q) s

/-- Steps 4 and 5 of the admission of R107 fail. -/
def seenRefused (q : SeenFields) (s : State) : Bool := q.count == 0 || tooOld s.now q.t

/-- PLATOON SEEN at the platoon table (R107 to R114). -/
def ownPlatoonSeen (q : SeenFields) (s : State) : Reply × State :=
  match s.activeRecord with
  | none => refuse .noPlan s
  | some (a, p) =>
    match direction? q.dir with
    | none => refuse .outOfRange s
    | some d =>
      match q.j with
      | some j =>
        if s.n ≤ j then refuse .notConfigured s
        else if seenRefused q s then refuse .outOfRange s
        else seenAtJunction q d j a p s
      | none =>
        match entryOf a d with
        | none => refuse .notConfigured s
        | some travel => if seenRefused q s then refuse .outOfRange s else seenAtEntry q d travel p s

/-! ## PASSAGE (R115 to R119) -/

/-- The record at the start of every advance: links travelled, then the last passage (R118). -/
def passed (t : Ct) (p : Platoon) : Platoon :=
  { p with links := if p.origin.isSome || p.lastPassage.isSome then p.links + 1 else p.links, lastPassage := some t }

/-- The advancing record absorbed into a partner, which may dissolve in its turn (R119). -/
def passageMerge (dl : Nat) (k m : Fin Config.platoonSlots) (partner advancing : Platoon) (c : Clamps) (s : State) :
    Reply × State :=
  let u := mergeInto partner advancing
  let gone := retireAt s.platoons k .merged s.now
  let gen := s.platoons[m].gen.val
  if dl < u.spread then
    (platoonReply .dissolved m gen u [] c, s.setPlatoons (retireAt gone m .dissolved s.now))
  else (platoonReply .merged m gen u [] c, s.setPlatoons (rewrite gone m u))

/-- The record advanced onto its next link (R119). -/
def advanceOnward (k : Fin Config.platoonSlots) (advancing : Platoon) (c : Clamps) (s : State) : Reply × State :=
  if s.settings.dl < advancing.spread then
    (doneReply .dissolved c.bytes, s.setPlatoons (retireAt s.platoons k .dissolved s.now))
  else match mergePartner s.settings.gm advancing (some k) s.platoons with
    | some (m, partner) => passageMerge s.settings.dl k m partner advancing c s
    | none =>
      (platoonReply c.reason k s.platoons[k].gen.val advancing [] c, s.setPlatoons (rewrite s.platoons k advancing))

/-- The record of slot `k` advanced by a passage at junction `j`, or retired EXITED at the last one (R118). -/
def advance (k : Fin Config.platoonSlots) (r : Platoon) (j : Nat) (t : Ct) (a : ActivePlan) (p : Plan) (c : Clamps)
    (s : State) : Reply × State :=
  if isLast s.n r.dir j then
    (doneReply .exiting (identifierOf k.val s.platoons[k].gen.val ++ c.bytes),
      s.setPlatoons (retireAt s.platoons k .exited s.now))
  else
    let link := linkFrom a r.dir j
    advanceOnward k (depart t link.1 link.2 p.c s.settings.lm (passed t r)) c s

/-- The record a passage without identifier matches: the earliest head within Lm, the lower slot on a
tie (R117). -/
def matchPassage (j : Nat) (d : Direction) (t : Ct) (s : State) : Option (Fin Config.platoonSlots × Platoon) :=
  best (fun a b => before a.2.head b.2.head)
    (s.livePlatoons.filter fun r => r.2.dir == d && r.2.cur == j && apart t r.2.head ≤ s.settings.lm)

/-- A passage naming its record (R116). -/
def passageById (id : Identifier) (j : Nat) (d : Direction) (t : Ct) (a : ActivePlan) (p : Plan) (c : Clamps)
    (s : State) : Reply × State :=
  match resolve s.platoons id with
  | .outOfRange => refuse .outOfRange s
  | .stale note => refuseStale note s
  | .record k r =>
    if r.dir = d && r.cur = j then advance k r j t a p c s
    else (refusedReply .wrongJunction (directionOf r.dir ++ byteOf r.cur), s)

/-- A passage without identifier (R117). -/
def passageByMatch (j : Nat) (d : Direction) (t : Ct) (a : ActivePlan) (p : Plan) (c : Clamps) (s : State) :
    Reply × State :=
  match matchPassage j d t s with
  | some (k, r) => advance k r j t a p c s
  | none => (doneReply .noMatch c.bytes, s)

/-- PASSAGE at the platoon table (R115). -/
def ownPassage (q : PassageFields) (s : State) : Reply × State :=
  match s.activeRecord with
  | none => refuse .noPlan s
  | some (a, p) =>
    match direction? q.dir with
    | none => refuse .outOfRange s
    | some d =>
      if s.n ≤ q.j then refuse .notConfigured s
      else if tooOld s.now q.t then refuse .outOfRange s
      else
        let c : Clamps := ⟨before s.now q.t, false, false⟩
        match q.id with
        | some id => passageById id q.j d (clampTime s.now q.t) a p c s
        | none => passageByMatch q.j d (clampTime s.now q.t) a p c s

/-! ## Loss, look-ups and cancellation (R120, R122) -/

/-- The record of a slot is lost (R120). -/
def losePlatoon (k : Fin Config.platoonSlots) (s : State) : State :=
  s.setPlatoons (retireAt s.platoons k .lost s.now)

/-- A platoon record as the look-ups return it: the record, then the spillback flags of its current junction
(R122), a byte for each, inbound first: which of the two comes first the spec does not say. DEDUCED, unsafe
(log 11). -/
def platoonLook (k : Fin Config.platoonSlots) (gen : Nat) (p : Platoon) (s : State) : List Byte :=
  platoonBytes k.val gen p ++ flagOf ((s.junctions[p.cur]?).bind Junction.spillIn).isSome ++
    flagOf ((s.junctions[p.cur]?).bind Junction.spillOut).isSome

/-- READ PLATOON at the platoon table (R122). -/
def ownReadPlatoon (id : Identifier) (s : State) : Reply × State :=
  match resolve s.platoons id with
  | .outOfRange => refuse .outOfRange s
  | .stale note => refuseStale note s
  | .record k r => done .none (platoonLook k id.gen r s) s

/-- CANCEL PLATOON at the platoon table (R122). -/
def ownCancelPlatoon (id : Identifier) (s : State) : Reply × State :=
  match resolve s.platoons id with
  | .outOfRange => refuse .outOfRange s
  | .stale note => refuseStale note s
  | .record k r =>
    done .none (platoonBytes k.val id.gen r) (s.setPlatoons (retireAt s.platoons k .cancelled s.now))

/-! ## The requests of this block -/

/-- PLATOON SEEN as the port sees it. -/
def reqPlatoonSeen (ps : List Byte) : Request := ⟨false, (parsePlatoonSeen ps).map ownPlatoonSeen⟩
/-- PASSAGE as the port sees it. -/
def reqPassage (ps : List Byte) : Request := ⟨false, (parsePassage ps).map ownPassage⟩
/-- READ PLATOON as the port sees it. -/
def reqReadPlatoon (ps : List Byte) : Request := ⟨false, (parseIdentifier ps).map ownReadPlatoon⟩
/-- CANCEL PLATOON as the port sees it. -/
def reqCancelPlatoon (ps : List Byte) : Request := ⟨false, (parseIdentifier ps).map ownCancelPlatoon⟩

/-- PLATOON_SEEN (R107). -/
def execPlatoonSeen (ps : List Byte) (s : State) (extra : Nat := 0) : Host.Outcome State Fault Refusal :=
  run (send 0x30 ps extra (some (reqPlatoonSeen ps))) s
/-- PASSAGE (R115). -/
def execPassage (ps : List Byte) (s : State) (extra : Nat := 0) : Host.Outcome State Fault Refusal :=
  run (send 0x31 ps extra (some (reqPassage ps))) s
/-- READ_PLATOON (R122). -/
def execReadPlatoon (ps : List Byte) (s : State) (extra : Nat := 0) : Host.Outcome State Fault Refusal :=
  run (send 0x32 ps extra (some (reqReadPlatoon ps))) s
/-- CANCEL_PLATOON (R122). -/
def execCancelPlatoon (ps : List Byte) (s : State) (extra : Nat := 0) : Host.Outcome State Fault Refusal :=
  run (send 0x33 ps extra (some (reqCancelPlatoon ps))) s

end Sys2Proof.Machine
end

