-- ==== Sys2Proof/Machine/Transit.lean ====
section
/-! DEFINITION. The priority list: CHECK IN (R128 to R132), CHECK OUT (R134), expiry (R135), READ PRIORITY
(R136), CLEAR RECORDS (R138), and the list sequences of both collections (R123, R124, R137, R162, R163). -/

namespace Sys2Proof.Machine

/-! ## CHECK IN (R128 to R132) -/

/-- The ETA was outside now to now + 3000 and is clamped (R129). -/
def etaClamped (now eta : Ct) : Bool := before eta now || 3000 < ahead now eta

/-- The ETA as clamped (R129). -/
def clampEta (now eta : Ct) : Ct :=
  if before eta now then now else if 3000 < ahead now eta then plus now 3000 else eta

/-- The live record that holds a tag at a junction (R130, R134). -/
def recordOf (tag j : Nat) (s : State) : Option (Fin Config.prioritySlots × Priority) :=
  s.livePriorities.find? fun r => r.2.tag == tag && r.2.junction == j

/-- What an admitted check-in asks for, its ETA as clamped. -/
structure CheckIn where
  j : Nat
  dir : Direction
  tag : Nat
  cls : PriorityClass
  eta : Ct
  clamped : Bool
  deriving DecidableEq, Repr

/-- The record updated by a check-in (R130). -/
def updatePriority (q : CheckIn) (lm : Nat) (r : Priority) : Priority :=
  { r with dir := q.dir, cls := q.cls, eta := q.eta, expiry := plus q.eta lm }

/-- The record a check-in creates (R131). -/
def newPriority (q : CheckIn) (lm : Nat) : Priority :=
  { tag := q.tag, junction := q.j, dir := q.dir, cls := q.cls, eta := q.eta, expiry := plus q.eta lm, grant := none }

/-- The early-green evaluation a check-in of a LATE record makes (R132). -/
def afterCheckIn (q : CheckIn) (s : State) : State := if q.cls = .late then evaluateEarly q.j s else s

/-- The result of a check-in, formed after the evaluation, for the record in slot `k` (R129, R132). -/
def checkInReply (reason : Reason) (k : Fin Config.prioritySlots) (extra : List Byte) (q : CheckIn) (t : State) :
    Reply × State :=
  match t.priorities[k].live with
  | some r =>
    (doneReply reason
      (priorityBytes k.val t.priorities[k].gen.val r ++ extra ++ clampByte false false false q.clamped), t)
  | none => (doneReply reason (extra ++ clampByte false false false q.clamped), t)

/-- The check-in's record placed in a slot (R131). -/
def createPriority (k : Fin Config.prioritySlots) (r : Priority) (s : State) : State :=
  s.setPriorities (put s.priorities k (s.priorities[k].place r))

/-- The REGULAR record a LATE check-in displaces: the latest ETA, the highest slot on a tie (R131). -/
def priorityVictim (s : State) : Option (Fin Config.prioritySlots × Priority) :=
  best (fun a b => before b.2.eta a.2.eta || (a.2.eta == b.2.eta && b.1.val < a.1.val))
    (s.livePriorities.filter fun r => r.2.cls == .regular)

/-- A check-in that creates a record (R131). The slot of an evicted record is given the new one at once, which
discards its note as R125 states: a look-up of the evicted identifier then answers STALE_ID with the note absent, as
R127 states, and not with the note that R131 speaks of. DEDUCED, unsafe (log 20). -/
def checkInCreate (q : CheckIn) (s : State) : Reply × State :=
  match lowestEmpty s.priorities with
  | some k =>
    checkInReply (if q.clamped then .clamped else .none) k [] q
      (afterCheckIn q (createPriority k (newPriority q s.settings.lm) s))
  | none =>
    match q.cls, priorityVictim s with
    | .late, some (k, _) =>
      checkInReply .evicted k (identifierOf k.val s.priorities[k].gen.val) q
        (afterCheckIn q (createPriority k (newPriority q s.settings.lm)
          (s.setPriorities (retireAt s.priorities k .evicted s.now))))
    | .late, none | .regular, _ => refuse .tableFull s

/-- An admitted check-in (R130, R131). -/
def checkIn (q : CheckIn) (s : State) : Reply × State :=
  match recordOf q.tag q.j s with
  | some (k, r) =>
    checkInReply .updated k [] q
      (afterCheckIn q (s.setPriorities (rewrite s.priorities k (updatePriority q s.settings.lm r))))
  | none => checkInCreate q s

/-- CHECK IN at the priority list (R128). -/
def ownCheckIn (q : CheckInFields) (s : State) : Reply × State :=
  if s.selector.active.isNone then refuse .noPlan s
  else
    match direction? q.dir, class? q.cls with
    | some d, some cls =>
      if q.tag = 0 then refuse .outOfRange s
      else if s.n ≤ q.j then refuse .notConfigured s
      else if (s.attributes q.j).noPriority then refuse .excluded s
      else checkIn ⟨q.j, d, q.tag, cls, clampEta s.now q.eta, etaClamped s.now q.eta⟩ s
    | _, _ => refuse .outOfRange s

/-! ## CHECK OUT and expiry (R134, R135) -/

/-- A record checked out (R134). -/
def checkOutAt (k : Fin Config.prioritySlots) (r : Priority) (s : State) : Reply × State :=
  done .none (priorityBytes k.val s.priorities[k].gen.val r)
    (s.setPriorities (retireAt s.priorities k .checkedOut s.now))

/-- CHECK OUT at the priority list (R134). -/
def ownCheckOut (q : CheckOutForm) (s : State) : Reply × State :=
  match q with
  | .byId id =>
    match resolve s.priorities id with
    | .outOfRange => refuse .outOfRange s
    | .stale note => refuseStale note s
    | .record k r => checkOutAt k r s
  | .byTag tag j =>
    if tag = 0 then refuse .outOfRange s
    else if s.n ≤ j then refuse .notConfigured s
    else match recordOf tag j s with
      | some (k, r) => checkOutAt k r s
      | none => refuse .noSuchRecord s

/-- The record of a slot expires; a WAITING one sets PRIORITY_EXPIRED (R135). -/
def expirePriority (k : Fin Config.prioritySlots) (s : State) : State :=
  let t := s.setPriorities (retireAt s.priorities k .expired s.now)
  match s.priorities[k].live with
  | some r => if r.waiting then t.latch .priorityExpired else t
  | none => t

/-! ## READ PRIORITY and CLEAR RECORDS (R136, R138) -/

/-- A priority record as the look-ups return it: the record, then the state of its junction, the phase
when it has one, the lockout and the granted-this-cycle flag (R136). -/
def priorityLook (k : Fin Config.prioritySlots) (gen : Nat) (r : Priority) (s : State) : List Byte :=
  let jn := s.junctions[r.junction]?
  payloadOf
    [item (priorityBytes k.val gen r), item ((jn.map fun j => contextStateOf j.state).getD [0, 0]),
     optItem 1 ((jn.bind Junction.cycle?).map fun c => phaseOf c.phase),
     item (byteOf ((jn.map Junction.lockout).getD 0)), item (flagOf ((jn.map Junction.granted).getD false))]

/-- READ PRIORITY at the priority list (R136). -/
def ownReadPriority (id : Identifier) (s : State) : Reply × State :=
  match resolve s.priorities id with
  | .outOfRange => refuse .outOfRange s
  | .stale note => refuseStale note s
  | .record k r => done .none (priorityLook k id.gen r s) s

/-- CLEAR RECORDS at the two collections (R138). -/
def ownClearRecords (_ : Unit) (s : State) : Reply × State :=
  done .none (byteOf s.livePlatoons.length ++ byteOf s.livePriorities.length)
    ((s.setPlatoons (retireAll s.platoons .cleared s.now)).setPriorities (retireAll s.priorities .cleared s.now))

/-! ## List sequences (R123, R124, R137, R162, R163) -/

/-- A sort key: an ETA and a slot. -/
abbrev ListKey := Ct × Nat

/-- The list order: the earlier ETA first, then the lower slot (R123, R137). -/
def keyBefore (a b : ListKey) : Bool := before a.1 b.1 || (a.1 == b.1 && a.2 < b.2)

/-- One entry of a listing: its key, and the record as its look-up returns it. -/
structure ListEntry where
  key : ListKey
  bytes : List Byte
  deriving DecidableEq, Repr

/-- A filter accepts a value: it names it, or it names none. -/
def passes {α : Type} [BEq α] (filter : Option α) (x : α) : Bool :=
  match filter with
  | some y => y == x
  | none => true

/-- The records that pass the filters of a sequence, as they stand (R123, R137). -/
def passing (f : ListFilter) (s : State) : List ListEntry :=
  match f with
  | .platoons j d =>
    (s.livePlatoons.filter fun r => passes j r.2.cur && passes d r.2.dir).map fun r =>
      ⟨(r.2.head, r.1.val), platoonLook r.1 s.platoons[r.1].gen.val r.2 s⟩
  | .priorities j =>
    (s.livePriorities.filter fun r => passes j r.2.junction).map fun r =>
      ⟨(r.2.eta, r.1.val), priorityLook r.1 s.priorities[r.1].gen.val r.2 s⟩

/-- The entries that come after a cursor in list order; all of them without a cursor (R124, R137). -/
def afterCursor (cursor : Option ListKey) (xs : List ListEntry) : List ListEntry :=
  match cursor with
  | some k => xs.filter fun e => keyBefore k e.key
  | none => xs

/-- The state with the port's list sequence. -/
def State.setSequence (s : State) (q : Option ListSequence) : State := s.setPort { s.port with sequence := q }

/-- One step of a sequence: the first passing record after the cursor, with MORE while another follows
it, and with END, which closes the sequence, when none does (R162, R163). -/
def listStep (f : ListFilter) (cursor : Option ListKey) (s : State) : Reply × State :=
  match best (fun a b => keyBefore a.key b.key) (afterCursor cursor (passing f s)) with
  | none => (⟨.done, .none, [], false, true⟩, s.setSequence none)
  | some e =>
    if (passing f s).any fun x => keyBefore e.key x.key then
      (⟨.done, .none, e.bytes, true, false⟩, s.setSequence (some ⟨f, e.key.1, e.key.2⟩))
    else (⟨.done, .none, e.bytes, false, true⟩, s.setSequence none)

/-- A junction filter names a junction that is not configured. -/
def filterUnconfigured (j : Option Nat) (s : State) : Bool :=
  match j with
  | some k => s.n ≤ k
  | none => false

/-- LIST PLATOONS (R123, R162). -/
def ownListPlatoons (q : Nat × Nat) (s : State) : Reply × State :=
  match junctionFilter? q.1, directionFilter? q.2 with
  | some j, some d => if filterUnconfigured j s then refuse .notConfigured s else listStep (.platoons j d) none s
  | _, _ => refuse .outOfRange s

/-- LIST PRIORITY (R137, R162). -/
def ownListPriority (q : Nat) (s : State) : Reply × State :=
  match junctionFilter? q with
  | some j => if filterUnconfigured j s then refuse .notConfigured s else listStep (.priorities j) none s
  | none => refuse .outOfRange s

/-- CONTINUE LIST (R163). -/
def ownContinueList (_ : Unit) (s : State) : Reply × State :=
  match s.port.sequence with
  | none => refuse .wrongState s
  | some q => listStep q.filter (some (q.keyTime, q.keySlot)) s

/-! ## The requests of this block -/

/-- CHECK IN as the port sees it. -/
def reqCheckIn (ps : List Byte) : Request := ⟨false, (parseCheckIn ps).map ownCheckIn⟩
/-- CHECK OUT as the port sees it. -/
def reqCheckOut (ps : List Byte) : Request := ⟨false, (parseCheckOut ps).map ownCheckOut⟩
/-- READ PRIORITY as the port sees it. -/
def reqReadPriority (ps : List Byte) : Request := ⟨false, (parseIdentifier ps).map ownReadPriority⟩
/-- CLEAR RECORDS as the port sees it. -/
def reqClearRecords (ps : List Byte) : Request := ⟨false, (parseNone ps).map ownClearRecords⟩
/-- LIST PLATOONS as the port sees it. -/
def reqListPlatoons (ps : List Byte) : Request := ⟨false, (parseListPlatoons ps).map ownListPlatoons⟩
/-- LIST PRIORITY as the port sees it. -/
def reqListPriority (ps : List Byte) : Request := ⟨false, (parseByte ps).map ownListPriority⟩
/-- CONTINUE LIST as the port sees it. -/
def reqContinueList (ps : List Byte) : Request := ⟨false, (parseNone ps).map ownContinueList⟩

/-- CHECK_IN (R128). -/
def execCheckIn (ps : List Byte) (s : State) (extra : Nat := 0) : Host.Outcome State Fault Refusal :=
  run (send 0x38 ps extra (some (reqCheckIn ps))) s
/-- CHECK_OUT (R134). -/
def execCheckOut (ps : List Byte) (s : State) (extra : Nat := 0) : Host.Outcome State Fault Refusal :=
  run (send 0x39 ps extra (some (reqCheckOut ps))) s
/-- READ_PRIORITY (R136). -/
def execReadPriority (ps : List Byte) (s : State) (extra : Nat := 0) : Host.Outcome State Fault Refusal :=
  run (send 0x3A ps extra (some (reqReadPriority ps))) s
/-- LIST_PRIORITY (R137). -/
def execListPriority (ps : List Byte) (s : State) (extra : Nat := 0) : Host.Outcome State Fault Refusal :=
  run (send 0x3B ps extra (some (reqListPriority ps))) s
/-- CLEAR_RECORDS (R138). -/
def execClearRecords (ps : List Byte) (s : State) (extra : Nat := 0) : Host.Outcome State Fault Refusal :=
  run (send 0x3C ps extra (some (reqClearRecords ps))) s
/-- LIST_PLATOONS (R123). -/
def execListPlatoons (ps : List Byte) (s : State) (extra : Nat := 0) : Host.Outcome State Fault Refusal :=
  run (send 0x34 ps extra (some (reqListPlatoons ps))) s
/-- CONTINUE_LIST (R163). -/
def execContinueList (ps : List Byte) (s : State) (extra : Nat := 0) : Host.Outcome State Fault Refusal :=
  run (send 0x50 ps extra (some (reqContinueList ps))) s

end Sys2Proof.Machine
end

