-- ==== Sys2Proof/Machine/Cabinet.lean ====
section
/-! DEFINITION. Preemption (R139 to R142), the discrete inputs (R145 to R151) and the alert requests (R170,
R171), with LOCK EDITS (R166). -/

namespace Sys2Proof.Machine

/-! ## Preemption (R139 to R142) -/

/-- The payload of PREEMPT BEGIN: return state, start and deadline (R139, R140). -/
def preemptPayload (c : Coordination) : List Byte :=
  match c with
  | .preempt start deadline ret => returnStateOf ret ++ ctOf start ++ ctOf deadline
  | .free _ | .seek _ | .inStep _ => []

/-- PREEMPT BEGIN at the junction context, fresh or a refresh (R139, R140). -/
def ownPreemptBegin (j : Nat) (s : State) : Reply × State :=
  match s.junctions[j]? with
  | none => refuse .notConfigured s
  | some jn =>
    let q := beginPreempt s.now s.settings.pmax s.corridorFree jn
    done (if jn.state.isPreempt then .refreshed else .none) (preemptPayload q.state) (s.updateJunction j fun _ => q)

/-- PREEMPT END at the junction context (R141). -/
def ownPreemptEnd (j : Nat) (s : State) : Reply × State :=
  match s.junctions[j]? with
  | none => refuse .notConfigured s
  | some jn =>
    if jn.state.isPreempt then
      let q := endPreempt s.now jn
      done .none (contextStateOf q.state) (s.updateJunction j fun _ => q)
    else refuse .wrongState s

/-- The preempt deadline of junction `j`: the preemption ends and PREEMPT_TIMEOUT is set (R142). -/
def preemptTimeout (j : Nat) (s : State) : State :=
  (s.updateJunction j fun jn => endPreempt s.now jn).latch .preemptTimeout

/-! ## Validation of an input (R145) -/

/-- The sampled level is active under the input's polarity (R145). -/
def Input.rawActive (i : Input) : Bool :=
  match i.polarity, i.raw with
  | .activeLow, .low | .activeHigh, .high => true
  | .activeLow, .high | .activeHigh, .low => false

/-- The sample disagrees with the validated state (R145). -/
def Input.disagrees (i : Input) : Bool := i.rawActive != i.validated

/-- The time a disagreeing run must reach (R145). -/
def Input.runTime (i : Input) : Nat := if i.validated then i.releaseTime else i.assertTime

/-- The input sampled at a count: a disagreeing sample starts a run, an agreeing one ends it (R145). -/
def Input.sample (i : Input) (l : Level) (now : Ct) : Input :=
  let k := { i with raw := l }
  { k with runStart := if k.disagrees then some (k.runStart.getD now) else none }

/-- The run has reached its time, so that the validated state flips at this count (R145). -/
def Input.flips (i : Input) (now : Ct) : Bool :=
  match i.runStart with
  | some start => i.disagrees && i.runTime ≤ ahead start now
  | none => false

/-! ## Changes handed to the owner of the function (R148, R149, R151) -/

/-- CORRIDOR_FREE is validated (R148). -/
def corridorFreeValidated (s : State) : State := s.setJunctions (s.junctions.map freeByCorridor)

/-- CORRIDOR_FREE is released (R149). -/
def corridorFreeReleased (s : State) : State := s.setJunctions (s.junctions.map fun j => rejoinCorridor s.now j)

/-- The corridor-wide CORRIDOR_FREE as it goes from `was` to what it is (R148). -/
def corridorFreeChange (was : Bool) (s : State) : State :=
  if !was && s.corridorFree then corridorFreeValidated s
  else if was && !s.corridorFree then corridorFreeReleased s else s

/-- The state with input `k` validated as given and its run ended. -/
def setValidated (k : Fin Config.inputCount) (v : Bool) (s : State) : State :=
  s.setInputs (put s.inputs k { s.inputs[k] with validated := v, runStart := none })

/-- A change of a validated state, handed at once to the owner of the input's function (R145). -/
def changeInput (k : Fin Config.inputCount) (v : Bool) (s : State) : State :=
  match s.inputs[k].func with
  | .none | .editEnable => setValidated k v s
  | .corridorFree => corridorFreeChange s.corridorFree (setValidated k v s)
  | .planForce _ => if v then select false (setValidated k v s) else catchUp (setValidated k v s)

/-- The validated state of input `k` takes the sampled value (R145). -/
def validateInput (k : Fin Config.inputCount) (s : State) : State := changeInput k s.inputs[k].rawActive s

/-! ## SET INPUT, READ INPUTS (R146, R147) -/

/-- The configuration SET INPUT carries, where it is in range (R146). -/
def InputFields.config (q : InputFields) : Option (InputFunction × Polarity) :=
  if q.plan ≤ Config.planCount && q.assertTime ≤ 255 && q.releaseTime ≤ 255 then
    match inputFunction? q.func q.plan, polarity? q.polarity with
    | some f, some p => some (f, p)
    | _, _ => none
  else none

/-- Stages 2 and 3 of SET INPUT: the configuration stored, validation starting afresh (R146). -/
def configureInput (k : Fin Config.inputCount) (f : InputFunction) (p : Polarity) (a r : Nat) (s : State) : State :=
  s.setInputs (put s.inputs k
    { s.inputs[k] with func := f, polarity := p, assertTime := a, releaseTime := r, runStart := none })

/-- Stage 1 of SET INPUT: an input that was validated active is released (R146). -/
def releaseInput (k : Fin Config.inputCount) (s : State) : State :=
  if s.inputs[k].validated then changeInput k false s else s

/-- SET INPUT at the discrete inputs (R146). -/
def ownSetInput (q : InputFields) (s : State) : Reply × State :=
  match index? Config.inputCount q.index, q.config with
  | some k, some (f, p) => done .none [] (configureInput k f p q.assertTime q.releaseTime (releaseInput k s))
  | _, _ => refuse .outOfRange s

/-- The payload of READ INPUTS: each item for the four inputs in rising order, then the combined states
(R147, R172). The spec leaves two points of it open: the assert and the release times are two items, four assert
times and then four release times; and the validated state is a byte of 1 for active, 0 for inactive. DEDUCED,
unsafe (log 11). -/
def readInputsPayload (s : State) : List Byte :=
  let xs := s.inputs.toList
  payloadOf <|
    xs.map (fun i => item (inputFunctionOf i.func ++ byteOf (inputPlan i.func))) ++
    xs.map (fun i => item (polarityOf i.polarity)) ++ xs.map (fun i => item (byteOf i.assertTime)) ++
    xs.map (fun i => item (byteOf i.releaseTime)) ++ xs.map (fun i => item (flagOf (i.raw == .high))) ++
    xs.map (fun i => item (flagOf i.rawActive)) ++ xs.map (fun i => item (flagOf i.validated)) ++
    xs.map (fun i => optCt i.runStart) ++
    [item (flagOf s.editGate), item (flagOf s.corridorFree), optByte (s.forced.map Prod.fst),
     optByte (s.forced.map Prod.snd), item (lampOf s.lampPattern)]

/-- READ INPUTS at the discrete inputs (R147). -/
def ownReadInputs (_ : Unit) (s : State) : Reply × State := done .none (readInputsPayload s) s

/-! ## Alert requests (R170, R171) -/

/-- The payload of READ ALERTS (R170). -/
def readAlertsPayload (s : State) : List Byte :=
  let a := s.alerts
  sourceSetOf s.pendingSet ++ sourceSetOf a.latched ++ sourceSetOf a.enable ++ flagOf a.global ++ pinModeOf a.mode ++
    sourceSetOf a.wMask ++ sourceSetOf a.fMask ++ flagOf s.alertPin

/-- READ ALERTS at the alert unit (R170). -/
def ownReadAlerts (_ : Unit) (s : State) : Reply × State := done .none (readAlertsPayload s) s

/-- The configuration SET ALERT CONFIG carries, over what the unit holds; LEVEL mode and a global enable
that is off end any pulse (R169, R170). -/
def AlertFields.config (q : AlertFields) (a : Alerts) : Option Alerts :=
  match sourceSet? q.enable, flag? q.global, pinMode? q.mode, sourceSet? q.wMask, sourceSet? q.fMask with
  | some e, some g, some m, some w, some f =>
    some { latched := a.latched, enable := e, global := g, mode := m, wMask := w, fMask := f
           pulseEnd := if g && m == .pulse then a.pulseEnd else none }
  | _, _, _, _, _ => none

/-- SET ALERT CONFIG at the alert unit (R170). -/
def ownSetAlertConfig (q : AlertFields) (s : State) : Reply × State :=
  match q.config s.alerts with
  | some a => done .none [] (s.setAlerts a)
  | none => refuse .outOfRange s

/-- ACKNOWLEDGE ALERTS at the alert unit (R171). -/
def ownAcknowledgeAlerts (q : Nat) (s : State) : Reply × State :=
  match sourceSet? q with
  | some m =>
    done .none (sourceSetOf (s.alerts.latched &&& m))
      (s.setAlerts { s.alerts with latched := s.alerts.latched &&& ~~~m })
  | none => refuse .outOfRange s

/-! ## LOCK EDITS (R166) -/

/-- LOCK EDITS at the request port (R166). -/
def ownLockEdits (_ : Unit) (s : State) : Reply × State :=
  if s.port.editLock then done .noChange [] s
  else done .none [] (s.setPort { s.port with editLock := true })

/-! ## The requests of these blocks -/

/-- PREEMPT BEGIN as the port sees it. -/
def reqPreemptBegin (ps : List Byte) : Request := ⟨false, (parseByte ps).map ownPreemptBegin⟩
/-- PREEMPT END as the port sees it. -/
def reqPreemptEnd (ps : List Byte) : Request := ⟨false, (parseByte ps).map ownPreemptEnd⟩
/-- SET INPUT as the port sees it: an edit (R165). -/
def reqSetInput (ps : List Byte) : Request := ⟨true, (parseSetInput ps).map ownSetInput⟩
/-- READ INPUTS as the port sees it. -/
def reqReadInputs (ps : List Byte) : Request := ⟨false, (parseNone ps).map ownReadInputs⟩
/-- READ ALERTS as the port sees it. -/
def reqReadAlerts (ps : List Byte) : Request := ⟨false, (parseNone ps).map ownReadAlerts⟩
/-- SET ALERT CONFIG as the port sees it. -/
def reqSetAlertConfig (ps : List Byte) : Request := ⟨false, (parseSetAlertConfig ps).map ownSetAlertConfig⟩
/-- ACKNOWLEDGE ALERTS as the port sees it. -/
def reqAcknowledgeAlerts (ps : List Byte) : Request := ⟨false, (parseMask ps).map ownAcknowledgeAlerts⟩
/-- LOCK EDITS as the port sees it. -/
def reqLockEdits (ps : List Byte) : Request := ⟨false, (parseNone ps).map ownLockEdits⟩

/-- PREEMPT_BEGIN (R139). -/
def execPreemptBegin (ps : List Byte) (s : State) (extra : Nat := 0) : Host.Outcome State Fault Refusal :=
  run (send 0x2A ps extra (some (reqPreemptBegin ps))) s
/-- PREEMPT_END (R141). -/
def execPreemptEnd (ps : List Byte) (s : State) (extra : Nat := 0) : Host.Outcome State Fault Refusal :=
  run (send 0x2B ps extra (some (reqPreemptEnd ps))) s
/-- SET_INPUT (R146). -/
def execSetInput (ps : List Byte) (s : State) (extra : Nat := 0) : Host.Outcome State Fault Refusal :=
  run (send 0x40 ps extra (some (reqSetInput ps))) s
/-- READ_INPUTS (R147). -/
def execReadInputs (ps : List Byte) (s : State) (extra : Nat := 0) : Host.Outcome State Fault Refusal :=
  run (send 0x41 ps extra (some (reqReadInputs ps))) s
/-- READ_ALERTS (R170). -/
def execReadAlerts (ps : List Byte) (s : State) (extra : Nat := 0) : Host.Outcome State Fault Refusal :=
  run (send 0x48 ps extra (some (reqReadAlerts ps))) s
/-- SET_ALERT_CONFIG (R170). -/
def execSetAlertConfig (ps : List Byte) (s : State) (extra : Nat := 0) : Host.Outcome State Fault Refusal :=
  run (send 0x49 ps extra (some (reqSetAlertConfig ps))) s
/-- ACKNOWLEDGE_ALERTS (R171). -/
def execAcknowledgeAlerts (ps : List Byte) (s : State) (extra : Nat := 0) : Host.Outcome State Fault Refusal :=
  run (send 0x4A ps extra (some (reqAcknowledgeAlerts ps))) s
/-- LOCK_EDITS (R166). -/
def execLockEdits (ps : List Byte) (s : State) (extra : Nat := 0) : Host.Outcome State Fault Refusal :=
  run (send 0x51 ps extra (some (reqLockEdits ps))) s

end Sys2Proof.Machine
end

