-- ==== Sys2Proof/Machine/Events.lean ====
section
/-! DEFINITION. The timed events of the part: when each is due, what it does, and the order in which a
count of CT takes those that are still due before it (R1); the commands RESET (R174), CT_COUNT (R1, R3,
R7, R13, R145), STATUS_BLINK (R152) and the event rows of the table. -/

namespace Sys2Proof.Machine

/-- The timed events of the part. -/
inductive Event where
  | edge
  | minuteMark
  | boundary
  | syncLoss
  | validation (i : Fin Config.inputCount)
  | pulseEnd
  | spillExpiry (j : Fin Config.maxJunctions) (d : Direction)
  | platoonLost (k : Fin Config.platoonSlots)
  | priorityExpiry (k : Fin Config.prioritySlots)
  | preemptDeadline (j : Fin Config.maxJunctions)
  | greenEnd (j : Fin Config.maxJunctions)
  | booking (j : Fin Config.maxJunctions)
  deriving DecidableEq, Repr

/-- A stored time is reached: it is at or before now, which for a time stored ahead first holds at the
count that equals it, and for one stored at or before now holds at once (R1). -/
def reached (now : Ct) (t : Option Ct) : Bool :=
  match t with
  | some x => atOrBefore x now
  | none => false

/-- The time stored for the green-end check of a junction, while its phase is GREEN (R83). -/
def Junction.checkTime (j : Junction) : Option Ct :=
  match j.cycle? with
  | some c => if c.phase = .green then some c.greenEnd else none
  | none => none

/-- The time stored for the booking of a junction (R68, R76). -/
def Junction.bookTime (j : Junction) : Option Ct := j.state.window?.map Window.bookingTime

/-- The preempt deadline of a junction (R142). -/
def Junction.deadline (j : Junction) : Option Ct := j.state.preemption.map Prod.snd

/-- The event is due at this count and has not been taken. -/
def Event.due (e : Event) (s : State) : Bool :=
  match e with
  | .edge => s.time.edgeDue
  | .minuteMark => s.time.markDue
  | .boundary => s.time.boundaryDue
  | .syncLoss => s.settings.syncEnable && !s.time.syncLost && reached s.now (some (plus s.time.lastPulse 1800))
  | .validation i => s.inputs[i].flips s.now
  | .pulseEnd => reached s.now s.alerts.pulseEnd
  | .spillExpiry j d => reached s.now ((s.junctions[j.val]?).bind fun q => q.spill d)
  | .platoonLost k => reached s.now (s.platoons[k].live.map Platoon.lost)
  | .priorityExpiry k => reached s.now (s.priorities[k].live.map Priority.expiry)
  | .preemptDeadline j => reached s.now ((s.junctions[j.val]?).bind Junction.deadline)
  | .greenEnd j => reached s.now ((s.junctions[j.val]?).bind Junction.checkTime)
  | .booking j => reached s.now ((s.junctions[j.val]?).bind Junction.bookTime)

/-- What the event does. -/
def Event.effect (e : Event) (s : State) : State :=
  match e with
  | .edge => takeEdge s
  | .minuteMark => Sys2Proof.Machine.minuteMark (s.setTime { s.time with markDue := false })
  | .boundary => takeBoundary (s.setTime { s.time with boundaryDue := false })
  | .syncLoss => loseSync s
  | .validation i => validateInput i s
  | .pulseEnd => s.setAlerts { s.alerts with pulseEnd := none }
  | .spillExpiry j d => expireSpill j.val d s
  | .platoonLost k => losePlatoon k s
  | .priorityExpiry k => expirePriority k s
  | .preemptDeadline j => preemptTimeout j.val s
  | .greenEnd j => Sys2Proof.Machine.greenEnd j.val s
  | .booking j => book j.val s

/-- An event taken where it is due; where it is not, nothing happens. DESIGN CHOICE: the spec gives an
event no meaning at any other count (log 4). -/
def takeEvent (e : Event) (s : State) : State := if e.due s then settle s (e.effect s) else s

/-- Every event of the part, in the order in which CT_COUNT takes those the sender left out: DESIGN
CHOICE, unsafe, since the spec takes events of one count in either order (log 5). A junction's booking
comes last, after every event that can owe one at once. -/
def allEvents : List Event :=
  [.edge, .minuteMark, .boundary, .syncLoss] ++ (List.finRange _).map Event.validation ++ [.pulseEnd] ++
    (List.finRange _).flatMap (fun j => [Event.spillExpiry j .inbound, Event.spillExpiry j .outbound]) ++
    (List.finRange _).map Event.platoonLost ++ (List.finRange _).map Event.priorityExpiry ++
    (List.finRange _).map Event.preemptDeadline ++ (List.finRange _).map Event.greenEnd ++
    (List.finRange _).map Event.booking

/-- Every event still due at this count is taken: CT does not pass a stored time whose event has not
been taken (R1). -/
def takeDue (s : State) : State := allEvents.foldl (fun t e => takeEvent e t) s

/-- The four inputs sampled at a count (R145). -/
def sampleInputs (now : Ct) (l : Vector Level Config.inputCount) (v : Vector Input Config.inputCount) :
    Vector Input Config.inputCount :=
  #v[v[0].sample l[0] now, v[1].sample l[1] now, v[2].sample l[2] now, v[3].sample l[3] now]

/-- One count of CT: the day clock and a present P_ref advance with it, then SYNC and the inputs are
sampled at the new count (R1, R3, R7, R13, R145). -/
def countOnce (sync : Level) (l : Vector Level Config.inputCount) (s : State) : State :=
  let t := countPRef s
  let u := t.setTime ((t.time.count).sampleSync sync)
  u.setInputs (sampleInputs u.now l u.inputs)

/-- The part after an edge of RESET, but for the commands that wait. A fall abandons whatever was in progress and
holds the part in reset; the rise ends the reset, with every block at its reset value and the held SYNC level the
level present (R7, R174). That the blocks take their reset values at the fall already shows nowhere: log 15. -/
def resetBy (e : ResetEdge) : State :=
  match e with
  | .fall => State.reset.setInReset true
  | .rise sync => State.reset.setTime { State.reset.time with syncHeld := sync }

/-- RESET: an edge of the pin, or power-on (R174). The commands that wait stay waiting (log 15). -/
def execReset (edge : ResetEdge) (s : State) : Host.Outcome State Fault Refusal :=
  .next ((resetBy edge).setPending s.pending)

/-- CT_COUNT: the events still due at this count, then one count (R1). -/
def execCtCount (sync in0 in1 in2 in3 : Level) (s : State) : Host.Outcome State Fault Refusal :=
  run (fun t => countOnce sync #v[in0, in1, in2, in3] (takeDue t)) s

/-- MINUTE_MARK (R54). -/
def execMinuteMark (s : State) : Host.Outcome State Fault Refusal := run (takeEvent .minuteMark) s

/-- REFERENCE_BOUNDARY (R39). -/
def execReferenceBoundary (s : State) : Host.Outcome State Fault Refusal := run (takeEvent .boundary) s

/-- A rising edge of SYNC, which needs a held low level before it or an edge sampled at this count
(R7). Without either the pin has not risen, and nothing happens. -/
def syncPulse (s : State) : State :=
  if s.time.edgeDue || s.time.syncHeld = .low then settle s (takeEdge s) else s

/-- SYNC_PULSE (R7). -/
def execSyncPulse (s : State) : Host.Outcome State Fault Refusal := run syncPulse s

/-- SYNC_LOSS_TIME (R11). -/
def execSyncLossTime (s : State) : Host.Outcome State Fault Refusal := run (takeEvent .syncLoss) s

/-- INPUT_VALIDATION (R145). -/
def execInputValidation (i : Fin Config.inputCount) (s : State) : Host.Outcome State Fault Refusal :=
  run (takeEvent (.validation i)) s

/-- BOOKING (R70). -/
def execBooking (j : Fin Config.maxJunctions) (s : State) : Host.Outcome State Fault Refusal :=
  run (takeEvent (.booking j)) s

/-- GREEN_END_CHECK (R83). -/
def execGreenEndCheck (j : Fin Config.maxJunctions) (s : State) : Host.Outcome State Fault Refusal :=
  run (takeEvent (.greenEnd j)) s

/-- SPILLBACK_EXPIRY (R92). -/
def execSpillbackExpiry (j : Fin Config.maxJunctions) (d : Direction) (s : State) :
    Host.Outcome State Fault Refusal :=
  run (takeEvent (.spillExpiry j d)) s

/-- PLATOON_LOST (R120). -/
def execPlatoonLost (k : Fin Config.platoonSlots) (s : State) : Host.Outcome State Fault Refusal :=
  run (takeEvent (.platoonLost k)) s

/-- PRIORITY_EXPIRY (R135). -/
def execPriorityExpiry (k : Fin Config.prioritySlots) (s : State) : Host.Outcome State Fault Refusal :=
  run (takeEvent (.priorityExpiry k)) s

/-- PREEMPT_DEADLINE (R142). -/
def execPreemptDeadline (j : Fin Config.maxJunctions) (s : State) : Host.Outcome State Fault Refusal :=
  run (takeEvent (.preemptDeadline j)) s

/-- PULSE_END (R169). -/
def execPulseEnd (s : State) : Host.Outcome State Fault Refusal := run (takeEvent .pulseEnd) s

/-- STATUS_BLINK: the next 125 ms of the free-running blink phases (R152). The fast pattern toggles at
every one, the slow pattern at every fourth. -/
def execStatusBlink (s : State) : Host.Outcome State Fault Refusal := run (fun t => t.setBlink (t.blink + 1)) s

end Sys2Proof.Machine
end

