-- ==== Sys2Proof/Machine/Transactions.lean ====
section
/-! DEFINITION. The transactions of the request port (R153 to R159): which request a code names (table of
request codes, 12.2), a SEND given as raw bytes, and the rows of the table that are transactions. -/

namespace Sys2Proof.Machine

/-- The request a code names, with its parameter bytes (table of request codes, 12.2). -/
def requestOf (code : Byte) (ps : List Byte) : Option Request :=
  match code.toNat with
  | 0x01 => some (reqSetClock ps)
  | 0x02 => some (reqReadClock ps)
  | 0x03 => some (reqCorridorStatus ps)
  | 0x10 => some (reqSetCorridor ps)
  | 0x11 => some (reqReadCorridor ps)
  | 0x12 => some (reqSetJunction ps)
  | 0x13 => some (reqReadJunction ps)
  | 0x14 => some (reqSetGroup ps)
  | 0x15 => some (reqReadGroup ps)
  | 0x18 => some (reqSetPlan ps)
  | 0x19 => some (reqReadPlan ps)
  | 0x1A => some (reqSetScheduleEntry ps)
  | 0x1B => some (reqReadScheduleEntry ps)
  | 0x20 => some (reqActivatePlan ps)
  | 0x21 => some (reqResumeSchedule ps)
  | 0x22 => some (reqResyncJunction ps)
  | 0x28 => some (reqWindowQuery ps)
  | 0x29 => some (reqSpillback ps)
  | 0x2A => some (reqPreemptBegin ps)
  | 0x2B => some (reqPreemptEnd ps)
  | 0x30 => some (reqPlatoonSeen ps)
  | 0x31 => some (reqPassage ps)
  | 0x32 => some (reqReadPlatoon ps)
  | 0x33 => some (reqCancelPlatoon ps)
  | 0x34 => some (reqListPlatoons ps)
  | 0x38 => some (reqCheckIn ps)
  | 0x39 => some (reqCheckOut ps)
  | 0x3A => some (reqReadPriority ps)
  | 0x3B => some (reqListPriority ps)
  | 0x3C => some (reqClearRecords ps)
  | 0x40 => some (reqSetInput ps)
  | 0x41 => some (reqReadInputs ps)
  | 0x48 => some (reqReadAlerts ps)
  | 0x49 => some (reqSetAlertConfig ps)
  | 0x4A => some (reqAcknowledgeAlerts ps)
  | 0x50 => some (reqContinueList ps)
  | 0x51 => some (reqLockEdits ps)
  | _ => none

/-- A request frame as the bytes clocked in after the SEND type byte: its code and its parameters, where
the frame is whole (R154). -/
def wholeFrame (frame : List Byte) : Option (Byte × List Byte) :=
  match frame with
  | code :: len :: rest => if len.toNat ≤ rest.length then some (code, rest.take len.toNat) else none
  | [] | [_] => none

/-- A SEND given as raw bytes: discarded by a port that is not IDLE and when the frame is not whole, else
accepted (R154, R155). -/
def sendFrame (frame : List Byte) (s : State) : State :=
  match s.port.state, wholeFrame frame with
  | .idle, some (code, ps) => acceptSend code frame.length (requestOf code ps) s
  | .idle, none | .executing _ _, _ | .result _, _ => discardSend frame.length s

/-- SEND_DISCARDED (R154, R155). -/
def execSendDiscarded (frame : List Byte) (s : State) : Host.Outcome State Fault Refusal :=
  run (sendFrame frame) s

/-- EXECUTION_COMPLETE (R156). -/
def execExecutionComplete (s : State) : Host.Outcome State Fault Refusal := run completeExecution s

/-- STATUS_TRANSACTION (R158). -/
def execStatusTransaction (n : Nat) (s : State) : Host.Outcome State Fault Refusal := run (statusTransaction n) s

/-- RESULT_TRANSACTION (R157). -/
def execResultTransaction (n : Nat) (s : State) : Host.Outcome State Fault Refusal := run (resultTransaction n) s

/-- PORT_RESET (R159). -/
def execPortReset (n : Nat) (s : State) : Host.Outcome State Fault Refusal := run (portReset n) s

/-- VOID_TRANSACTION (R153). -/
def execVoidTransaction (bytes : List Byte) (s : State) : Host.Outcome State Fault Refusal :=
  run (voidTransaction bytes) s

/-- UNKNOWN_REQUEST: a SEND whose code is looked up and, naming no request, is refused (R156). -/
def execUnknownRequest (code : Byte) (ps : List Byte) (s : State) (extra : Nat := 0) :
    Host.Outcome State Fault Refusal :=
  run (send code ps extra (requestOf code ps)) s

end Sys2Proof.Machine
end

