-- ==== Sys2Proof/Machine/Dispatch.lean ====
section
/-! DEFINITION. Every command to its meaning: one arm for each row of spec/opcode_table.json. -/

namespace Sys2Proof.Machine

def exec (i : Instr) (s : State) : Host.Outcome State Fault Refusal :=
  match i with
  | .reset edge => Sys2Proof.Machine.execReset edge s
  | .ctCount sync in0 in1 in2 in3 => Sys2Proof.Machine.execCtCount sync in0 in1 in2 in3 s
  | .minuteMark => Sys2Proof.Machine.execMinuteMark s
  | .referenceBoundary => Sys2Proof.Machine.execReferenceBoundary s
  | .syncPulse => Sys2Proof.Machine.execSyncPulse s
  | .syncLossTime => Sys2Proof.Machine.execSyncLossTime s
  | .inputValidation k => Sys2Proof.Machine.execInputValidation k s
  | .booking j => Sys2Proof.Machine.execBooking j s
  | .greenEndCheck j => Sys2Proof.Machine.execGreenEndCheck j s
  | .spillbackExpiry j d => Sys2Proof.Machine.execSpillbackExpiry j d s
  | .platoonLost k => Sys2Proof.Machine.execPlatoonLost k s
  | .priorityExpiry k => Sys2Proof.Machine.execPriorityExpiry k s
  | .preemptDeadline j => Sys2Proof.Machine.execPreemptDeadline j s
  | .pulseEnd => Sys2Proof.Machine.execPulseEnd s
  | .statusBlink => Sys2Proof.Machine.execStatusBlink s
  | .sendDiscarded frame => Sys2Proof.Machine.execSendDiscarded frame s
  | .executionComplete => Sys2Proof.Machine.execExecutionComplete s
  | .statusTransaction n => Sys2Proof.Machine.execStatusTransaction n s
  | .resultTransaction n => Sys2Proof.Machine.execResultTransaction n s
  | .portReset n => Sys2Proof.Machine.execPortReset n s
  | .voidTransaction bytes => Sys2Proof.Machine.execVoidTransaction bytes s
  | .unknownRequest code ps k => Sys2Proof.Machine.execUnknownRequest code ps s k
  | .setClock ps k => Sys2Proof.Machine.execSetClock ps s k
  | .readClock ps k => Sys2Proof.Machine.execReadClock ps s k
  | .corridorStatus ps k => Sys2Proof.Machine.execCorridorStatus ps s k
  | .setCorridor ps k => Sys2Proof.Machine.execSetCorridor ps s k
  | .readCorridor ps k => Sys2Proof.Machine.execReadCorridor ps s k
  | .setJunction ps k => Sys2Proof.Machine.execSetJunction ps s k
  | .readJunction ps k => Sys2Proof.Machine.execReadJunction ps s k
  | .setGroup ps k => Sys2Proof.Machine.execSetGroup ps s k
  | .readGroup ps k => Sys2Proof.Machine.execReadGroup ps s k
  | .setPlan ps k => Sys2Proof.Machine.execSetPlan ps s k
  | .readPlan ps k => Sys2Proof.Machine.execReadPlan ps s k
  | .setScheduleEntry ps k => Sys2Proof.Machine.execSetScheduleEntry ps s k
  | .readScheduleEntry ps k => Sys2Proof.Machine.execReadScheduleEntry ps s k
  | .activatePlan ps k => Sys2Proof.Machine.execActivatePlan ps s k
  | .resumeSchedule ps k => Sys2Proof.Machine.execResumeSchedule ps s k
  | .resyncJunction ps k => Sys2Proof.Machine.execResyncJunction ps s k
  | .windowQuery ps k => Sys2Proof.Machine.execWindowQuery ps s k
  | .spillback ps k => Sys2Proof.Machine.execSpillback ps s k
  | .preemptBegin ps k => Sys2Proof.Machine.execPreemptBegin ps s k
  | .preemptEnd ps k => Sys2Proof.Machine.execPreemptEnd ps s k
  | .platoonSeen ps k => Sys2Proof.Machine.execPlatoonSeen ps s k
  | .passage ps k => Sys2Proof.Machine.execPassage ps s k
  | .readPlatoon ps k => Sys2Proof.Machine.execReadPlatoon ps s k
  | .cancelPlatoon ps k => Sys2Proof.Machine.execCancelPlatoon ps s k
  | .listPlatoons ps k => Sys2Proof.Machine.execListPlatoons ps s k
  | .checkIn ps k => Sys2Proof.Machine.execCheckIn ps s k
  | .checkOut ps k => Sys2Proof.Machine.execCheckOut ps s k
  | .readPriority ps k => Sys2Proof.Machine.execReadPriority ps s k
  | .listPriority ps k => Sys2Proof.Machine.execListPriority ps s k
  | .continueList ps k => Sys2Proof.Machine.execContinueList ps s k
  | .clearRecords ps k => Sys2Proof.Machine.execClearRecords ps s k
  | .setInput ps k => Sys2Proof.Machine.execSetInput ps s k
  | .readInputs ps k => Sys2Proof.Machine.execReadInputs ps s k
  | .readAlerts ps k => Sys2Proof.Machine.execReadAlerts ps s k
  | .setAlertConfig ps k => Sys2Proof.Machine.execSetAlertConfig ps s k
  | .acknowledgeAlerts ps k => Sys2Proof.Machine.execAcknowledgeAlerts ps s k
  | .lockEdits ps k => Sys2Proof.Machine.execLockEdits ps s k

end Sys2Proof.Machine
end

