-- ==== Sys2Proof/Safety.lean ====
section
/-! DEFINITION. What a safe run means, in the terms the statements use: the blocks of the state and what a
command leaves unchanged, the answer of an executed request, the lengths of the request frames, and the
invariants that the spec's prose gives the whole part. -/

namespace Sys2Proof.Safety

open Sys2Proof.Machine

/-! ## Frames -/

/-- The parts of the state that a frame speaks of: the fields of State, with the request port and the
alert unit taken apart. -/
inductive Block where
  /-- Whether the part is held in reset. -/
  | hold
  | time
  | settings
  | groups
  | junctions
  | plans
  | selector
  | platoons
  | priorities
  | inputs
  | blink
  /-- The port state with its result frame, REJECTED and the data-out bytes. -/
  | port
  | sequence
  | editLock
  | latched
  /-- The enable set, the global enable, the pin mode and both masks. -/
  | alertConfig
  | pulseEnd
  | queue
  deriving DecidableEq, Repr

/-- A block reads the same in two states. -/
def Block.same (b : Block) (s t : State) : Prop :=
  match b with
  | .hold => t.inReset = s.inReset
  | .time => t.time = s.time
  | .settings => t.settings = s.settings
  | .groups => t.groups = s.groups
  | .junctions => t.junctions = s.junctions
  | .plans => t.plans = s.plans
  | .selector => t.selector = s.selector
  | .platoons => t.platoons = s.platoons
  | .priorities => t.priorities = s.priorities
  | .inputs => t.inputs = s.inputs
  | .blink => t.blink = s.blink
  | .port => t.port.state = s.port.state ∧ t.port.rejected = s.port.rejected ∧ t.port.sdo = s.port.sdo
  | .sequence => t.port.sequence = s.port.sequence
  | .editLock => t.port.editLock = s.port.editLock
  | .latched => t.alerts.latched = s.alerts.latched
  | .alertConfig =>
    t.alerts.enable = s.alerts.enable ∧ t.alerts.global = s.alerts.global ∧ t.alerts.mode = s.alerts.mode ∧
      t.alerts.wMask = s.alerts.wMask ∧ t.alerts.fMask = s.alerts.fMask
  | .pulseEnd => t.alerts.pulseEnd = s.alerts.pulseEnd
  | .queue => t.pending = s.pending

/-- Every block that is not listed is unchanged from `s` to `t`. -/
def Frame (changed : List Block) (s t : State) : Prop := ∀ b : Block, b ∉ changed → b.same s t

/-! ## The answer of an executed request -/

/-- The part runs: it is not held in reset (R174). -/
abbrev Running (s : State) : Prop := s.inReset = false

/-- The part runs and its request port is IDLE. -/
abbrev Idle (s : State) : Prop := Running s ∧ s.port.state = .idle

/-- The port lets an edit request through: the edit lock is clear and the edit gate is open (R165). -/
def EditsOpen (s : State) : Prop := s.port.editLock = false ∧ s.editGate = true

/-- The port of `t` executes a request with the given code, whose result will be the frame given: W and F as
they stand in `t`, REJECTED clear (R154, R156, R160, R161). -/
def AnswersList (t : State) (code : Byte) (cls : ResultClass) (reason : Reason) (payload : List Byte)
    (more last : Bool) : Prop :=
  t.port.state = .executing ⟨code, cls, reason, t.wFlag, t.fFlag, more, last, payload⟩ false ∧
    t.port.rejected = false

/-- The same for a result without list flags (R160). -/
def Answers (t : State) (code : Byte) (cls : ResultClass) (reason : Reason) (payload : List Byte) : Prop :=
  AnswersList t code cls reason payload false false

/-- The command is carried out with reason NONE and a payload of which `ok` says what it is, and nothing but the port
changes: what a look-up or a read does (R160, R172). -/
def Reads (c : Instr) (s : State) (code : Byte) (ok : List Byte → Prop) : Prop :=
  ∃ t payload, exec c s = .next t ∧ Answers t code .done .none payload ∧ Frame [.port] s t ∧ ok payload

/-- The command is refused with a reason and a payload, and nothing but the port changes (R160). -/
def Refuses (c : Instr) (s : State) (code : Byte) (reason : Reason) (payload : List Byte) : Prop :=
  ∃ t, exec c s = .next t ∧ Answers t code .refused reason payload ∧ Frame [.port] s t

/-- The same state with the port IDLE again, as it stands once the result has been read. -/
def released (s : State) : State := s.setPort { s.port with state := .idle }

/-- The bytes of a payload from an offset, so many of them. -/
def slice (payload : List Byte) (offset count : Nat) : List Byte := (payload.drop offset).take count

/-! ## Fields and records as bytes (12.1, 12.2) -/

/-- The sixteen parameter bytes of SET CORRIDOR (12.2). -/
def corridorBytes (n : Nat) (v : Settings) : List Byte :=
  [BitVec.ofNat 8 n] ++ wordOf v.entryIn ++ wordOf v.entryOut ++ wordOf v.gm ++ wordOf v.dl ++ wordOf v.lm ++
    wordOf v.pmax ++ [BitVec.ofNat 8 v.syncEnable.toNat] ++ wordOf v.ts

/-- The first two bytes of the context state in a WINDOW QUERY: the state, then the cause or the return state
(12.1). -/
def stateBytes (c : Coordination) : List Byte :=
  match c with
  | .free .plan0 => [1, 0]
  | .free .excluded => [1, 1]
  | .free .corridorFree => [1, 2]
  | .free .fault => [1, 3]
  | .seek _ => [2, 0]
  | .inStep _ => [3, 0]
  | .preempt _ _ .plan0 => [4, 0]
  | .preempt _ _ .excluded => [4, 1]
  | .preempt _ _ .corridorFree => [4, 2]
  | .preempt _ _ .seek => [4, 4]

/-- The byte of a return state (12.1). -/
def returnByte (r : ReturnState) : Byte :=
  match r with
  | .plan0 => 0
  | .excluded => 1
  | .corridorFree => 2
  | .seek => 4

/-- The byte of a direction (12.1). -/
def dirByte (d : Direction) : Byte :=
  match d with
  | .inbound => 0
  | .outbound => 1

/-- The byte of a class (12.1). -/
def classByte (c : PriorityClass) : Byte :=
  match c with
  | .regular => 0
  | .late => 1

/-- The 26 bytes of a platoon record in slot `k` (12.2). -/
def platoonRecord (k : Fin 32) (gen : Fin 16) (r : Platoon) : List Byte :=
  [BitVec.ofNat 8 k.val, BitVec.ofNat 8 gen.val, BitVec.ofNat 8 (r.origin.isSome.toNat + 2 * r.lastPassage.isSome.toNat),
    dirByte r.dir, BitVec.ofNat 8 (r.origin.getD 0), BitVec.ofNat 8 r.cur] ++
    ctOf r.head ++ wordOf r.spread ++ ctOf (r.head + BitVec.ofNat 32 r.spread) ++
    [BitVec.ofNat 8 r.count, BitVec.ofNat 8 r.links] ++ ctOf (r.lastPassage.getD 0) ++ ctOf r.lost

/-- The 22 bytes of a priority record in slot `k` (12.2). -/
def priorityRecord (k : Fin 16) (gen : Fin 16) (r : Priority) : List Byte :=
  [BitVec.ofNat 8 k.val, BitVec.ofNat 8 gen.val, BitVec.ofNat 8 r.grant.isSome.toNat] ++ wordOf r.tag ++
    [BitVec.ofNat 8 r.junction, dirByte r.dir, classByte r.cls] ++ ctOf r.eta ++ ctOf r.expiry ++
    (match r.grant with
    | none => List.replicate 6 0
    | some (.extension, x) => [1, 0] ++ ctOf x
    | some (.early, x) => [1, 1] ++ ctOf x)

/-- Whether a level is active under a polarity (R145). -/
def activeUnder (q : Polarity) (l : Level) : Bool :=
  match q with
  | .activeLow => l == .low
  | .activeHigh => l == .high

/-- The byte of an attribute set (12.1). -/
def attributeByte (a : Attributes) : Byte :=
  BitVec.ofNat 8 (a.exclude.toNat + 2 * a.queueGuard.toNat + 4 * a.noPriority.toNat + 8 * a.noExtend.toNat)

/-- The fields of a plan record, in the order of SET PLAN (12.2). -/
def planBytes (p : Plan) : List Byte :=
  wordOf p.c ++ wordOf p.b ++ [BitVec.ofNat 8 p.w] ++ wordOf p.o0 ++ [BitVec.ofNat 8 p.vIn, BitVec.ofNat 8 p.vOut] ++
    wordOf p.s ++ [BitVec.ofNat 8 p.hIn, BitVec.ofNat 8 p.hOut, BitVec.ofNat 8 p.k] ++ wordOf p.xMax ++ wordOf p.eMax ++
    [BitVec.ofNat 8 p.m, BitVec.ofNat 8 p.r] ++ p.g.toList.flatMap wordOf

/-- The two bytes of an input function and its plan (12.1, R146). -/
def functionBytes (f : InputFunction) : List Byte :=
  match f with
  | .none => [0, 0]
  | .editEnable => [1, 0]
  | .corridorFree => [2, 0]
  | .planForce p => [3, BitVec.ofNat 8 p]

/-! ## Request frames (R156, R173) -/

/-- The lengths defined for a request code (table of request codes, 12.2); none for a code of no row. -/
def definedLengths (code : Byte) : List Nat :=
  match code.toNat with
  | 0x01 => [4]
  | 0x02 | 0x03 | 0x11 | 0x21 | 0x3C | 0x41 | 0x48 | 0x50 | 0x51 => [0]
  | 0x10 => [16]
  | 0x12 => [5]
  | 0x13 | 0x15 | 0x19 | 0x1B | 0x20 | 0x22 | 0x28 | 0x2A | 0x2B | 0x3B => [1]
  | 0x14 => [4]
  | 0x18 => [69]
  | 0x1A | 0x40 => [6]
  | 0x29 => [3]
  | 0x30 => [9, 8]
  | 0x31 => [6, 8]
  | 0x32 | 0x33 | 0x34 | 0x3A | 0x4A => [2]
  | 0x38 => [9]
  | 0x39 => [2, 3]
  | 0x49 => [8]
  | _ => []

/-- The codes of the six edit requests (R165). -/
def editCodes : List Byte := [0x10, 0x12, 0x14, 0x18, 0x1A, 0x40]

/-- The command can only change the state as a SEND of its own request: it is neither a SEND given as raw
bytes nor one given under an unknown code. -/
def Plain : Instr → Prop
  | .sendDiscarded _ | .unknownRequest _ _ _ => False
  | _ => True

/-! ## Time base -/

/-- Every field of the day clock lies in its range (table of 1.2). -/
def ClockInRange (k : DayClock) : Prop :=
  1 ≤ k.day ∧ k.day ≤ 7 ∧ k.hour ≤ 23 ∧ k.minute ≤ 59 ∧ k.second ≤ 59 ∧ k.tenth ≤ 9

/-- The clock is in range, and SYNC_LOST is true only while sync enable is yes (R3, R11). -/
structure TimeOk (s : State) : Prop where
  clock : ClockInRange s.time.clock
  sync : s.time.syncLost = true → s.settings.syncEnable = true

/-! ## Corridor table -/

/-- The settings other than N lie in their ranges (table of 2.1). -/
def SettingsInRange (v : Settings) : Prop :=
  v.entryIn ≤ 3000 ∧ v.entryOut ≤ 3000 ∧ 10 ≤ v.gm ∧ v.gm ≤ 300 ∧ 100 ≤ v.dl ∧ v.dl ≤ 900 ∧ 50 ≤ v.lm ∧
    v.lm ≤ 1200 ∧ 300 ≤ v.pmax ∧ v.pmax ≤ 6000 ∧ 1 ≤ v.ts ∧ v.ts ≤ 300

/-- A group range entry lies in its ranges, and an unused one reads as after reset (R26). -/
def GroupInRange (g : GroupRange) : Prop :=
  g.first ≤ 23 ∧ g.first + g.count ≤ 24 ∧ (g.count = 0 → g = ⟨0, 0, Attributes.empty⟩)

/-- The link length suits junction `j` of `n`: 20 to 3000 m below the last, absent at the last (table of 2.2). -/
def linkSuits (j n : Nat) (link : Option Nat) : Bool :=
  match link with
  | none => j + 1 == n
  | some l => j + 1 != n && 20 ≤ l && l ≤ 3000

/-- The corridor table holds only values that its tables allow (R17, R19, R20, R22, R26). -/
structure CorridorOk (s : State) : Prop where
  count : s.n = 0 ∨ (2 ≤ s.n ∧ s.n ≤ 24)
  settings : SettingsInRange s.settings
  groups : ∀ k : Fin Config.groupCount, GroupInRange s.groups[k]
  smin : ∀ jn ∈ s.junctions, 50 ≤ jn.smin ∧ jn.smin ≤ 1200
  links : ∀ j : Nat, ∀ h : j < s.junctions.length, linkSuits j s.n s.junctions[j].link = true

/-! ## Plan store and selector -/

/-- A schedule entry lies in its ranges (table of 4.1). -/
def EntryInRange (e : ScheduleEntry) : Prop := e.hour ≤ 23 ∧ e.minute ≤ 59 ∧ e.plan ≤ 8

/-- Every plan number the selector and the inputs hold is 0 to 8, and every stored record is in range
(R32, R50, R52, R146). -/
structure StoreOk (s : State) : Prop where
  plans : ∀ k : Fin Config.planCount, ∀ p, s.plans[k] = some p → p.inRange = true
  schedule : ∀ k : Fin Config.scheduleCount, EntryInRange s.selector.schedule[k]
  scheduled : s.selector.scheduled ≤ 8
  hold : s.selector.holdPlan ≤ 8
  requested : s.selector.requested ≤ 8
  lastEntry : ∀ i, s.selector.lastEntry = some i → i < 24
  forced : ∀ k : Fin Config.inputCount, inputPlan s.inputs[k].func ≤ 8

/-- The record of a plan is full and passes the checks of R36 against the corridor as it stands. -/
def ValidPlan (number : Nat) (s : State) : Prop :=
  ∃ p, s.planRecord number = some p ∧ failedCheck p s.junctions = none

/-- What the part holds for the active plan agrees with its record: P_ref and the offsets lie in 0 to
C − 1, with one offset for each junction and one travel time for each link (R12, R24, R42). -/
def ActiveAgrees (a : ActivePlan) (p : Plan) (n : Nat) : Prop :=
  a.pRef < p.c ∧ a.offsets.length = n ∧ (∀ o ∈ a.offsets, o < p.c) ∧ a.tIn.length + 1 = n ∧ a.tOut.length + 1 = n

/-- A coordinated plan is active only with a valid clock and a record that passes every check, and a plan
is pending only beside it: never the active one, and plan 0 or a plan that passes every check (R15, R36,
R38). -/
structure PlansOk (s : State) : Prop where
  active : ∀ a, s.selector.active = some a →
    s.time.clock.valid = true ∧
      ∃ p, s.planRecord a.number = some p ∧ failedCheck p s.junctions = none ∧ ActiveAgrees a p s.n
  pending : ∀ q, s.selector.pendingPlan = some q →
    s.selector.active.isSome = true ∧ q ≠ s.activeNumber ∧ (q = 0 ∨ ValidPlan q s)

/-! ## Junction contexts -/

/-- A return state suits its junction: whether a coordinated plan is active, whether CORRIDOR_FREE is
validated active, and whether the junction carries EXCLUDE (R45, R139, R143). -/
def returnSuits (coordinated corridorFree excluded : Bool) (r : ReturnState) : Bool :=
  match r with
  | .plan0 => !coordinated && !excluded
  | .excluded => excluded
  | .corridorFree => coordinated && corridorFree && !excluded
  | .seek => coordinated && !corridorFree && !excluded

/-- A state suits its junction in the same sense (R28, R29, R44, R47, R63, R148, R149). -/
def stateSuits (coordinated corridorFree excluded : Bool) (c : Coordination) : Bool :=
  match c with
  | .free .plan0 => !coordinated && !excluded
  | .free .excluded => excluded
  | .free .corridorFree => coordinated && corridorFree && !excluded
  | .free .fault => coordinated && !excluded
  | .seek _ | .inStep _ => coordinated && !corridorFree && !excluded
  | .preempt _ _ r => returnSuits coordinated corridorFree excluded r

/-- Every configured junction stands in a state that suits it. -/
def JunctionsSuit (s : State) : Prop :=
  ∀ j : Nat, ∀ h : j < s.junctions.length,
    stateSuits s.selector.active.isSome s.corridorFree (s.attributes j).exclude s.junctions[j].state = true

/-- No record is live while plan 0 is active (R48). -/
def QuietUnderPlan0 (s : State) : Prop :=
  s.selector.active = none → s.livePlatoons = [] ∧ s.livePriorities = []

/-- A cycle has taken no more extension and no more early shortening than the limits it holds (R86, R96),
and its limits are those of a plan record (table of 3.1). -/
def CycleInBounds (c : Cycle) : Prop :=
  c.x ≤ c.held.xMax ∧ c.held.xMax ≤ 300 ∧ c.y ≤ c.held.eMax ∧ c.held.eMax ≤ 300 ∧ c.held.r ≤ 7 ∧ c.held.m ≤ 50

/-- The cycles and lockouts of the junctions are in bounds, and so are the plans they are booked from. -/
structure CyclesOk (s : State) : Prop where
  plans : ∀ k : Fin Config.planCount, ∀ p, s.plans[k] = some p → p.inRange = true
  cycles : ∀ jn ∈ s.junctions, ∀ c, jn.cycle? = some c → CycleInBounds c
  lockouts : ∀ jn ∈ s.junctions, jn.lockout ≤ 7

/-! ## Records -/

/-- A platoon record lies in the ranges of R105, for `n` junctions and a dissolve limit; the links travelled
never pass the junctions behind it. -/
def PlatoonInRange (n dl : Nat) (p : Platoon) : Prop :=
  p.cur < n ∧ (∀ o, p.origin = some o → o < n) ∧ p.spread ≤ dl ∧ 1 ≤ p.count ∧ p.count ≤ 99 ∧
    p.links ≤ (match p.dir with
      | .inbound => p.cur
      | .outbound => n - 1 - p.cur)

/-- Every live platoon record is in range; N, Dl and Gm can change only while no record is live. -/
structure PlatoonsOk (s : State) : Prop where
  quiet : s.selector.active = none → s.livePlatoons = []
  size : s.selector.active.isSome = true → 2 ≤ s.n
  records : ∀ e ∈ s.livePlatoons, PlatoonInRange s.n s.settings.dl e.2

/-- No two live platoon records of one direction and one current junction have heads less than Gm apart
(R111). -/
structure PlatoonsApart (s : State) : Prop where
  quiet : s.selector.active = none → s.livePlatoons = []
  gap : s.settings.gm ≤ 300
  apart : ∀ e ∈ s.livePlatoons, ∀ f ∈ s.livePlatoons, e.1 ≠ f.1 → e.2.dir = f.2.dir → e.2.cur = f.2.cur →
    s.settings.gm ≤ apart e.2.head f.2.head

/-- A live priority record lies in the ranges of R126. -/
def PriorityInRange (n : Nat) (r : Priority) : Prop := 1 ≤ r.tag ∧ r.tag ≤ 65535 ∧ r.junction < n

/-- Every live priority record is in range, and no two hold one tag at one junction (R126, R130). -/
structure PrioritiesOk (s : State) : Prop where
  quiet : s.selector.active = none → s.livePriorities = []
  records : ∀ e ∈ s.livePriorities, PriorityInRange s.n e.2
  unique : ∀ e ∈ s.livePriorities, ∀ f ∈ s.livePriorities, e.2.tag = f.2.tag → e.2.junction = f.2.junction → e.1 = f.1

/-- An empty slot's note names the generation the slot keeps (R102, R104, R125). -/
def notesKept {α : Type} {n : Nat} (v : Vector (Slot α) n) : Prop :=
  ∀ k : Fin n, ∀ note, v[k].note = some note → v[k].live = none ∧ note.gen = v[k].gen

/-- The notes of both collections are kept so. -/
def NotesOk (s : State) : Prop := notesKept s.platoons ∧ notesKept s.priorities

/-! ## Port and alert unit -/

/-- The latched set holds latched sources only, and a pulse runs only in PULSE mode with the global enable
on (R168, R169). -/
structure AlertsOk (s : State) : Prop where
  latched : s.alerts.latched &&& ~~~latchedSources = 0
  pulse : s.alerts.pulseEnd.isSome = true → s.alerts.mode = .pulse ∧ s.alerts.global = true

/-- The payload of the frame the port holds or forms is at most 240 bytes (R173). -/
def FrameFits (p : PortState) : Prop :=
  match p with
  | .idle => True
  | .executing f _ | .result f => f.payload.length ≤ 240

/-- Every invariant above, together. -/
structure Safe (s : State) : Prop where
  time : TimeOk s
  corridor : CorridorOk s
  store : StoreOk s
  plans : PlansOk s
  junctions : JunctionsSuit s
  quiet : QuietUnderPlan0 s
  cycles : CyclesOk s
  platoons : PlatoonsOk s
  apart : PlatoonsApart s
  priorities : PrioritiesOk s
  notes : NotesOk s
  alerts : AlertsOk s
  port : FrameFits s.port.state

/-! ## Plans taking effect and the events of the plan selector -/

/-- A junction's state after a coordinated plan takes effect (R43 to R45): `x` is whether it carries EXCLUDE,
`free` whether CORRIDOR_FREE is validated active. -/
def UnderNewPlan (now : Ct) (x free : Bool) (old q : Junction) : Prop :=
  q.link = old.link ∧ q.smin = old.smin ∧ q.spillIn = old.spillIn ∧ q.spillOut = old.spillOut ∧
  (∀ w, old.state = .seek w ∨ old.state = .inStep w →
    q.state = .seek { w with seekCount := 0 } ∧ q.lockout = old.lockout ∧ q.granted = old.granted) ∧
  (old.state = .free .plan0 ∨ old.state = .free .fault → x = false →
    q.state = (if free then .free .corridorFree else .seek ⟨now, 0, none⟩) ∧ q.lockout = 0 ∧ q.granted = false) ∧
  (old.state = .free .excluded ∨ old.state = .free .corridorFree → q = old) ∧
  (∀ start deadline r, old.state = .preempt start deadline r →
    q = { old with state := .preempt start deadline (if x then .excluded else if free then .corridorFree else .seek) })

/-- The live data `a` and the contexts of `t` after the coordinated plan `number` with record `p` takes effect in
`s`: travel times at its speeds, offsets by the computation, P_ref from the day clock, every junction's new state,
and PLAN_CHANGED (R40). -/
structure PlanInEffect (a : ActivePlan) (number : Nat) (p : Plan) (s t : State) : Prop where
  number : a.number = number
  pRef : (a.pRef : Int) = ((s.time.clock.tod : Int) - p.b) % p.c
  links : a.tIn.length + 1 = s.n ∧ a.tOut.length + 1 = s.n
  times : ∀ j q l, j + 1 < s.n → s.junctions[j]? = some q → q.link = some l →
    a.tIn[j]? = some ((36 * l + p.vIn / 2) / p.vIn) ∧ a.tOut[j]? = some ((36 * l + p.vOut / 2) / p.vOut)
  entryIn : a.entryIn = (if s.settings.entryIn = 0 then none else some ((36 * s.settings.entryIn + p.vIn / 2) / p.vIn))
  entryOut : a.entryOut =
    (if s.settings.entryOut = 0 then none else some ((36 * s.settings.entryOut + p.vOut / 2) / p.vOut))
  offsets : a.offsets = planOffsets p a.tIn a.tOut
  size : t.n = s.n
  contexts : ∀ j old q, s.junctions[j]? = some old → t.junctions[j]? = some q →
    UnderNewPlan s.time.ct (s.attributes j).exclude s.corridorFree old q
  latched : t.alerts.latched = s.alerts.latched ||| AlertSource.planChanged.only

/-- An activation that changes neither a junction nor the alert unit: the active plan stays, and what is pending
afterwards is given. -/
def OnlyPends (pending : Option Nat) (s t : State) : Prop :=
  t.selector.active = s.selector.active ∧ t.selector.pendingPlan = pending ∧ t.junctions = s.junctions ∧
    t.alerts = s.alerts

/-- What a selector event does with the requested plan it re-forms, which is the one `t` holds: nothing more when no
activation is issued, and otherwise the activation's outcome, a refused one setting PLAN_REJECTED (R34 to R38, R53). -/
structure SelectorActs (issued : Prop) (s t : State) : Prop where
  quiet : ¬ issued → OnlyPends s.selector.pendingPlan s t
  same : issued → t.selector.requested = s.activeNumber → OnlyPends none s t
  plan0 : issued → t.selector.requested ≠ s.activeNumber → t.selector.requested = 0 → OnlyPends (some 0) s t
  rejected : issued → t.selector.requested ≠ s.activeNumber → t.selector.requested ≠ 0 →
    s.time.clock.valid = false ∨ ¬ ValidPlan t.selector.requested s →
    t.selector.active = s.selector.active ∧ t.selector.pendingPlan = s.selector.pendingPlan ∧
      t.junctions = s.junctions ∧ t.alerts.latched = s.alerts.latched ||| AlertSource.planRejected.only
  pends : issued → t.selector.requested ≠ s.activeNumber → t.selector.requested ≠ 0 → s.time.clock.valid = true →
    s.selector.active.isSome = true → ValidPlan t.selector.requested s →
    OnlyPends (some t.selector.requested) s t
  takes : ∀ p, issued → t.selector.requested ≠ 0 → s.time.clock.valid = true → s.selector.active = none →
    s.planRecord t.selector.requested = some p → failedCheck p s.junctions = none →
    ∃ a, t.selector.active = some a ∧ t.selector.pendingPlan = none ∧ PlanInEffect a t.selector.requested p s t

/-- How far back in the week an entry's moment on day `d` lies (R55). -/
def distanceBack (k : DayClock) (e : ScheduleEntry) (d : Nat) : Int :=
  ((k.weekPosition : Int) - (((d : Int) - 1) * 864000 + (e.hour * 60 + e.minute) * 600)) % 6048000

/-- The scheduled plan and the last setting entry that a catch-up leaves in `t`: with a valid clock the entry whose
moment lies least far back in the week wins, the lowest index on a tie; with no such entry or an invalid clock the
scheduled plan is 0 (R55). -/
structure CatchesUp (k : DayClock) (schedule : Vector ScheduleEntry Config.scheduleCount) (t : State) : Prop where
  invalid : k.valid = false → t.selector.scheduled = 0 ∧ t.selector.lastEntry = none
  empty : k.valid = true → (∀ i : Fin 24, schedule[i].enabled = true → schedule[i].days = 0) →
    t.selector.scheduled = 0 ∧ t.selector.lastEntry = none
  nearest : k.valid = true → ∀ (i : Fin 24) (d : Fin 7),
    schedule[i].enabled = true → schedule[i].days.getLsbD d.val = true →
    (∀ (m : Fin 24) (e : Fin 7), schedule[m].enabled = true → schedule[m].days.getLsbD e.val = true →
      distanceBack k schedule[i] (d.val + 1) < distanceBack k schedule[m] (e.val + 1) ∨
        (distanceBack k schedule[i] (d.val + 1) = distanceBack k schedule[m] (e.val + 1) ∧ i.val ≤ m.val)) →
    t.selector.scheduled = schedule[i].plan ∧ t.selector.lastEntry = some i.val

/-- The release of the PLAN_FORCE input `k`, from `s` to `t`: a catch-up, after which the hold or the scheduled plan
is requested where no other input forces a plan, with the reconcile step (R52, R53, R61). -/
structure ForceReleased (k : Fin Config.inputCount) (s t : State) : Prop where
  caught : ClockInRange s.time.clock → (∀ i : Fin 24, EntryInRange s.selector.schedule[i]) →
    CatchesUp s.time.clock s.selector.schedule t
  requested : (∀ m : Fin 4, m ≠ k → s.inputs[m].forces = none) →
    t.selector.requested = if s.selector.holdOn then s.selector.holdPlan else t.selector.scheduled
  acts : SelectorActs (t.selector.requested ≠ s.selector.requested ∨ t.selector.requested ≠ s.target) s t

/-! ## What an edit may change -/

/-- What only an edit request can write: the settings, the geometry of every junction, the group ranges, the
plan records, the schedule and the configuration of every input (R165). -/
structure SameConfiguration (s t : State) : Prop where
  settings : t.settings = s.settings
  geometry : t.junctions.map (fun j => (j.link, j.smin)) = s.junctions.map (fun j => (j.link, j.smin))
  groups : t.groups = s.groups
  plans : t.plans = s.plans
  schedule : t.selector.schedule = s.selector.schedule
  inputs : ∀ k : Fin Config.inputCount,
    t.inputs[k].func = s.inputs[k].func ∧ t.inputs[k].polarity = s.inputs[k].polarity ∧
      t.inputs[k].assertTime = s.inputs[k].assertTime ∧ t.inputs[k].releaseTime = s.inputs[k].releaseTime

end Sys2Proof.Safety
end

