-- ==== Sys2Proof/Certificates/Slice0/Obligations.lean ====
section
/-! DEFINITION. The statements about the model, in the order of OBLIGATIONS.json: the whole part, its
invariants, the request port, then chapter by chapter. -/

open Sys2Proof Sys2Proof.Machine Sys2Proof.Safety

/-! ## The whole part -/

/-- Every command answers a next state in every state and leaves the queue to the step. A step runs the command
at the front of the queue on the state with the queue's rest; on an empty queue the part idles: the model's own
choice (log 3). -/
def Obligations.StepRunsFrontCommand : Prop :=
  (∀ (c : Instr) (s : State), ∃ t, exec c s = .next t ∧ t.pending = s.pending) ∧
  (∀ (c : Instr) (rest : List Instr) (s : State), s.pending = c :: rest → step s = exec c (s.setPending rest)) ∧
  ∀ s : State, s.pending = [] → step s = .next s

/-- From the fall of RESET the part is held in reset: every other command leaves it as it is, ALERT is released,
STATUS is low and SDO high-impedance. The rise gives every block the reset value of its chapter and holds the SYNC
level present as reset ends. The waiting commands stay waiting (the model's own choice, log 15); the raw levels of
the inputs are not part of it (log 2). A part that runs drives SDO while chip select is low. -/
def Obligations.ResetGivesResetValues : Prop :=
  (∀ (l : Level) (s : State), ∃ t, exec (.reset (.rise l)) s = .next t ∧ t.inReset = false ∧
    t.time = ⟨0, ⟨1, 0, 0, 0, 0, false⟩, 0, l, false, false, false, false⟩ ∧
    t.settings = ⟨0, 0, 50, 400, 300, 3000, false, 50⟩ ∧ t.n = 0 ∧
    (∀ k : Fin 4, t.groups[k] = ⟨0, 0, ⟨false, false, false, false⟩⟩) ∧
    (∀ k : Fin 8, t.plans[k] = none) ∧
    (∀ k : Fin 24, t.selector.schedule[k] = ⟨false, 0, 0, 0, 0⟩) ∧
    t.selector.scheduled = 0 ∧ t.selector.holdOn = false ∧ t.selector.holdPlan = 0 ∧ t.selector.requested = 0 ∧
    t.selector.lastEntry = none ∧ t.selector.active = none ∧ t.selector.pendingPlan = none ∧
    (∀ k : Fin 32, t.platoons[k] = ⟨0, none, none⟩) ∧ (∀ k : Fin 16, t.priorities[k] = ⟨0, none, none⟩) ∧
    (∀ k : Fin 4, t.inputs[k].func = .none ∧ t.inputs[k].polarity = .activeLow ∧ t.inputs[k].assertTime = 2 ∧
      t.inputs[k].releaseTime = 2 ∧ t.inputs[k].runStart = none ∧ t.inputs[k].validated = false) ∧
    t.port.state = .idle ∧ t.port.rejected = false ∧ t.port.sequence = none ∧ t.port.editLock = false ∧
    t.alerts = ⟨0, 0, false, .level, 0, 0, none⟩ ∧ t.pendingSet = 1 ∧ t.stage = .ready ∧ t.lampPattern = .fast ∧
    t.blink = 0 ∧ t.lampOn = true ∧ t.alertPin = false ∧ t.pending = s.pending) ∧
  (∀ s : State, ∃ t, exec (.reset .fall) s = .next t ∧ t.inReset = true ∧ t.port.state = .idle ∧ t.port.sdo = [] ∧
    t.pending = s.pending) ∧
  (∀ (c : Instr) (s : State), s.inReset = true → (∀ e, c ≠ .reset e) → exec c s = .next s) ∧
  ∀ (cs : Level) (s : State),
    (s.inReset = true → s.alertPin = false ∧ s.lampOn = false ∧ s.sdoDriven cs = false) ∧
    (s.inReset = false → (s.sdoDriven cs = true ↔ cs = .low))

/-- The state after reset, and the state that RESET gives in every state, meet every invariant. -/
def Obligations.ResetStateIsSafe : Prop :=
  Safe State.reset ∧ ∀ (e : ResetEdge) (s t : State), exec (.reset e) s = .next t → Safe t

/-- CT moves only at a count of a part that runs, by one, and at a reset; a valid clock becomes invalid only at a
reset. -/
def Obligations.OnlyCountsMoveCorridorTime : Prop :=
  ∀ (c : Instr) (s t : State), exec c s = .next t → (∀ e, c ≠ .reset e) →
    (Running s → (∃ y a b d e, c = .ctCount y a b d e) → t.time.ct = s.time.ct + 1) ∧
    (¬ Running s ∨ (∀ y a b d e, c ≠ .ctCount y a b d e) → t.time.ct = s.time.ct) ∧
    (s.time.clock.valid = true → t.time.clock.valid = true)

/-- A refused request changes nothing but the port, except that a PLATOON SEEN refused TABLE_FULL sets
PLATOON_REFUSED, which may start a pulse. -/
def Obligations.RefusalChangesNothing : Prop :=
  ∀ (c : Instr) (code : Byte) (s t : State) (f : ResultFrame), c.code? = some code → Idle s →
    exec c s = .next t → t.port.state = .executing f false → f.cls = .refused →
    Frame [.port] s t ∨
      (code = 0x30 ∧ f.reason = .tableFull ∧ Frame [.port, .latched, .pulseEnd] s t ∧
        t.alerts.latched = s.alerts.latched ||| AlertSource.platoonRefused.only)

/-- While the edit lock is set, no command but RESET clears it or changes anything that an edit request
writes. -/
def Obligations.EditLockFreezesConfiguration : Prop :=
  ∀ (c : Instr) (s t : State), (∀ e, c ≠ .reset e) → s.port.editLock = true → exec c s = .next t →
    t.port.editLock = true ∧ SameConfiguration s t

/-- Every event and request other than SET ALERT CONFIG moves the pulse end to now + 1 exactly when, in PULSE
mode, it brings a source into the active set, and otherwise leaves it; PULSE_END, CT_COUNT and RESET apart. -/
def Obligations.PulseFollowsJoiningSources : Prop :=
  ∀ (c : Instr) (s t : State), Plain c → exec c s = .next t → (∀ e, c ≠ .reset e) →
    (∀ y a b d e, c ≠ .ctCount y a b d e) → c ≠ .pulseEnd → (∀ ps k, c ≠ .setAlertConfig ps k) →
    t.alerts.pulseEnd =
      if t.alerts.mode = .pulse ∧ t.activeSet &&& ~~~s.activeSet ≠ 0 then some (t.time.ct + 1) else s.alerts.pulseEnd

/-! ## Invariants that every step keeps -/

/-- The clock, the settings, the geometry, the group ranges, the plan records and the plan numbers stay in the
ranges their tables give. -/
def Obligations.StoredValuesStayInRange : Prop :=
  ∀ s t : State, TimeOk s → CorridorOk s → StoreOk s → step s = .next t → TimeOk t ∧ CorridorOk t ∧ StoreOk t

/-- A note keeps its slot's generation, only latched sources are latched, a pulse runs only in PULSE mode with
the global enable on, and a result frame's payload stays within 240 bytes. -/
def Obligations.NotesAlertsAndFramesStaySound : Prop :=
  ∀ s t : State, NotesOk s → AlertsOk s → FrameFits s.port.state → step s = .next t →
    NotesOk t ∧ AlertsOk t ∧ FrameFits t.port.state

/-- The active plan stays valid against the corridor, with a valid clock, and a pending plan stays valid, never
the active one, and only beside an active one. -/
def Obligations.PlanInEffectStaysValid : Prop :=
  ∀ s t : State, PlansOk s → step s = .next t → PlansOk t

/-- Every junction stays in a state that suits the active plan, CORRIDOR_FREE and its EXCLUDE attribute, and no
record is live under plan 0. -/
def Obligations.JunctionsStaySuited : Prop :=
  ∀ s t : State, JunctionsSuit s → QuietUnderPlan0 s → step s = .next t → JunctionsSuit t ∧ QuietUnderPlan0 t

/-- No local cycle takes more extension or more early shortening than the limits it holds from its booking. -/
def Obligations.CyclesStayInBounds : Prop :=
  ∀ s t : State, CyclesOk s → step s = .next t → CyclesOk t

/-- Every live platoon record keeps a current junction below N, a spread of at most Dl, a count of 1 to 99 and
a number of links it can have travelled, and no two of one direction at one junction come to have heads less
than Gm apart. -/
def Obligations.PlatoonRecordsStayApart : Prop :=
  (∀ s t : State, PlansOk s → PlatoonsOk s → step s = .next t → PlatoonsOk t) ∧
  ∀ s t : State, PlatoonsApart s → step s = .next t → PlatoonsApart t

/-- There is never more than one live priority record for one tag at one junction. -/
def Obligations.PriorityRecordsStayUnique : Prop :=
  ∀ s t : State, PrioritiesOk s → step s = .next t → PrioritiesOk t

/-- P_ref agrees with the day clock under the active plan: (ToD − B) mod C (R12). -/
def Sys2Proof.Safety.PRefAgrees (s : State) : Prop :=
  ∀ a p, s.activeRecord = some (a, p) → (a.pRef : Int) = ((s.time.clock.tod : Int) - (p.b : Int)) % (p.c : Int)

/-- P_ref stays equal to (ToD − B) mod C through every command, until the clock passes a midnight. -/
def Obligations.PRefFollowsDayClock : Prop :=
  ∀ (c : Instr) (s t : State), TimeOk s → PlansOk s → PRefAgrees s → exec c s = .next t →
    t.time.clock.day = s.time.clock.day → PRefAgrees t

/-! ## The request port -/

/-- Every whole frame that reaches an IDLE port is executed and answered, with the echoed code, W and F as its
effects leave them and REJECTED clear; every frame that reaches another port is discarded and REJECTED is set. The
bytes clocked out are the status byte at the fall of chip select, then a fill byte at each byte after the type byte;
bytes clocked in beyond the frame change nothing but how many fill bytes there are. -/
def Obligations.PortAnswersWholeFrames : Prop :=
  ∀ (c : Instr) (code : Byte) (ps : List Byte) (s : State), Running s → c.code? = some code → c.params? = some ps →
    ∃ t, exec c s = .next t ∧ t.port.sdo = s.statusByte :: List.replicate (2 + ps.length + c.extra) 0x00 ∧
      (s.port.state = .idle → ∃ cls reason payload more last,
        cls ≠ .none ∧ AnswersList t code cls reason payload more last) ∧
      (s.port.state ≠ .idle → t.port.state = s.port.state ∧ t.port.rejected = true ∧ Frame [.port] s t) ∧
      ∀ c' : Instr, c'.code? = some code → c'.params? = some ps →
        ∃ u, exec c' s = .next u ∧ u = t.setPort { t.port with sdo := u.port.sdo }

/-- The port's own refusals in their order: a code that names no request, a length not defined for the code, an
edit request while the edit lock is set or the edit gate is closed. -/
def Obligations.PortRefusesFrames : Prop :=
  ∀ (c : Instr) (code : Byte) (ps : List Byte) (s : State), c.code? = some code → c.params? = some ps → Idle s →
    (code ∉ Config.requestCodes → Refuses c s code .unknownRequest []) ∧
    (code ∈ Config.requestCodes → ps.length ∉ definedLengths code → Refuses c s code .badFrame []) ∧
    (code ∈ editCodes → ps.length ∈ definedLengths code → ¬ EditsOpen s → Refuses c s code .locked [])

/-- Reading the bytes of a transaction gives back the command they were written from, with the number of bytes
clocked in beyond a frame; a SEND given as raw bytes is one that is not whole. -/
def Obligations.TransactionsDecodeToTheirCommands : Prop :=
  ∀ (i : Instr) (bytes : List Byte), i.wf = true → encodeTransaction i = some bytes →
    (∀ frame, i = .sendDiscarded frame → wholeFrame frame = none) → decodeTransaction bytes = i

/-- Transactions written out byte by byte from the tables of 12.2 spell their commands. -/
def Obligations.FrameBytesSpellCommands : Prop :=
  decodeTransaction [0xA1, 0x01, 4, 0x02, 0x07, 0x14, 0x35] = .setClock [0x02, 0x07, 0x14, 0x35] ∧
  decodeTransaction [0xA1, 0x12, 5, 0, 0x01, 0x5E, 0x00, 0xFA] = .setJunction [0, 0x01, 0x5E, 0x00, 0xFA] ∧
  decodeTransaction [0xA1, 0x29, 3, 1, 1, 1, 0xFF] = .spillback [1, 1, 1] 1 ∧
  decodeTransaction [0xA1, 0x50, 0] = .continueList [] ∧
  decodeTransaction [0xA1, 0x7F, 1, 9] = .unknownRequest 0x7F [9] ∧
  decodeTransaction [0xA1, 0x39, 3, 0, 205] = .sendDiscarded [0x39, 3, 0, 205] ∧
  decodeTransaction [0xA2, 0] = .statusTransaction 1 ∧ decodeTransaction [0xA3, 0, 0, 0, 0, 0] = .resultTransaction 5 ∧
  decodeTransaction [0xAF] = .portReset 0 ∧ decodeTransaction [0x11, 0xA1] = .voidTransaction [0x11, 0xA1]

/-- A SEND that reaches a port that is not IDLE, or whose frame is not whole, is discarded and sets REJECTED; a
void transaction leaves even REJECTED as it was; PORT_RESET clears REJECTED and closes the list sequence,
discards a held result and lets an execution run to its end with its result marked for discard. No other block
changes. -/
def Obligations.DiscardedAndResetTransactions : Prop :=
  (∀ (frame : List Byte) (s : State), Running s →
    s.port.state ≠ .idle ∨ frame.length < 2 ∨ frame.length < 2 + (frame.getD 1 0).toNat →
    ∃ t, exec (.sendDiscarded frame) s = .next t ∧ Frame [.port] s t ∧ t.port.state = s.port.state ∧
      t.port.rejected = true ∧ t.port.sdo = s.statusByte :: List.replicate frame.length 0x00) ∧
  (∀ (b : Byte) (rest : List Byte) (s : State), Running s → b ∉ ([0xA1, 0xA2, 0xA3, 0xAF] : List Byte) →
    ∃ t, exec (.voidTransaction (b :: rest)) s = .next t ∧ Frame [.port] s t ∧ t.port.state = s.port.state ∧
      t.port.rejected = s.port.rejected ∧ t.port.sdo = s.statusByte :: List.replicate rest.length 0x00) ∧
  (∀ s : State, Running s → ∃ t, exec (.voidTransaction []) s = .next t ∧ Frame [.port] s t ∧ t.port.state = s.port.state ∧
    t.port.rejected = s.port.rejected ∧ t.port.sdo = []) ∧
  ∀ (n : Nat) (s : State), Running s → ∃ t, exec (.portReset n) s = .next t ∧ Frame [.port, .sequence] s t ∧
    t.port.rejected = false ∧ t.port.sequence = none ∧
    (s.port.state = .idle → t.port.state = .idle) ∧ (∀ f, s.port.state = .result f → t.port.state = .idle) ∧
    (∀ f d, s.port.state = .executing f d → t.port.state = .executing f true) ∧
    t.port.sdo = s.statusByte :: List.replicate n 0x00

/-- The header and payload of a result frame, byte by byte (second table of 12.2). -/
def Sys2Proof.Safety.frameBytes (f : ResultFrame) : List Byte :=
  [f.code, BitVec.ofNat 8 f.cls.number, BitVec.ofNat 8 f.reason.number,
   BitVec.ofNat 8 (f.w.toNat + 2 * f.f.toNat + 4 * f.more.toNat + 8 * f.last.toNat),
   BitVec.ofNat 8 f.payload.length] ++ f.payload

/-- An execution completes into RESULT with the frame it formed, or, after a PORT_RESET, into IDLE with the
result discarded and any sequence closed. A RESULT transaction that clocks out the last byte of the held frame
discards it; one cut short leaves it to be read again from its first byte; in IDLE and in EXECUTING it clocks out
a frame of class NONE. -/
def Obligations.ResultIsHeldUntilRead : Prop :=
  (∀ (f : ResultFrame) (s : State), Running s → s.port.state = .executing f false →
    ∃ t, exec .executionComplete s = .next t ∧ t.port.state = .result f ∧ t.port.rejected = s.port.rejected ∧
      t.port.sdo = s.port.sdo ∧ Frame [.port, .pulseEnd] s t) ∧
  (∀ (f : ResultFrame) (s : State), Running s → s.port.state = .executing f true →
    ∃ t, exec .executionComplete s = .next t ∧ t.port.state = .idle ∧ t.port.sequence = none ∧
      t.port.rejected = s.port.rejected ∧ Frame [.port, .sequence] s t) ∧
  ∀ (n : Nat) (s : State), Running s → ∃ t, exec (.resultTransaction n) s = .next t ∧ Frame [.port] s t ∧
    t.port.rejected = s.port.rejected ∧
    (∀ f, s.port.state = .result f →
      t.port.state = (if 5 + f.payload.length ≤ n then .idle else .result f) ∧
      t.port.sdo = s.statusByte :: (frameBytes f ++ List.replicate n 0x00).take n) ∧
    ((∀ f, s.port.state ≠ .result f) → t.port.state = s.port.state ∧
      t.port.sdo = s.statusByte ::
        ([0x00, 0x00, 0x00, BitVec.ofNat 8 (s.wFlag.toNat + 2 * s.fFlag.toNat), 0x00] ++ List.replicate n 0x00).take n)

/-- A STATUS transaction clocks out the port status byte twice, then fill, and changes nothing; the bits of the
byte are those of the fourth table of 12.2, with W and F as AlertRequestsAct states them. -/
def Obligations.StatusByteReportsPort : Prop :=
  ∀ (n : Nat) (s : State),
    (Running s → ∃ t, exec (.statusTransaction n) s = .next t ∧ Frame [.port] s t ∧ t.port.state = s.port.state ∧
      t.port.rejected = s.port.rejected ∧
      t.port.sdo = (s.statusByte :: s.statusByte :: List.replicate n 0x00).take (n + 1)) ∧
    (s.port.state = .idle → s.statusByte.toNat % 4 = 0) ∧
    (∀ f d, s.port.state = .executing f d → s.statusByte.toNat % 4 = 1) ∧
    (∀ f, s.port.state = .result f → s.statusByte.toNat % 4 = 2) ∧
    s.statusByte.getLsbD 2 = s.port.rejected ∧ s.statusByte.getLsbD 3 = s.port.sequence.isSome ∧
    s.statusByte.getLsbD 4 = s.port.editLock ∧ s.statusByte.getLsbD 5 = s.wFlag ∧
    s.statusByte.getLsbD 6 = s.fFlag ∧ s.statusByte.getLsbD 7 = true

/-! ## Time base and reference generator (chapter 1) -/

/-- Nothing is due at the present count that has not been taken. -/
def Sys2Proof.Safety.NothingDue (s : State) : Prop := ∀ e ∈ allEvents, e.due s = false

/-- At a count at which nothing is left to take, CT and the day clock advance by one, with every carry, a valid
clock that reaches a whole minute owes a minute mark, a present P_ref advances and owes the boundary when it
wraps, SYNC is sampled, and nothing but the inputs changes beside them. -/
def Obligations.CountAdvancesClocks : Prop :=
  ∀ (y a0 a1 a2 a3 : Level) (s : State), Running s → NothingDue s → ClockInRange s.time.clock →
    ∃ t, exec (.ctCount y a0 a1 a2 a3) s = .next t ∧ Frame [.time, .selector, .inputs] s t ∧
      t.time.ct = s.time.ct + 1 ∧ ClockInRange t.time.clock ∧ t.time.clock.valid = s.time.clock.valid ∧
      t.time.clock.weekPosition = (s.time.clock.weekPosition + 1) % 6048000 ∧
      t.time.markDue = (s.time.clock.valid && t.time.clock.second == 0 && t.time.clock.tenth == 0) ∧
      t.time.syncHeld = y ∧ t.time.edgeDue = (y == .high && s.time.syncHeld == .low) ∧
      t.time.lastPulse = s.time.lastPulse ∧ t.time.syncLost = s.time.syncLost ∧
      (s.activeRecord = none → t.selector = s.selector ∧ t.time.boundaryDue = false) ∧
      ∀ a p, s.activeRecord = some (a, p) → a.pRef < p.c →
        t.selector = { s.selector with active := some { a with pRef := (a.pRef + 1) % p.c } } ∧
        t.time.boundaryDue = decide (a.pRef + 1 = p.c)

/-- The step of a pulse for a position within the minute, and the clock after it: back to the start of the
minute up to the half-minute, on to the next whole minute, with its carries, beyond it; at position 0 the pulse
changes neither clock nor P_ref and gives no minute mark. -/
def Obligations.SyncStepToNearestMinute : Prop :=
  ∀ k : DayClock, ClockInRange k →
    let r := k.second * 10 + k.tenth
    (r = 0 → syncStep k.minutePosition = 0 ∧ ∀ s : State, s.time.clock = k → pullClock s = s) ∧
    (1 ≤ r → r ≤ 300 → syncStep k.minutePosition = -(r : Int) ∧
      k.stepTo (syncStep k.minutePosition) = { k with second := 0, tenth := 0 }) ∧
    (301 ≤ r → syncStep k.minutePosition = 600 - (r : Int) ∧
      ClockInRange (k.stepTo (syncStep k.minutePosition)) ∧
      (k.stepTo (syncStep k.minutePosition)).second = 0 ∧ (k.stepTo (syncStep k.minutePosition)).tenth = 0 ∧
      (k.stepTo (syncStep k.minutePosition)).weekPosition = (k.weekPosition + (600 - r)) % 6048000)

/-- A rising edge with sync enable yes renews the last-pulse time and ends SYNC_LOST. With a valid clock, a step
within Ts moves the clock and P_ref by the same d and, forward, owes a minute mark; a step beyond Ts changes
neither and sets SYNC_SLIP. An invalid clock takes no step, and with sync enable no the edge is ignored. That a
SYNC_PULSE at a held low level without a sampled edge is itself the high sample of R7 is the model's choice
(log 7). -/
def Obligations.SyncPulseStepsClock : Prop :=
  ∀ s : State, Running s → ClockInRange s.time.clock → s.time.syncHeld = .low ∨ s.time.edgeDue = true →
    let d := syncStep s.time.clock.minutePosition
    ∃ t, exec .syncPulse s = .next t ∧ t.time.ct = s.time.ct ∧ t.time.syncHeld = .high ∧
      t.time.edgeDue = false ∧ t.time.boundaryDue = s.time.boundaryDue ∧
      Frame [.time, .selector, .latched, .pulseEnd] s t ∧
      (s.settings.syncEnable = false → t.time.clock = s.time.clock ∧ t.time.lastPulse = s.time.lastPulse ∧
        t.time.syncLost = s.time.syncLost ∧ Frame [.time] s t) ∧
      (s.settings.syncEnable = true → t.time.lastPulse = s.time.ct ∧ t.time.syncLost = false ∧
        (s.time.clock.valid = false → t.time.clock = s.time.clock ∧ Frame [.time] s t) ∧
        (s.time.clock.valid = true → s.settings.ts < d.natAbs → t.time.clock = s.time.clock ∧
          t.time.markDue = s.time.markDue ∧ Frame [.time, .latched, .pulseEnd] s t ∧
          t.alerts.latched = s.alerts.latched ||| AlertSource.syncSlip.only) ∧
        (s.time.clock.valid = true → d.natAbs ≤ s.settings.ts → Frame [.time, .selector] s t ∧
          t.time.clock.second = 0 ∧ t.time.clock.tenth = 0 ∧ t.time.clock.valid = true ∧
          (t.time.clock.weekPosition : Int) = (s.time.clock.weekPosition + d) % 6048000 ∧
          t.time.markDue = (s.time.markDue || decide (0 < d)) ∧
          (s.activeRecord = none → t.selector = s.selector) ∧
          ∀ a p, s.activeRecord = some (a, p) → a.pRef < p.c → ∃ r : Nat, (r : Int) = ((a.pRef : Int) + d) % (p.c : Int) ∧
            t.selector = { s.selector with active := some { a with pRef := r } }))

/-- SYNC_LOST becomes true 1800 ds after the last pulse while sync enable is yes, and the pulse end releases the pin. The
STATUS pattern is the first of R152 that applies: steady lights the lamp, off leaves it dark, and each blink is lit in
the first half of its phase. The phase starts at the end of reset; each STATUS_BLINK, one of the 125 ms of log 9, moves
it on, which toggles the fast pattern each time and the slow one every fourth. -/
def Obligations.SyncLossPulseEndAndBlink : Prop :=
  (∀ s : State, Running s → s.settings.syncEnable = true → s.time.syncLost = false → s.time.ct = s.time.lastPulse + 1800 →
    ∃ t, exec .syncLossTime s = .next t ∧ t.time = { s.time with syncLost := true } ∧ Frame [.time, .pulseEnd] s t) ∧
  (∀ s : State, Running s → s.alerts.pulseEnd = some s.time.ct →
    ∃ t, exec .pulseEnd s = .next t ∧ t.alerts.pulseEnd = none ∧ Frame [.pulseEnd] s t ∧
      (s.alerts.mode = .pulse → s.alertPin = true ∧ t.alertPin = false)) ∧
  (∀ s : State, Running s → ∃ t, exec .statusBlink s = .next t ∧ Frame [.blink] s t ∧
    t.blink.val = (s.blink.val + 1) % 8 ∧
    (s.lampPattern = .fast → t.lampOn = !s.lampOn) ∧
    (s.lampPattern = .slow → t.lampOn = if t.blink.val % 4 = 0 then !s.lampOn else s.lampOn)) ∧
  (∀ s : State, Running s →
    (s.lampPattern = .steady → s.lampOn = true) ∧ (s.lampPattern = .off → s.lampOn = false) ∧
    (s.lampPattern = .fast → (s.lampOn = true ↔ s.blink.val % 2 = 0)) ∧
    (s.lampPattern = .slow → (s.lampOn = true ↔ s.blink.val < 4))) ∧
  (∀ s : State, s.lampPattern =
    if s.time.clock.valid = false ∨ ∃ j ∈ s.junctions, j.state = .free .fault then .fast
    else if ∃ j ∈ s.junctions, j.state.isSeek = true ∨ j.state.isPreempt = true then .slow
    else if s.selector.active.isSome = true ∧ ∃ j ∈ s.junctions, j.state.isInStep = true then .steady else .off) ∧
  ∀ (l : Level) (s : State), ∃ t, exec (.reset (.rise l)) s = .next t ∧ t.blink.val = 0

/-- A SET CLOCK with every field in range sets and validates the clock and derives P_ref afresh under the active
plan, so that an untaken wrap of the old P_ref signals no boundary; its catch-up then leaves the scheduled plan and
the last setting entry, re-forms the requested plan and acts on it, on the state with the new clock and P_ref. CT,
the last-pulse time and SYNC_LOST stay. A digit or field out of range is refused OUT_OF_RANGE. -/
def Obligations.SetClockActs : Prop :=
  (∀ (d h m sec : Nat) (s : State), Idle s → 1 ≤ d → d ≤ 7 → h ≤ 23 → m ≤ 59 → sec ≤ 59 →
    ∃ t u, exec (.setClock [BitVec.ofNat 8 d, BitVec.ofNat 8 (h / 10 * 16 + h % 10), BitVec.ofNat 8 (m / 10 * 16 + m % 10),
          BitVec.ofNat 8 (sec / 10 * 16 + sec % 10)]) s = .next t ∧
      Answers t 0x01 .done .none [] ∧
      t.time = { s.time with clock := ⟨d, h, m, sec, 0, true⟩, boundaryDue := false } ∧
      Frame [.time, .selector, .junctions, .latched, .pulseEnd, .port] s t ∧
      t.selector.requested = t.arbitrate ∧
      ((∀ i : Fin 24, EntryInRange s.selector.schedule[i]) → CatchesUp t.time.clock s.selector.schedule t) ∧
      u.time = t.time ∧ Frame [.time, .selector] s u ∧ (s.activeRecord = none → u.selector = s.selector) ∧
      (∀ a p, s.activeRecord = some (a, p) → p.c ≠ 0 → t.junctions = s.junctions ∧
        ∃ r : Nat, (r : Int) = ((((h * 60 + m) * 60 + sec) * 10 : Nat) - (p.b : Int)) % (p.c : Int) ∧
          u.selector = { s.selector with active := some { a with pRef := r } } ∧
          t.selector.active = u.selector.active) ∧
      SelectorActs (t.selector.requested ≠ s.selector.requested ∨ t.selector.requested ≠ s.target) u t) ∧
  ∀ (b0 b1 b2 b3 : Byte) (s : State), Idle s →
    (∃ b ∈ [b0, b1, b2, b3], 9 < b.toNat / 16 ∨ 9 < b.toNat % 16) ∨ b0.toNat = 0 ∨ 7 < b0.toNat ∨ 0x23 < b1.toNat ∨
      0x59 < b2.toNat ∨ 0x59 < b3.toNat →
    Refuses (.setClock [b0, b1, b2, b3]) s 0x01 .outOfRange []

/-- The PLAN_FORCE input of the lowest index that is validated active, with its plan (R52). -/
def Sys2Proof.Safety.Forcing (s : State) (x : Option (Fin 4 × Nat)) : Prop :=
  match x with
  | none => ∀ (k : Fin 4) p, s.inputs[k].func = .planForce p → s.inputs[k].validated = false
  | some (k, p) => s.inputs[k].func = .planForce p ∧ s.inputs[k].validated = true ∧
      ∀ (m : Fin 4) q, m < k → s.inputs[m].func = .planForce q → s.inputs[m].validated = false

/-- The payload of READ JUNCTION for junction `j` (R23): the four ranges are four optional index bytes. -/
def Sys2Proof.Safety.junctionRead (j : Nat) (q : Junction) (s : State) : List Byte :=
  let tIn := s.selector.active.bind fun a => a.tIn[j]?
  let tOut := s.selector.active.bind fun a => a.tOut[j]?
  let covers (k : Fin 4) : Nat := (decide (s.groups[k].first ≤ j ∧ j < s.groups[k].first + s.groups[k].count)).toNat
  [BitVec.ofNat 8 (q.link.isSome.toNat + 2 * covers 0 + 4 * covers 1 + 8 * covers 2 + 16 * covers 3 + 32 * tIn.isSome.toNat
      + 64 * tOut.isSome.toNat)] ++ wordOf (q.link.getD 0) ++ wordOf q.smin ++ [attributeByte (s.attributes j)] ++
    [0, BitVec.ofNat 8 (covers 1), BitVec.ofNat 8 (2 * covers 2), BitVec.ofNat 8 (3 * covers 3)] ++
    wordOf (tIn.getD 0) ++ wordOf (tOut.getD 0)

/-- What READ PLAN answers for plan `n` with its stored record (R33): 62 presence bits, of which the first 38 mark the
record's fields and the others the offsets of the active plan; whether the record is empty; its fields; the plan's
role; the offsets. -/
def Sys2Proof.Safety.PlanRead (n : Nat) (record : Option Plan) (s : State) (payload : List Byte) : Prop :=
  let offsets := (s.selector.active.bind fun a => if a.number = n then some a.offsets else none).getD []
  payload.length = 126 ∧
  (∀ i, i < 64 → (payload.getD (i / 8) 0).getLsbD (i % 8) =
    if i < 38 then record.isSome else decide (i < 62 ∧ i - 38 < offsets.length)) ∧
  slice payload 8 69 = (match record with
    | none => 1 :: List.replicate 68 0
    | some p => 0 :: planBytes p) ∧
  slice payload 77 1 = [if n = s.activeNumber then 1 else if s.selector.pendingPlan = some n then 2 else 0] ∧
  ∀ j : Fin 24, slice payload (78 + 2 * j.val) 2 = wordOf (offsets[j.val]?.getD 0)

/-- What READ INPUTS answers (R147), `x` the input that forces a plan: one presence byte, the items of the four inputs,
item by item, and the combined states of R148, R150, R52 and R152. -/
def Sys2Proof.Safety.InputsRead (x : Option (Fin 4 × Nat)) (s : State) (payload : List Byte) : Prop :=
  let runs (k : Fin 4) : Nat := s.inputs[k].runStart.isSome.toNat
  payload.length = 54 ∧
  slice payload 0 1 = [BitVec.ofNat 8 (runs 0 + 2 * runs 1 + 4 * runs 2 + 8 * runs 3 + 48 * x.isSome.toNat)] ∧
  (∀ k : Fin 4,
    let i := s.inputs[k]
    slice payload (1 + 2 * k.val) 2 = functionBytes i.func ∧
    slice payload (9 + k.val) 1 = [if i.polarity = .activeLow then 0 else 1] ∧
    slice payload (13 + k.val) 1 = [BitVec.ofNat 8 i.assertTime] ∧
    slice payload (17 + k.val) 1 = [BitVec.ofNat 8 i.releaseTime] ∧
    slice payload (21 + k.val) 1 = [if i.raw = .high then 1 else 0] ∧
    slice payload (25 + k.val) 1 = [if activeUnder i.polarity i.raw then 1 else 0] ∧
    slice payload (29 + k.val) 1 = [if i.validated then 1 else 0] ∧
    slice payload (33 + 4 * k.val) 4 = ctOf (i.runStart.getD 0)) ∧
  slice payload 49 1 = [if (∀ k : Fin 4, s.inputs[k].func ≠ .editEnable) ∨
    ∃ k : Fin 4, s.inputs[k].func = .editEnable ∧ s.inputs[k].validated = true then 1 else 0] ∧
  slice payload 50 1 = [if ∃ k : Fin 4, s.inputs[k].func = .corridorFree ∧ s.inputs[k].validated = true then 1 else 0] ∧
  slice payload 51 2 = (match x with
    | none => [0, 0]
    | some (k, p) => [BitVec.ofNat 8 k.val, BitVec.ofNat 8 p]) ∧
  slice payload 53 1 =
    [if s.time.clock.valid = false ∨ ∃ j ∈ s.junctions, j.state = .free .fault then 3
     else if ∃ j ∈ s.junctions, j.state.isSeek = true ∨ j.state.isPreempt = true then 2
     else if s.selector.active.isSome = true ∧ ∃ j ∈ s.junctions, j.state.isInStep = true then 1 else 0]

/-- Every look-up and read that finds what it names is carried out, changes nothing but the port, and answers the state
as it stands, byte by byte: clock, corridor, settings, junctions, ranges, plans, schedule and selector, records with the
spillback flags or the context of their junction, inputs with their combined states. WINDOW QUERY and READ ALERTS, here
by their lengths, are said in full by WindowQueryReportsWindow and AlertRequestsAct. READ JUNCTION at or above N is
refused NOT_CONFIGURED, READ PLAN outside 1 to 8 and READ SCHEDULE ENTRY above 23 OUT_OF_RANGE. The places of the presence bits and
of the spillback flags, the order of the items of READ INPUTS and the four range bytes are the model's reading
(log 11). -/
def Obligations.ReadsChangeOnlyThePort : Prop :=
  ∀ s : State, Idle s →
    Reads (.readClock []) s 0x02 (fun payload => payload = [BitVec.ofNat 8 s.time.clock.day,
      BitVec.ofNat 8 (s.time.clock.hour / 10 * 16 + s.time.clock.hour % 10),
      BitVec.ofNat 8 (s.time.clock.minute / 10 * 16 + s.time.clock.minute % 10),
      BitVec.ofNat 8 (s.time.clock.second / 10 * 16 + s.time.clock.second % 10),
      BitVec.ofNat 8 (16 * s.time.clock.valid.toNat + s.time.clock.tenth),
      s.time.ct.extractLsb' 24 8, s.time.ct.extractLsb' 16 8, s.time.ct.extractLsb' 8 8, s.time.ct.extractLsb' 0 8,
      BitVec.ofNat 8 s.time.syncLost.toNat]) ∧
    Reads (.corridorStatus []) s 0x03 (fun payload => ∃ stage c0 c1 p0 p1, payload =
        [BitVec.ofNat 8 (s.selector.pendingPlan.isSome.toNat + 2 * s.activeRecord.isSome.toNat
            + 4 * s.selector.active.isSome.toNat),
          stage, BitVec.ofNat 8 s.activeNumber, BitVec.ofNat 8 (s.selector.pendingPlan.getD 0), c0, c1, p0, p1,
          BitVec.ofNat 8 s.n, BitVec.ofNat 8 (s.junctions.countP fun j => j.state.isSeek),
          BitVec.ofNat 8 (s.junctions.countP fun j => j.state.isInStep),
          BitVec.ofNat 8 (s.junctions.countP fun j => j.state.isPreempt),
          BitVec.ofNat 8 (s.junctions.countP fun j => j.state.isFault)] ∧
      (s.selector.active = none → [c0, c1, p0, p1] = [0, 0, 0, 0]) ∧
      (∀ a p, s.activeRecord = some (a, p) → [c0, c1] = wordOf p.c ∧ [p0, p1] = wordOf a.pRef) ∧
      (s.time.clock.valid = false → s.selector.active = none → stage = 0) ∧
      (s.time.clock.valid = true → s.selector.active = none → stage = 1) ∧
      (s.time.clock.valid = true → s.selector.active.isSome = true →
        stage = if (∃ j ∈ s.junctions, j.state.isInStep = true) ∧
            ∀ j ∈ s.junctions, j.state.isSeek = false ∧ j.state.isFault = false then 3 else 2)) ∧
    Reads (.readCorridor []) s 0x11 (fun payload =>
      let entryIn := s.selector.active.bind ActivePlan.entryIn
      let entryOut := s.selector.active.bind ActivePlan.entryOut
      payload = [BitVec.ofNat 8 (entryIn.isSome.toNat + 2 * entryOut.isSome.toNat)] ++ corridorBytes s.n s.settings ++
        wordOf (entryIn.getD 0) ++ wordOf (entryOut.getD 0)) ∧
    (∀ (j : Byte) q, s.junctions[j.toNat]? = some q →
      Reads (.readJunction [j]) s 0x13 (fun payload => payload = junctionRead j.toNat q s)) ∧
    (∀ k : Fin 4, Reads (.readGroup [BitVec.ofNat 8 k.val]) s 0x15 (fun payload => payload =
      [BitVec.ofNat 8 s.groups[k].first, BitVec.ofNat 8 s.groups[k].count, attributeByte s.groups[k].attrs])) ∧
    (∀ k : Fin 8, Reads (.readPlan [BitVec.ofNat 8 (k.val + 1)]) s 0x19 (PlanRead (k.val + 1) s.plans[k] s)) ∧
    (∀ x, Forcing s x → ∀ k : Fin 24, Reads (.readScheduleEntry [BitVec.ofNat 8 k.val]) s 0x1B (fun payload =>
      let e := s.selector.schedule[k]
      payload = [BitVec.ofNat 8 (x.isSome.toNat + 2 * s.selector.lastEntry.isSome.toNat), BitVec.ofNat 8 e.enabled.toNat,
        BitVec.ofNat 8 e.days.toNat, BitVec.ofNat 8 e.hour, BitVec.ofNat 8 e.minute, BitVec.ofNat 8 e.plan,
        BitVec.ofNat 8 s.selector.scheduled, BitVec.ofNat 8 s.selector.holdOn.toNat, BitVec.ofNat 8 s.selector.holdPlan,
        BitVec.ofNat 8 ((x.map fun y => y.1.val).getD 0), BitVec.ofNat 8 s.selector.requested,
        BitVec.ofNat 8 (s.selector.lastEntry.getD 0)])) ∧
    (∀ j : Byte, j.toNat < s.n → Reads (.windowQuery [j]) s 0x28 (fun payload => payload.length = 63)) ∧
    (∀ (k : Fin 32) (r : Platoon) (q : Junction), s.platoons[k].live = some r → s.junctions[r.cur]? = some q →
      Reads (.readPlatoon [BitVec.ofNat 8 k.val, BitVec.ofNat 8 s.platoons[k].gen.val]) s 0x32 (fun payload => payload =
        platoonRecord k s.platoons[k].gen r ++
          [BitVec.ofNat 8 q.spillIn.isSome.toNat, BitVec.ofNat 8 q.spillOut.isSome.toNat])) ∧
    (∀ (k : Fin 16) (r : Priority) (q : Junction), s.priorities[k].live = some r → s.junctions[r.junction]? = some q →
      Reads (.readPriority [BitVec.ofNat 8 k.val, BitVec.ofNat 8 s.priorities[k].gen.val]) s 0x3A (fun payload => payload =
        [BitVec.ofNat 8 q.cycle?.isSome.toNat] ++ priorityRecord k s.priorities[k].gen r ++ stateBytes q.state ++
          [if (q.cycle?.map Cycle.phase) = some .side then 1 else 0, BitVec.ofNat 8 q.lockout,
            BitVec.ofNat 8 q.granted.toNat])) ∧
    (∀ x, Forcing s x → Reads (.readInputs []) s 0x41 (InputsRead x s)) ∧
    Reads (.readAlerts []) s 0x48 (fun payload => payload.length = 13) ∧
    (∀ j : Byte, s.n ≤ j.toNat → Refuses (.readJunction [j]) s 0x13 .notConfigured []) ∧
    (∀ p : Byte, p.toNat = 0 ∨ 8 < p.toNat → Refuses (.readPlan [p]) s 0x19 .outOfRange []) ∧
    ∀ i : Byte, 24 ≤ i.toNat → Refuses (.readScheduleEntry [i]) s 0x1B .outOfRange []

/-! ## Corridor table (chapter 2) -/

/-- The sixteen parameter bytes of SET CORRIDOR with any values, `e` its sync enable byte (12.2). -/
def Sys2Proof.Safety.rawCorridorBytes (n : Byte) (entryIn entryOut gm dl lm pmax : Nat) (e : Byte) (ts : Nat) : List Byte :=
  [n] ++ wordOf entryIn ++ wordOf entryOut ++ wordOf gm ++ wordOf dl ++ wordOf lm ++ wordOf pmax ++ [e] ++ wordOf ts

/-- What SET CORRIDOR does to junction `j` when it makes N `n`: the last junction has no link length, a junction
that now leads a link gets 200 m, one that stays keeps everything else, and a new one starts as R19 states. -/
def Sys2Proof.Safety.ResizedTo (n : Nat) (s t : State) (j : Nat) (q : Junction) : Prop :=
  (∀ old, s.junctions[j]? = some old →
    q = { old with link := if j + 1 = n then none else if j + 1 = s.n then some 200 else old.link }) ∧
  (s.junctions[j]? = none →
    q = ⟨if j + 1 = n then none else some 200, 200, .free (if (t.attributes j).exclude then .excluded else .plan0), 0,
      false, none, none⟩)

/-- An accepted SET CORRIDOR under plan 0 writes the nine settings, resizes the corridor and starts or stops the
SYNC watch, and READ CORRIDOR then returns the bytes that were set. It is refused IN_USE while a coordinated plan is
active, then OUT_OF_RANGE for any setting out of its range, then IN_USE while it would drop a preempted junction. -/
def Obligations.SetCorridorResizes : Prop :=
  (∀ (n : Nat) (v : Settings) (s : State), Idle s → EditsOpen s → CorridorOk s → s.selector.active = none →
    n = 0 ∨ (2 ≤ n ∧ n ≤ 24) → SettingsInRange v → (∀ j ∈ s.junctions.drop n, j.state.isPreempt = false) →
    ∃ t, exec (.setCorridor (corridorBytes n v)) s = .next t ∧ Answers t 0x10 .done .none [] ∧
      Frame [.time, .settings, .junctions, .port] s t ∧ t.settings = v ∧ t.n = n ∧
      (∀ j q, t.junctions[j]? = some q → ResizedTo n s t j q) ∧
      t.time = { s.time with
        lastPulse := if !s.settings.syncEnable && v.syncEnable then s.time.ct else s.time.lastPulse
        syncLost := s.time.syncLost && !(s.settings.syncEnable && !v.syncEnable) } ∧
      ∃ u payload, exec (.readCorridor []) (released t) = .next u ∧ Answers u 0x11 .done .none payload ∧
        slice payload 1 16 = corridorBytes n v) ∧
  (∀ (ps : List Byte) (s : State), Idle s → EditsOpen s → ps.length = 16 → s.selector.active.isSome = true →
    Refuses (.setCorridor ps) s 0x10 .inUse []) ∧
  (∀ (n e : Byte) (entryIn entryOut gm dl lm pmax ts : Nat) (s : State), Idle s → EditsOpen s →
    s.selector.active = none → (∀ v ∈ [entryIn, entryOut, gm, dl, lm, pmax, ts], v ≤ 65535) →
    n = 1 ∨ 24 < n.toNat ∨ 3000 < entryIn ∨ 3000 < entryOut ∨ gm < 10 ∨ 300 < gm ∨ dl < 100 ∨ 900 < dl ∨ lm < 50 ∨
      1200 < lm ∨ pmax < 300 ∨ 6000 < pmax ∨ 1 < e.toNat ∨ ts < 1 ∨ 300 < ts →
    Refuses (.setCorridor (rawCorridorBytes n entryIn entryOut gm dl lm pmax e ts)) s 0x10 .outOfRange []) ∧
  ∀ (n : Nat) (v : Settings) (s : State), Idle s → EditsOpen s → s.selector.active = none →
    n = 0 ∨ (2 ≤ n ∧ n ≤ 24) → SettingsInRange v → (∃ j ∈ s.junctions.drop n, j.state.isPreempt = true) →
    Refuses (.setCorridor (corridorBytes n v)) s 0x10 .inUse []

/-- An accepted SET JUNCTION writes the link length, carried as 0 at the last junction, and the side minimum of
one junction and nothing else, and READ JUNCTION then returns them. It is refused IN_USE while a coordinated plan is active
or pending, then NOT_CONFIGURED, then OUT_OF_RANGE for a side minimum or a link length that does not suit. -/
def Obligations.SetJunctionWritesGeometry : Prop :=
  (∀ (j : Byte) (len smin : Nat) (q : Junction) (s : State), Idle s → EditsOpen s → s.selector.active = none →
    s.selector.pendingPlan = none → s.junctions[j.toNat]? = some q → 50 ≤ smin → smin ≤ 1200 →
    (if j.toNat + 1 = s.n then len = 0 else 20 ≤ len ∧ len ≤ 3000) →
    ∃ t, exec (.setJunction ([j] ++ wordOf len ++ wordOf smin)) s = .next t ∧ Answers t 0x12 .done .none [] ∧
      Frame [.junctions, .port] s t ∧
      t.junctions = s.junctions.set j.toNat { q with link := if len = 0 then none else some len, smin := smin } ∧
      ∃ u payload, exec (.readJunction [j]) (released t) = .next u ∧ Answers u 0x13 .done .none payload ∧
        slice payload 1 4 = wordOf len ++ wordOf smin) ∧
  (∀ (b0 b1 b2 b3 b4 : Byte) (s : State), Idle s → EditsOpen s →
    s.selector.active.isSome = true ∨ s.selector.pendingPlan.isSome = true →
    Refuses (.setJunction [b0, b1, b2, b3, b4]) s 0x12 .inUse []) ∧
  (∀ (j b1 b2 b3 b4 : Byte) (s : State), Idle s → EditsOpen s → s.selector.active = none →
    s.selector.pendingPlan = none → s.n ≤ j.toNat → Refuses (.setJunction [j, b1, b2, b3, b4]) s 0x12 .notConfigured []) ∧
  ∀ (j : Byte) (len smin : Nat) (s : State), Idle s → EditsOpen s → s.selector.active = none →
    s.selector.pendingPlan = none → j.toNat < s.n → len ≤ 65535 → smin ≤ 65535 →
    smin < 50 ∨ 1200 < smin ∨ (j.toNat + 1 = s.n ∧ len ≠ 0) ∨ (j.toNat + 1 ≠ s.n ∧ (len < 20 ∨ 3000 < len)) →
    Refuses (.setJunction ([j] ++ wordOf len ++ wordOf smin)) s 0x12 .outOfRange []

/-- What a change of EXCLUDE membership does to a junction (R28, R29): `was` and `is` before and after. -/
def Sys2Proof.Safety.ExcludeMoves (s : State) (was is : Bool) (old q : Junction) : Prop :=
  (was = is → q = old) ∧
  (was = false → is = true → q = { old with state :=
    match old.state with
    | .preempt start deadline _ => .preempt start deadline .excluded
    | .free _ | .seek _ | .inStep _ => .free .excluded }) ∧
  (was = true → is = false → ∀ r : ReturnState,
    r = (if s.selector.active.isNone then .plan0 else if s.corridorFree then .corridorFree else .seek) →
    (old.state = .free .excluded ∨ old.state = .free .plan0 → q = { old with state :=
      match r with
      | .plan0 => .free .plan0
      | .excluded => .free .excluded
      | .corridorFree => .free .corridorFree
      | .seek => .seek ⟨s.time.ct, 0, none⟩ }) ∧
    (∀ start deadline, old.state = .preempt start deadline .excluded ∨ old.state = .preempt start deadline .plan0 →
      q = { old with state := .preempt start deadline r }))

/-- An attribute of junction `j` is the union over the entries that cover it (R27). -/
def Sys2Proof.Safety.Unites (f : Attributes → Bool) (t : State) : Prop :=
  ∀ j, f (t.attributes j) = true ↔
    ∃ k : Fin 4, t.groups[k].first ≤ j ∧ j < t.groups[k].first + t.groups[k].count ∧ f t.groups[k].attrs = true

/-- An accepted SET GROUP writes one entry, a count of 0 making it unused, forms each of the four attributes of every
junction as the union of the entries that cover it, and moves the junctions whose EXCLUDE membership changed; READ
GROUP then returns the bytes as stored. A SET GROUP or READ GROUP with a field out of range is refused OUT_OF_RANGE; that
the first junction and the attribute bits are checked under a count of 0 too is the model's reading (log 16). -/
def Obligations.SetGroupMovesExcludedJunctions : Prop :=
  ∀ (i f c a : Byte) (s : State), Idle s →
    (EditsOpen s → i.toNat < 4 → f.toNat ≤ 23 → f.toNat + c.toNat ≤ 24 → a.toNat < 16 →
      ∃ t, exec (.setGroup [i, f, c, a]) s = .next t ∧ Answers t 0x14 .done .none [] ∧
        Frame [.groups, .junctions, .port] s t ∧ t.n = s.n ∧
        (∀ k : Fin 4, t.groups[k] =
          if k.val ≠ i.toNat then s.groups[k]
          else if c = 0 then ⟨0, 0, ⟨false, false, false, false⟩⟩
          else ⟨f.toNat, c.toNat, ⟨a.getLsbD 0, a.getLsbD 1, a.getLsbD 2, a.getLsbD 3⟩⟩) ∧
        Unites Attributes.exclude t ∧ Unites Attributes.queueGuard t ∧ Unites Attributes.noPriority t ∧
        Unites Attributes.noExtend t ∧
        (∀ j old q, s.junctions[j]? = some old → t.junctions[j]? = some q →
          ExcludeMoves s (s.attributes j).exclude (t.attributes j).exclude old q) ∧
        ∃ u, exec (.readGroup [i]) (released t) = .next u ∧
          Answers u 0x15 .done .none (if c = 0 then [0, 0, 0] else [f, c, a])) ∧
    (EditsOpen s → 4 ≤ i.toNat ∨ 23 < f.toNat ∨ 24 < c.toNat ∨ 24 < f.toNat + c.toNat ∨ 16 ≤ a.toNat →
      Refuses (.setGroup [i, f, c, a]) s 0x14 .outOfRange []) ∧
    (4 ≤ i.toNat → Refuses (.readGroup [i]) s 0x15 .outOfRange [])

/-! ## Plans and the offset computation (chapter 3) -/

/-- The 1-byte number at a place of a frame's parameters (12.1). -/
def Sys2Proof.Safety.num8 (ps : List Byte) (i : Nat) : Nat := (ps.getD i 0).toNat

/-- The 2-byte number at a place of a frame's parameters, most significant byte first (12.1). -/
def Sys2Proof.Safety.num16 (ps : List Byte) (i : Nat) : Nat := 256 * (ps.getD i 0).toNat + (ps.getD (i + 1) 0).toNat

/-- The parameters of a SET PLAN carry these fields, each at its place behind the plan number (12.2). -/
structure Sys2Proof.Safety.CarriesPlan (ps : List Byte) (p : Plan) : Prop where
  c : p.c = num16 ps 1
  b : p.b = num16 ps 3
  w : p.w = num8 ps 5
  o0 : p.o0 = num16 ps 6
  vIn : p.vIn = num8 ps 8
  vOut : p.vOut = num8 ps 9
  s : p.s = num16 ps 10
  hIn : p.hIn = num8 ps 12
  hOut : p.hOut = num8 ps 13
  k : p.k = num8 ps 14
  xMax : p.xMax = num16 ps 15
  eMax : p.eMax = num16 ps 17
  m : p.m = num8 ps 19
  r : p.r = num8 ps 20
  g : ∀ j : Fin 24, p.g[j] = num16 ps (21 + 2 * j.val)

/-- Every field of a plan record lies in its own range (table of 3.1). -/
structure Sys2Proof.Safety.PlanInRange (p : Plan) : Prop where
  c : 400 ≤ p.c ∧ p.c ≤ 2400
  b : p.b ≤ 2399
  w : p.w ≤ 16
  o0 : p.o0 ≤ 2399
  vIn : 15 ≤ p.vIn ∧ p.vIn ≤ 90
  vOut : 15 ≤ p.vOut ∧ p.vOut ≤ 90
  s : p.s ≤ 600
  hIn : p.hIn ≤ 100
  hOut : p.hOut ≤ 200
  k : 1 ≤ p.k ∧ p.k ≤ 15
  xMax : p.xMax ≤ 300
  eMax : p.eMax ≤ 300
  m : p.m ≤ 50
  r : p.r ≤ 7
  g : ∀ j : Fin 24, 50 ≤ p.g[j] ∧ p.g[j] ≤ 2350

/-- An accepted SET PLAN replaces the whole record of one plan by the fields at their places in the frame and nothing
else, and READ PLAN then returns its bytes. It is refused for a number outside 1 to 8, for the active or the pending plan,
and for a field outside its own range of table 3.1, in that order. The record is read back behind eight presence bytes
and the byte of an empty record, the model's reading of the absent markers (log 11). -/
def Obligations.SetPlanStoresRecord : Prop :=
  (∀ (ps : List Byte) (p : Plan) (s : State), Idle s → EditsOpen s → ps.length = 69 → CarriesPlan ps p →
    let n := num8 ps 0
    parseSetPlan ps = some (n, p) ∧
    (n = 0 ∨ 8 < n → Refuses (.setPlan ps) s 0x18 .outOfRange []) ∧
    (1 ≤ n → n ≤ 8 → n = s.activeNumber ∨ s.selector.pendingPlan = some n → Refuses (.setPlan ps) s 0x18 .inUse []) ∧
    (1 ≤ n → n ≤ 8 → n ≠ s.activeNumber → s.selector.pendingPlan ≠ some n → ¬ PlanInRange p →
      Refuses (.setPlan ps) s 0x18 .outOfRange []) ∧
    (1 ≤ n → n ≤ 8 → n ≠ s.activeNumber → s.selector.pendingPlan ≠ some n → PlanInRange p →
      ∃ t, exec (.setPlan ps) s = .next t ∧ Answers t 0x18 .done .none [] ∧ Frame [.plans, .port] s t ∧
        (∀ k : Fin 8, t.plans[k] = if k.val + 1 = n then some p else s.plans[k]) ∧
        (∀ m, t.planRecord m = if m = n then some p else s.planRecord m) ∧
        ∃ u payload, exec (.readPlan [BitVec.ofNat 8 n]) (released t) = .next u ∧ Answers u 0x19 .done .none payload ∧
          slice payload 8 1 = [0] ∧ slice payload 9 68 = ps.drop 1)) ∧
  ∀ p : Plan, p.inRange = true ↔ PlanInRange p

/-- The two ideal steps of the offset computation: the residues of the travel times, and the one representative
of the outbound step for which −C < 2·(b′ − a) ≤ C. -/
def Obligations.OutboundStepIsNearest : Prop :=
  ∀ c tIn tOut : Nat, 0 < c →
    let a := inboundStep c tIn
    let b0 := outboundResidue c tOut
    let b := outboundStep c a b0
    (0 ≤ a ∧ a < c ∧ a = (tIn : Int) % c) ∧ (0 ≤ b0 ∧ b0 < c ∧ b0 = (-(tOut : Int)) % c) ∧
    ((b - b0) % c = 0 ∧ -(c : Int) < 2 * (b - a) ∧ 2 * (b - a) ≤ c) ∧
    (∀ x : Int, (x - b0) % c = 0 → -(c : Int) < 2 * (x - a) → 2 * (x - a) ≤ c → x = b) ∧
    (-(c : Int) + 1 ≤ 2 * (b0 - a) → 2 * (b0 - a) ≤ c → b = b0) ∧
    ((c : Int) < 2 * (b0 - a) → b = b0 - c) ∧ (2 * (b0 - a) ≤ -(c : Int) → b = b0 + c)

/-- The offsets of a plan: the plan's own O_0, then for each link the increment d, the weighted mean of the two
steps over 16 to the nearest whole number with a half going up, added modulo C. Weight 16 takes the inbound
step, weight 0 the outbound one. -/
def Obligations.OffsetsFollowWeightedMean : Prop :=
  ∀ (p : Plan) (tIn tOut : List Nat), 0 < p.c → p.w ≤ 16 → tIn.length = tOut.length →
    (planOffsets p tIn tOut).length = tIn.length + 1 ∧ (planOffsets p tIn tOut)[0]? = some p.o0 ∧
    ∀ (j x y prev : Nat), tIn[j]? = some x → tOut[j]? = some y → (planOffsets p tIn tOut)[j]? = some prev →
      ∃ (d : Int) (o : Nat), (planOffsets p tIn tOut)[j + 1]? = some o ∧ o < p.c ∧
        ((o : Int) - (prev + d)) % p.c = 0 ∧
        (let a := inboundStep p.c x
         let b := outboundStep p.c a (outboundResidue p.c y)
         16 * d ≤ p.w * a + (16 - p.w) * b + 8 ∧ p.w * a + (16 - p.w) * b + 8 < 16 * (d + 1) ∧
         (p.w = 16 → d = a) ∧ (p.w = 0 → d = b))

/-- At the reference boundary a pending coordinated plan takes effect: it becomes the active plan with none
pending, its travel times are those of its speeds, its offsets those of the computation, its P_ref that of the
day clock, every junction gets its new state, PLAN_CHANGED is set, and the live records are kept. -/
def Obligations.BoundaryTakesPendingPlan : Prop :=
  (∀ (number : Nat) (p : Plan) (s : State), Running s → s.time.boundaryDue = true →
    s.selector.pendingPlan = some number → s.planRecord number = some p → 0 < p.c → 2 ≤ s.n →
    ∃ t a, exec .referenceBoundary s = .next t ∧
      Frame [.time, .selector, .junctions, .latched, .pulseEnd] s t ∧ t.time = { s.time with boundaryDue := false } ∧
      t.selector = { s.selector with active := some a, pendingPlan := none } ∧ PlanInEffect a number p s t) ∧
  ∀ s : State, Running s → s.time.boundaryDue = true → s.selector.pendingPlan = none →
    ∃ t, exec .referenceBoundary s = .next t ∧ t.time = { s.time with boundaryDue := false } ∧ Frame [.time] s t

/-- At the reference boundary a pending plan 0 takes effect: no plan, travel time, offset or P_ref is left, every
coordinated, faulted or CORRIDOR_FREE junction goes FREE, the return states are revised, every live record is
retired CLEARED under its own generation, and PLAN_CHANGED is set. -/
def Obligations.BoundaryTakesPlanZero : Prop :=
  ∀ s : State, Running s → s.time.boundaryDue = true → s.selector.pendingPlan = some 0 →
    ∃ t, exec .referenceBoundary s = .next t ∧
      Frame [.time, .selector, .junctions, .platoons, .priorities, .latched, .pulseEnd] s t ∧
      t.selector = { s.selector with active := none, pendingPlan := none } ∧ t.n = s.n ∧
      (∀ j old q, s.junctions[j]? = some old → t.junctions[j]? = some q →
        let x := (s.attributes j).exclude
        (old.state.isSeek ∨ old.state.isInStep ∨ old.state = .free .fault ∨ old.state = .free .corridorFree →
          q = { old with state := .free (if x then .excluded else .plan0), lockout := 0, granted := false }) ∧
        (old.state = .free .excluded ∨ old.state = .free .plan0 → q = old) ∧
        ∀ start deadline r, old.state = .preempt start deadline r →
          q = { old with state := .preempt start deadline (if x then .excluded else .plan0) }) ∧
      (∀ k : Fin 32, t.platoons[k] = if s.platoons[k].live.isSome
        then ⟨s.platoons[k].gen, none, some ⟨s.platoons[k].gen, .cleared, s.time.ct⟩⟩ else s.platoons[k]) ∧
      (∀ k : Fin 16, t.priorities[k] = if s.priorities[k].live.isSome
        then ⟨s.priorities[k].gen, none, some ⟨s.priorities[k].gen, .cleared, s.time.ct⟩⟩ else s.priorities[k]) ∧
      t.alerts.latched = s.alerts.latched ||| AlertSource.planChanged.only

/-! ## Schedule and plan selection (chapter 4) -/

/-- ACTIVATE PLAN with no PLAN_FORCE input asserted, by the plan it names: the active plan cancels a pending one
or changes nothing; another plan needs the clock and a valid record; a valid one takes effect at once from plan 0,
with its travel times, offsets, P_ref and new contexts, and otherwise becomes pending. Every accepted one sets the
manual hold and the requested plan. -/
def Obligations.ActivatePlanOutcomes : Prop :=
  ∀ (b : Byte) (s : State), Idle s →
    (8 < b.toNat → Refuses (.activatePlan [b]) s 0x20 .outOfRange []) ∧
    (b.toNat ≤ 8 → s.forced.isSome = true → ∃ t, exec (.activatePlan [b]) s = .next t ∧
      Answers t 0x20 .done .overridden [] ∧ Frame [.selector, .port] s t ∧
      t.selector = { s.selector with holdOn := true, holdPlan := b.toNat, requested := s.arbitrate }) ∧
    (b.toNat ≤ 8 → s.forced = none →
      (b.toNat = s.activeNumber → ∃ t, exec (.activatePlan [b]) s = .next t ∧
        Answers t 0x20 .done (if s.selector.pendingPlan.isSome then .pendingCancelled else .noChange) [] ∧
        Frame [.selector, .port] s t ∧
        t.selector = { s.selector with holdOn := true, holdPlan := b.toNat, requested := b.toNat, pendingPlan := none }) ∧
      (b.toNat ≠ s.activeNumber → b.toNat = 0 ∨ (s.selector.active.isSome = true ∧ s.time.clock.valid = true ∧
          ValidPlan b.toNat s) → ∃ t, exec (.activatePlan [b]) s = .next t ∧
        Answers t 0x20 .done .pending [] ∧ Frame [.selector, .port] s t ∧
        t.selector = { s.selector with
          holdOn := true, holdPlan := b.toNat, requested := b.toNat, pendingPlan := some b.toNat }) ∧
      (b.toNat ≠ s.activeNumber → b.toNat ≠ 0 → s.time.clock.valid = false →
        Refuses (.activatePlan [b]) s 0x20 .noClock []) ∧
      (b.toNat ≠ s.activeNumber → b.toNat ≠ 0 → s.time.clock.valid = true → s.planRecord b.toNat = none →
        Refuses (.activatePlan [b]) s 0x20 .planInvalid [0, 1, 0]) ∧
      (∀ p f, b.toNat ≠ s.activeNumber → b.toNat ≠ 0 → s.time.clock.valid = true → s.planRecord b.toNat = some p →
        failedCheck p s.junctions = some f → Refuses (.activatePlan [b]) s 0x20 .planInvalid
          [BitVec.ofNat 8 f.junction.isSome.toNat, BitVec.ofNat 8 f.check, BitVec.ofNat 8 (f.junction.getD 0)]) ∧
      (∀ p, s.selector.active = none → b.toNat ≠ 0 → s.time.clock.valid = true → s.planRecord b.toNat = some p →
        failedCheck p s.junctions = none →
        ∃ t a, exec (.activatePlan [b]) s = .next t ∧ Answers t 0x20 .done .none [] ∧
          Frame [.selector, .junctions, .latched, .pulseEnd, .port] s t ∧
          t.selector = { s.selector with
            holdOn := true, holdPlan := b.toNat, requested := b.toNat, active := some a, pendingPlan := none } ∧
          PlanInEffect a b.toNat p s t))

/-- The seven checks of R36, in their order: which one a full record fails first, and for check 7 which junction. -/
def Obligations.ValidationChecksInOrder : Prop :=
  ∀ (p : Plan) (js : List Junction),
    let c2 := 2 ≤ js.length
    let c3 := p.b < p.c
    let c4 := p.o0 < p.c
    let c5 := p.s * 4 ≤ p.c
    let c6 := p.hIn ≤ p.hOut
    let fits := fun j : Nat => ∀ q, js[j]? = some q → p.split j + q.smin ≤ p.c
    (failedCheck p js = none ↔ c2 ∧ c3 ∧ c4 ∧ c5 ∧ c6 ∧ ∀ j, fits j) ∧
    (failedCheck p js = some ⟨2, none⟩ ↔ ¬ c2) ∧ (failedCheck p js = some ⟨3, none⟩ ↔ c2 ∧ ¬ c3) ∧
    (failedCheck p js = some ⟨4, none⟩ ↔ c2 ∧ c3 ∧ ¬ c4) ∧ (failedCheck p js = some ⟨5, none⟩ ↔ c2 ∧ c3 ∧ c4 ∧ ¬ c5) ∧
    (failedCheck p js = some ⟨6, none⟩ ↔ c2 ∧ c3 ∧ c4 ∧ c5 ∧ ¬ c6) ∧
    ∀ j, failedCheck p js = some ⟨7, some j⟩ ↔ c2 ∧ c3 ∧ c4 ∧ c5 ∧ c6 ∧ ¬ fits j ∧ ∀ i, i < j → fits i

/-- An entry matches the clock at a minute mark (R54). -/
def Sys2Proof.Safety.EntryMatches (e : ScheduleEntry) (k : DayClock) : Prop :=
  e.enabled = true ∧ e.days.getLsbD (k.day - 1) = true ∧ e.hour = k.hour ∧ e.minute = k.minute

/-- A minute mark gives the scheduled plan to the matching entry of the lowest index and re-forms the requested
plan. A requested plan that stays the same issues no activation; one that changes issues one: the active plan cancels
a pending one, plan 0 becomes pending, a valid plan takes effect at once from plan 0 and becomes pending under
another, and a refused one sets PLAN_REJECTED. That a mark matches the clock as it stands when it is taken, moved by a SET
CLOCK or a pulse of the same count or not, is the model's reading (log 8). -/
def Obligations.MinuteMarkRunsScheduleMatch : Prop :=
  ∀ s : State, Running s → s.time.markDue = true → ∃ t, exec .minuteMark s = .next t ∧
    Frame [.time, .selector, .junctions, .latched, .pulseEnd] s t ∧ t.time = { s.time with markDue := false } ∧
    (∀ i : Fin 24, EntryMatches s.selector.schedule[i] s.time.clock →
      (∀ m : Fin 24, m.val < i.val → ¬ EntryMatches s.selector.schedule[m] s.time.clock) →
      t.selector.scheduled = s.selector.schedule[i].plan ∧ t.selector.lastEntry = some i.val) ∧
    ((∀ i : Fin 24, ¬ EntryMatches s.selector.schedule[i] s.time.clock) →
      t.selector.scheduled = s.selector.scheduled ∧ t.selector.lastEntry = s.selector.lastEntry) ∧
    t.selector.requested = (match s.forced with
      | some f => f.2
      | none => if s.selector.holdOn then s.selector.holdPlan else t.selector.scheduled) ∧
    t.selector.schedule = s.selector.schedule ∧ t.selector.holdOn = s.selector.holdOn ∧
    t.selector.holdPlan = s.selector.holdPlan ∧
    SelectorActs (t.selector.requested ≠ s.selector.requested) s t

/-- RESUME SCHEDULE turns the hold off and catches up: with a valid clock the entry whose moment lies least far
back in the week wins, the lowest index on a tie; with no entry or an invalid clock the scheduled plan is 0. The
activation is reconciled with the target plan, and a refusal does not show in the result. -/
def Obligations.ResumeCatchesUp : Prop :=
  ∀ s : State, Idle s → ClockInRange s.time.clock → (∀ k : Fin 24, EntryInRange s.selector.schedule[k]) →
    ∃ t, exec (.resumeSchedule []) s = .next t ∧ Answers t 0x21 .done .none [] ∧
      Frame [.selector, .junctions, .latched, .pulseEnd, .port] s t ∧
      t.selector.holdOn = false ∧ t.selector.holdPlan = 0 ∧
      t.selector.requested = (match s.forced with
        | some f => f.2
        | none => t.selector.scheduled) ∧
      CatchesUp s.time.clock s.selector.schedule t ∧
      SelectorActs (t.selector.requested ≠ s.selector.requested ∨ t.selector.requested ≠ s.target) s t

/-- An accepted SET SCHEDULE ENTRY replaces one whole entry and issues no activation, and READ SCHEDULE ENTRY
then returns its bytes; a field out of range is refused. -/
def Obligations.SetScheduleEntryStoresEntry : Prop :=
  ∀ (i e d h m p : Byte) (s : State), Idle s → EditsOpen s →
    (i.toNat < 24 → e.toNat ≤ 1 → d.toNat < 128 → h.toNat ≤ 23 → m.toNat ≤ 59 → p.toNat ≤ 8 →
      ∃ t, exec (.setScheduleEntry [i, e, d, h, m, p]) s = .next t ∧ Answers t 0x1A .done .none [] ∧
        Frame [.selector, .port] s t ∧
        (∀ k : Fin 24, t.selector.schedule[k] =
          if k.val = i.toNat then ⟨e == 1, BitVec.ofNat 7 d.toNat, h.toNat, m.toNat, p.toNat⟩ else s.selector.schedule[k]) ∧
        t.selector = { s.selector with schedule := t.selector.schedule } ∧
        ∃ u payload, exec (.readScheduleEntry [i]) (released t) = .next u ∧ Answers u 0x1B .done .none payload ∧
          slice payload 1 5 = [e, d, h, m, p]) ∧
    (24 ≤ i.toNat ∨ 1 < e.toNat ∨ 128 ≤ d.toNat ∨ 23 < h.toNat ∨ 59 < m.toNat ∨ 8 < p.toNat →
      Refuses (.setScheduleEntry [i, e, d, h, m, p]) s 0x1A .outOfRange [])

/-! ## Junction contexts (chapter 5) -/

/-- Junction `j` is at a booking under the active plan: its record, the junction and its window. -/
structure Sys2Proof.Safety.AtBooking (j : Fin 24) (a : ActivePlan) (p : Plan) (q : Junction) (w : Window) (s : State) :
    Prop where
  running : Running s
  plan : s.activeRecord = some (a, p)
  junction : s.junctions[j.val]? = some q
  window : q.state = .seek w ∨ q.state = .inStep w
  time : s.time.ct = (match w.cycle with
    | some c => w.start + BitVec.ofNat 32 c.lc
    | none => w.start)

/-- The drift that a booking records: the value congruent to P_ref − O_j modulo C for which −C < 2e ≤ C; and the
judgement of the booking by |e|, the state and the seek count. -/
def Obligations.BookingJudgesDrift : Prop :=
  (∀ (j : Fin 24) (a : ActivePlan) (p : Plan) (q : Junction) (w : Window) (s : State) (o : Nat),
    AtBooking j a p q w s → 0 < p.c → a.offsets[j.val]? = some o →
    let r : Int := ((a.pRef : Int) - o) % p.c
    let e : Int := driftAt p.c a.pRef o
    0 ≤ r ∧ r < p.c ∧ (2 * r ≤ p.c → e = r) ∧ (2 * r > p.c → e = r - p.c) ∧ -(p.c : Int) < 2 * e ∧ 2 * e ≤ p.c ∧
      (e - (a.pRef - o)) % p.c = 0 ∧
      (∀ x : Int, (x - (a.pRef - o)) % p.c = 0 → -(p.c : Int) < 2 * x → 2 * x ≤ p.c → x = e) ∧
      ∃ t q', exec (.booking j) s = .next t ∧ t.junctions[j.val]? = some q' ∧
        ∀ c, q'.cycle? = some c → c.drift = e) ∧
  ∀ (j : Fin 24) (a : ActivePlan) (p : Plan) (q : Junction) (w : Window) (s : State),
    AtBooking j a p q w s →
    let e := (driftOfJunction a p j.val).natAbs
    ∃ t q', exec (.booking j) s = .next t ∧ t.junctions = s.junctions.set j.val q' ∧
      (q.state = .inStep w → p.hOut < e → ∃ v, q'.state = .seek v ∧ v.seekCount = 0) ∧
      (q.state = .inStep w → e ≤ p.hOut → ∃ v, q'.state = .inStep v ∧ v.seekCount = 0) ∧
      (q.state = .seek w → e ≤ p.hIn → ∃ v, q'.state = .inStep v ∧ v.seekCount = 0) ∧
      (q.state = .seek w → p.hIn < e → w.seekCount + 1 < p.k →
        ∃ v, q'.state = .seek v ∧ v.seekCount = w.seekCount + 1) ∧
      (q.state = .seek w → p.hIn < e → w.seekCount + 1 = p.k → q'.state = .free .fault)

/-- The correction of a booking: a late junction with shorten capacity is brought forward, a late one without it
and an early one are held back, by at most S, and a shortening by at most the capacity. A booking that does not
fault sets up the new cycle now: its length, green end, phase, zero x and y and the limits held from the active
plan, with the lockout lowered and the flag cleared. One that faults goes FREE(FAULT), sets SEEK_FAULT and lowers
nothing. Nothing else changes. -/
def Obligations.BookingSetsUpCycle : Prop :=
  (∀ (p : Plan) (smin g : Nat) (e : Int), p.s * 4 ≤ p.c → g + smin ≤ p.c → -(p.c : Int) < 2 * e → 2 * e ≤ p.c →
    let cap := p.c - g - smin
    let lc := correctedLength p g smin e
    (0 < e → 0 < cap → lc = p.c - min e.natAbs (min p.s cap)) ∧
    (0 < e → cap = 0 → lc = p.c + min (p.c - e.natAbs) p.s) ∧
    (e < 0 → lc = p.c + min e.natAbs p.s) ∧ (e = 0 → lc = p.c) ∧
    g + smin ≤ lc ∧ lc ≤ p.c + p.s) ∧
  ∀ (j : Fin 24) (a : ActivePlan) (p : Plan) (q : Junction) (w : Window) (s : State),
    AtBooking j a p q w s →
    let e := driftOfJunction a p j.val
    ∃ t q', exec (.booking j) s = .next t ∧ t.junctions = s.junctions.set j.val q' ∧
      (q'.state ≠ .free .fault → Frame [.junctions] s t ∧
        (∃ n, q'.state = .seek ⟨s.time.ct, n, some
            ⟨correctedLength p (p.split j.val) q.smin e, s.time.ct + BitVec.ofNat 32 (p.split j.val), .green, 0, 0, e,
              ⟨p.split j.val, p.xMax, p.eMax, p.m, p.r⟩⟩⟩ ∨
          q'.state = .inStep ⟨s.time.ct, n, some
            ⟨correctedLength p (p.split j.val) q.smin e, s.time.ct + BitVec.ofNat 32 (p.split j.val), .green, 0, 0, e,
              ⟨p.split j.val, p.xMax, p.eMax, p.m, p.r⟩⟩⟩) ∧
        q' = { q with state := q'.state, lockout := q.lockout - 1, granted := false }) ∧
      (q'.state = .free .fault → Frame [.junctions, .latched, .pulseEnd] s t ∧
        q' = { q with state := .free .fault } ∧
        t.alerts.latched = s.alerts.latched ||| AlertSource.seekFault.only)

/-- RESYNC JUNCTION of a faulted junction makes an entry into SEEK, or FREE(CORRIDOR_FREE) while that input
function holds; SEEK_FAULT stays as it was. Any other junction is refused. -/
def Obligations.ResyncRestartsFaultedJunction : Prop :=
  ∀ (b : Byte) (s : State), Idle s →
    (s.n ≤ b.toNat → Refuses (.resyncJunction [b]) s 0x22 .notConfigured []) ∧
    (∀ q, s.junctions[b.toNat]? = some q → q.state ≠ .free .fault → Refuses (.resyncJunction [b]) s 0x22 .wrongState []) ∧
    ∀ q, s.junctions[b.toNat]? = some q → q.state = .free .fault →
      ∃ t, exec (.resyncJunction [b]) s = .next t ∧ Answers t 0x22 .done .none [] ∧ Frame [.junctions, .port] s t ∧
        t.junctions = s.junctions.set b.toNat
          { q with state := if s.corridorFree then .free .corridorFree else .seek ⟨s.time.ct, 0, none⟩ }

/-- The head ETA that a WINDOW QUERY of junction `j` carries for a direction: none without a live record of that
direction there, else the head that no other such head is before (R81). -/
def Sys2Proof.Safety.HeadReported (j : Nat) (d : Direction) (s : State) (bytes : List Byte) : Prop :=
  ((∀ e ∈ s.livePlatoons, e.2.cur ≠ j ∨ e.2.dir ≠ d) → bytes = [0, 0, 0, 0]) ∧
  ∀ e ∈ s.livePlatoons, e.2.cur = j → e.2.dir = d →
    (∀ f ∈ s.livePlatoons, f.2.cur = j → f.2.dir = d → f.2.head = e.2.head ∨ before e.2.head f.2.head = true) →
    bytes = ctOf e.2.head

/-- WINDOW QUERY: every item of R80 in its place, in every state of the junction, with the approaching demand of R81
and the partial window of R82; the query changes nothing. That an absent item is a cleared presence bit over zero
bytes, with seventeen optional items and so three presence bytes first, is the model's reading (log 11). -/
def Obligations.WindowQueryReportsWindow : Prop :=
  ∀ (b : Byte) (s : State), Idle s →
    (s.n ≤ b.toNat → Refuses (.windowQuery [b]) s 0x28 .notConfigured []) ∧
    ∀ q, s.junctions[b.toNat]? = some q →
      ∃ t payload, exec (.windowQuery [b]) s = .next t ∧ Answers t 0x28 .done .none payload ∧ Frame [.port] s t ∧
        (let plan := s.activeRecord.isSome.toNat
         let offset := (s.selector.active.bind fun a => a.offsets[b.toNat]?).isSome.toNat
         let window := (q.state.isSeek || q.state.isInStep).toNat
         let booked := q.cycle?.isSome.toNat
         let head (d : Direction) := (s.livePlatoons.any fun e => e.2.cur == b.toNat && e.2.dir == d).toNat
         slice payload 0 3 =
           [BitVec.ofNat 8 (plan + 2 * offset + 4 * window + 248 * booked),
            BitVec.ofNat 8 (3 * booked + 4 * window + 8 * q.spillIn.isSome.toNat + 16 * q.spillOut.isSome.toNat
              + 96 * q.state.isPreempt.toNat + 128 * head .inbound),
            BitVec.ofNat 8 (head .outbound)]) ∧
        slice payload 3 4 = ctOf s.time.ct ∧ slice payload 7 2 = stateBytes q.state ∧
        slice payload 9 1 = [BitVec.ofNat 8 s.activeNumber] ∧
        (s.selector.active = none → slice payload 10 4 = [0, 0, 0, 0]) ∧
        (∀ a p, s.activeRecord = some (a, p) → slice payload 10 2 = wordOf p.c) ∧
        (∀ a o, s.selector.active = some a → a.offsets[b.toNat]? = some o → slice payload 12 2 = wordOf o) ∧
        (∀ w, q.state = .seek w ∨ q.state = .inStep w →
          slice payload 14 4 = ctOf w.start ∧ slice payload 33 1 = [BitVec.ofNat 8 w.seekCount] ∧
          (w.cycle = none → slice payload 18 15 = List.replicate 15 0x00) ∧
          ∀ c, w.cycle = some c →
            slice payload 18 2 = wordOf c.lc ∧ slice payload 20 4 = ctOf c.greenEnd ∧
            slice payload 24 1 = [if c.phase = .green then 0 else 1] ∧ slice payload 25 2 = wordOf c.x ∧
            slice payload 27 2 = wordOf c.y ∧ slice payload 29 2 = wordOf c.held.g ∧
            slice payload 31 2 = wordOf (BitVec.ofInt 16 c.drift).toNat) ∧
        ((∀ w, q.state ≠ .seek w ∧ q.state ≠ .inStep w) → slice payload 14 20 = List.replicate 20 0x00) ∧
        slice payload 34 2 = [BitVec.ofNat 8 q.lockout, BitVec.ofNat 8 q.granted.toNat] ∧
        slice payload 36 5 = [BitVec.ofNat 8 q.spillIn.isSome.toNat] ++ ctOf (q.spillIn.getD 0) ∧
        slice payload 41 5 = [BitVec.ofNat 8 q.spillOut.isSome.toNat] ++ ctOf (q.spillOut.getD 0) ∧
        (∀ start deadline r, q.state = .preempt start deadline r → slice payload 46 8 = ctOf start ++ ctOf deadline) ∧
        (q.state.isPreempt = false → slice payload 46 8 = List.replicate 8 0x00) ∧
        HeadReported b.toNat .inbound s (slice payload 54 4) ∧ HeadReported b.toNat .outbound s (slice payload 58 4) ∧
        slice payload 62 1 =
          [BitVec.ofNat 8 (s.livePriorities.countP fun r => r.2.junction == b.toNat && r.2.grant.isNone)] ∧
        payload.length = 63

/-! ## Green windows (chapter 6) -/

/-- Junction `j` is at a green-end check: coordinated, booked, GREEN, its green end now. -/
structure Sys2Proof.Safety.AtGreenEnd (j : Fin 24) (q : Junction) (w : Window) (c : Cycle) (s : State) : Prop where
  running : Running s
  junction : s.junctions[j.val]? = some q
  window : q.state = .seek w ∨ q.state = .inStep w
  cycle : w.cycle = some c
  green : c.phase = .green
  time : s.time.ct = c.greenEnd

/-- A direction is held back at junction `j`: QUEUE_GUARD with its spillback flag set (R93). -/
def Sys2Proof.Safety.HeldBack (j : Nat) (q : Junction) (d : Direction) (s : State) : Prop :=
  (s.attributes j).queueGuard = true ∧ ((d = .inbound ∧ q.spillIn.isSome = true) ∨ (d = .outbound ∧ q.spillOut.isSome = true))

/-- A priority record may be granted at junction `j` in its present cycle: it is WAITING there, the lockout is 0 and the
flag clear, and the junction does not carry NO_PRIORITY (R85, R94). -/
structure Sys2Proof.Safety.Grantable (j : Nat) (q : Junction) (r : Priority) (s : State) : Prop where
  junction : r.junction = j
  waiting : r.grant = none
  lockout : q.lockout = 0
  granted : q.granted = false
  allowed : (s.attributes j).noPriority = false

/-- A platoon record is a candidate of a green-end check of junction `j` (R84, R93): the head with its margin is at or
before the reach limit, and the tail with its margin after now. -/
structure Sys2Proof.Safety.PlatoonCandidate (j : Nat) (q : Junction) (c : Cycle) (r : Platoon) (s : State) : Prop where
  cur : r.cur = j
  direction : ¬ HeldBack j q r.dir s
  allowed : (s.attributes j).noExtend = false
  head : atOrBefore (r.head + BitVec.ofNat 32 c.held.m) (s.time.ct + BitVec.ofNat 32 (c.held.xMax - c.x)) = true
  tail : before s.time.ct (r.head + BitVec.ofNat 32 r.spread + BitVec.ofNat 32 c.held.m) = true

/-- A priority record is a candidate of a green-end check of junction `j` (R85, R93): its ETA with the margin is after
now and at or before the reach limit. -/
structure Sys2Proof.Safety.PriorityCandidate (j : Nat) (q : Junction) (c : Cycle) (r : Priority) (s : State) : Prop where
  grantable : Grantable j q r s
  direction : ¬ HeldBack j q r.dir s
  after : before s.time.ct (r.eta + BitVec.ofNat 32 c.held.m) = true
  reach : atOrBefore (r.eta + BitVec.ofNat 32 c.held.m) (s.time.ct + BitVec.ofNat 32 (c.held.xMax - c.x)) = true

/-- The target that a platoon candidate offers: its tail with the margin, or the reach limit where that is earlier
(R84). -/
def Sys2Proof.Safety.platoonTarget (c : Cycle) (r : Platoon) (s : State) : Ct :=
  let limit := s.time.ct + BitVec.ofNat 32 (c.held.xMax - c.x)
  let tail := r.head + BitVec.ofNat 32 r.spread + BitVec.ofNat 32 c.held.m
  if before limit tail then limit else tail

/-- A check closes the green: no reach is left, or no live record is a candidate (R89). -/
def Sys2Proof.Safety.Closes (j : Nat) (q : Junction) (c : Cycle) (s : State) : Prop :=
  c.held.xMax ≤ c.x ∨
    ((∀ e ∈ s.livePlatoons, ¬ PlatoonCandidate j q c e.2 s) ∧ ∀ e ∈ s.livePriorities, ¬ PriorityCandidate j q c e.2 s)

/-- A check with no candidate, or with no reach left, closes the green: the phase becomes SIDE and nothing else
changes, where no LATE record may be granted EARLY (EarlyGreenServesLateRecord says what happens there). A platoon is no
candidate at another junction, under NO_EXTEND, in a direction held back by QUEUE_GUARD, with its head and margin beyond
the reach limit or with its tail and margin not after now; a record is none with its ETA and margin not after now or
beyond the reach limit. A platoon alone at its junction otherwise extends the green to its tail and margin
or to the reach limit, and a WAITING record alone there to its ETA and margin, by which it is granted, under NO_EXTEND
too; the cycle lengthens when less than the side minimum would be left. -/
def Obligations.GreenEndClosesOrExtends : Prop :=
  (∀ (j : Fin 24) (q : Junction) (w : Window) (c : Cycle) (s : State), AtGreenEnd j q w c s → Closes j.val q c s →
    (c.held.eMax ≤ c.y ∨ ∀ e ∈ s.livePriorities, Grantable j.val q e.2 s → e.2.cls = .regular) →
    ∃ t, exec (.greenEndCheck j) s = .next t ∧ Frame [.junctions] s t ∧
      t.junctions = s.junctions.set j.val
        { q with state := q.state.setWindow { w with cycle := some { c with phase := .side } } }) ∧
  (∀ (j : Fin 24) (q : Junction) (w : Window) (c : Cycle) (s : State) (k : Fin 32) (r : Platoon) (head tail : Int)
    (side : Nat),
    AtGreenEnd j q w c s → (∀ e ∈ s.livePriorities, e.2.junction ≠ j.val) →
    s.platoons[k].live = some r → r.cur = j.val → (∀ e ∈ s.livePlatoons, e.2.cur = j.val → e.1 = k) →
    (s.attributes j.val).noExtend = false → ¬ HeldBack j.val q r.dir s →
    c.x < c.held.xMax → c.held.xMax ≤ 300 → c.held.m ≤ 50 →
    r.head = s.time.ct + BitVec.ofInt 32 head → (r.spread : Int) = tail - head → -100000 ≤ head → tail ≤ 100000 →
    head + c.held.m + c.x ≤ c.held.xMax → 0 < tail + c.held.m → w.start + BitVec.ofNat 32 side = s.time.ct →
    side ≤ 100000 →
    let more := min (tail + c.held.m).toNat (c.held.xMax - c.x)
    ∃ t, exec (.greenEndCheck j) s = .next t ∧ Frame [.junctions] s t ∧
      t.junctions = s.junctions.set j.val { q with state := q.state.setWindow { w with cycle := some { c with
        x := c.x + more
        greenEnd := s.time.ct + BitVec.ofNat 32 more
        lc := max c.lc (side + more + q.smin) } } }) ∧
  ∀ (j : Fin 24) (q : Junction) (w : Window) (c : Cycle) (s : State) (k : Fin 16) (r : Priority) (eta : Int)
    (side : Nat),
    AtGreenEnd j q w c s → (∀ e ∈ s.livePlatoons, e.2.cur ≠ j.val) ∨ (s.attributes j.val).noExtend = true →
    s.priorities[k].live = some r → Grantable j.val q r s → ¬ HeldBack j.val q r.dir s →
    (∀ e ∈ s.livePriorities, e.1 ≠ k → e.2.junction ≠ j.val) → c.held.xMax ≤ 300 → c.held.m ≤ 50 →
    r.eta = s.time.ct + BitVec.ofInt 32 eta → 0 < eta + c.held.m → eta + c.held.m + c.x ≤ c.held.xMax →
    w.start + BitVec.ofNat 32 side = s.time.ct → side ≤ 100000 →
    let more := (eta + c.held.m).toNat
    ∃ t, exec (.greenEndCheck j) s = .next t ∧ Frame [.junctions, .priorities] s t ∧
      t.junctions = s.junctions.set j.val { q with
        state := q.state.setWindow { w with cycle := some { c with
          x := c.x + more
          greenEnd := s.time.ct + BitVec.ofNat 32 more
          lc := max c.lc (side + more + q.smin) } }
        lockout := c.held.r, granted := true } ∧
      ∀ i : Fin 16, t.priorities[i] = if i = k
        then { s.priorities[k] with live := some { r with grant := some (.extension, s.time.ct) } } else s.priorities[i]

/-- An extension is bounded and grants what it covers: the green extends exactly where the check does not close it, to
the latest target of its candidates. x grows by exactly the move of the green end, within X_max, the side time left is
at least the side minimum, the phase stays GREEN, no platoon record changes, every priority record that the check grants
was WAITING at the junction, and every priority candidate keeps the green and becomes GRANTED by EXTENSION now. -/
def Obligations.GreenEndStaysWithinReach : Prop :=
  ∀ (j : Fin 24) (q : Junction) (w : Window) (c : Cycle) (s t : State) (q' : Junction) (c' : Cycle),
    AtGreenEnd j q w c s → c.x ≤ c.held.xMax → c.held.xMax ≤ 300 → exec (.greenEndCheck j) s = .next t →
    t.junctions[j.val]? = some q' → q'.cycle? = some c' →
    t.platoons = s.platoons ∧ c'.held = c.held ∧
    (c'.phase = .green → c'.x = c.x + ahead s.time.ct c'.greenEnd ∧ c.x < c'.x ∧ c'.x ≤ c.held.xMax ∧
      ahead w.start c'.greenEnd + q.smin ≤ c'.lc ∧ c.lc ≤ c'.lc ∧ c'.y = c.y) ∧
    (c'.phase = .side → c'.x = c.x ∧ c'.greenEnd = c.greenEnd ∧ c'.lc ≤ c.lc) ∧
    (∀ k : Fin 16, t.priorities[k] = s.priorities[k] ∨
      ∃ r kind, s.priorities[k].live = some r ∧ r.junction = j.val ∧ r.grant = none ∧
        t.priorities[k] = { s.priorities[k] with live := some { r with grant := some (kind, s.time.ct) } } ∧
        (c'.phase = .green → kind = .extension) ∧ (c'.phase = .side → kind = .early ∧ r.cls = .late) ∧
        q'.granted = true ∧ q'.lockout = c.held.r ∧ q.granted = false ∧ q.lockout = 0) ∧
    (c'.phase = .side ↔ Closes j.val q c s) ∧
    (∀ r, c'.phase = .green → r ∈ s.livePlatoons → PlatoonCandidate j.val q c r.2 s →
      atOrBefore (platoonTarget c r.2 s) c'.greenEnd = true) ∧
    (c'.phase = .green →
      (∃ r ∈ s.livePlatoons, PlatoonCandidate j.val q c r.2 s ∧ c'.greenEnd = platoonTarget c r.2 s) ∨
      ∃ r ∈ s.livePriorities, PriorityCandidate j.val q c r.2 s ∧ c'.greenEnd = r.2.eta + BitVec.ofNat 32 c.held.m) ∧
    ∀ (k : Fin 16) (r : Priority), s.priorities[k].live = some r → PriorityCandidate j.val q c r s →
      c'.phase = .green ∧ atOrBefore (r.eta + BitVec.ofNat 32 c.held.m) c'.greenEnd = true ∧
        t.priorities[k] = { s.priorities[k] with live := some { r with grant := some (.extension, s.time.ct) } }

/-- SPILLBACK on sets one flag with its expiry 600 ds on, off clears it, and the expiry clears it; the other
flags, the windows and the records stay. The direction and the value are checked before the junction. -/
def Obligations.SpillbackSetsAndExpires : Prop :=
  (∀ (b d v : Byte) (s : State), Idle s →
    (1 < d.toNat ∨ 1 < v.toNat → Refuses (.spillback [b, d, v]) s 0x29 .outOfRange []) ∧
    (d.toNat ≤ 1 → v.toNat ≤ 1 → s.n ≤ b.toNat → Refuses (.spillback [b, d, v]) s 0x29 .notConfigured []) ∧
    (d.toNat ≤ 1 → v.toNat ≤ 1 → ∀ q, s.junctions[b.toNat]? = some q →
      let e : Option Ct := if v = 1 then some (s.time.ct + 600) else none
      ∃ t, exec (.spillback [b, d, v]) s = .next t ∧
        Answers t 0x29 .done .none ([v, v] ++ ctOf (e.getD 0)) ∧ Frame [.junctions, .port] s t ∧
        t.junctions = s.junctions.set b.toNat
          (if d = 0 then { q with spillIn := e } else { q with spillOut := e }))) ∧
  ∀ (j : Fin 24) (q : Junction) (s : State), Running s → s.junctions[j.val]? = some q →
    (q.spillIn = some s.time.ct → ∃ t, exec (.spillbackExpiry j .inbound) s = .next t ∧ Frame [.junctions] s t ∧
      t.junctions = s.junctions.set j.val { q with spillIn := none }) ∧
    (q.spillOut = some s.time.ct → ∃ t, exec (.spillbackExpiry j .outbound) s = .next t ∧ Frame [.junctions] s t ∧
      t.junctions = s.junctions.set j.val { q with spillOut := none })

/-! ## Preemption (section 9.1) -/

/-- The state that a return state leads to (R141). -/
def Sys2Proof.Safety.returnedTo (r : ReturnState) (now : Ct) : Coordination :=
  match r with
  | .plan0 => .free .plan0
  | .excluded => .free .excluded
  | .corridorFree => .free .corridorFree
  | .seek => .seek ⟨now, 0, none⟩

/-- The return state that a PREEMPT BEGIN forms in a junction that is not preempted (R139). -/
def Sys2Proof.Safety.ReturnsTo (free : Bool) (c : Coordination) (r : ReturnState) : Prop :=
  ((c.isSeek = true ∨ c.isInStep = true) → r = .seek) ∧ (c = .free .plan0 → r = .plan0) ∧
    (c = .free .excluded → r = .excluded) ∧ (c = .free .corridorFree → r = .corridorFree) ∧
    (c = .free .fault → r = if free then .corridorFree else .seek)

/-- PREEMPT BEGIN forms the return state from the state it finds and stores start and deadline; a refresh moves the
deadline alone. PREEMPT END and the deadline put the junction into its return state, the deadline with
PREEMPT_TIMEOUT. Geometry, lockout, flag and spillback flags are kept throughout. That PREEMPT BEGIN answers the return
state in one byte, and PREEMPT END the state it enters in two, is the model's reading (log 11). -/
def Obligations.PreemptionBeginsAndEnds : Prop :=
  (∀ (b : Byte) (s : State), Idle s →
    (s.n ≤ b.toNat → Refuses (.preemptBegin [b]) s 0x2A .notConfigured [] ∧
      Refuses (.preemptEnd [b]) s 0x2B .notConfigured []) ∧
    ∀ q, s.junctions[b.toNat]? = some q →
      let deadline' := s.time.ct + BitVec.ofNat 32 s.settings.pmax
      (q.state.isPreempt = false → (∃ t ret, exec (.preemptBegin [b]) s = .next t ∧
          ReturnsTo s.corridorFree q.state ret ∧
          Answers t 0x2A .done .none ([returnByte ret] ++ ctOf s.time.ct ++ ctOf deadline') ∧
          Frame [.junctions, .pulseEnd, .port] s t ∧
          t.junctions = s.junctions.set b.toNat { q with state := .preempt s.time.ct deadline' ret }) ∧
        Refuses (.preemptEnd [b]) s 0x2B .wrongState []) ∧
      ∀ start deadline ret, q.state = .preempt start deadline ret →
        (∃ t, exec (.preemptBegin [b]) s = .next t ∧
          Answers t 0x2A .done .refreshed ([returnByte ret] ++ ctOf start ++ ctOf deadline') ∧
          Frame [.junctions, .port] s t ∧
          t.junctions = s.junctions.set b.toNat { q with state := .preempt start deadline' ret }) ∧
        ∃ t, exec (.preemptEnd [b]) s = .next t ∧
          Answers t 0x2B .done .none (stateBytes (returnedTo ret s.time.ct)) ∧ Frame [.junctions, .port] s t ∧
          t.junctions = s.junctions.set b.toNat { q with state := returnedTo ret s.time.ct }) ∧
  ∀ (j : Fin 24) (q : Junction) (start : Ct) (ret : ReturnState) (s : State), Running s →
    s.junctions[j.val]? = some q → q.state = .preempt start s.time.ct ret →
    ∃ t, exec (.preemptDeadline j) s = .next t ∧ Frame [.junctions, .latched, .pulseEnd] s t ∧
      t.junctions = s.junctions.set j.val { q with state := returnedTo ret s.time.ct } ∧
      t.alerts.latched = s.alerts.latched ||| AlertSource.preemptTimeout.only

/-! ## Platoon records (chapter 7) -/

/-- The link that traffic of a direction takes from where it is seen, junction `from?` or the entry link: the
junction it comes to and its travel time under the active plan (table of R106). -/
def Sys2Proof.Safety.Departs (a : ActivePlan) (n : Nat) (d : Direction) (from? : Option Byte) (k travel : Nat) : Prop :=
  match from?, d with
  | some j, .inbound => j.toNat + 1 < n ∧ k = j.toNat + 1 ∧ a.tIn[j.toNat]? = some travel
  | some j, .outbound => j.toNat < n ∧ k + 1 = j.toNat ∧ a.tOut[k]? = some travel
  | none, .inbound => k = 0 ∧ a.entryIn = some travel
  | none, .outbound => k + 1 = n ∧ a.entryOut = some travel

/-- A reported time as clamped to now (R108). -/
def Sys2Proof.Safety.seenAt (now t : Ct) : Ct := if before now t then now else t

/-- A reported time is after now or at most 300 ds before it (R107). -/
def Sys2Proof.Safety.InTime (now t : Ct) : Prop := before now t = true ∨ ahead t now ≤ 300

/-- The record that a report forms (R106, R108, R109). -/
def Sys2Proof.Safety.formedRecord (d : Direction) (from? : Option Byte) (k travel c lm count spread : Nat) (t : Ct) :
    Platoon :=
  { dir := d, origin := from?.map BitVec.toNat, cur := k, head := t + BitVec.ofNat 32 travel
    spread := min spread 600 + travel / 8, count := min count 99, links := 0, lastPassage := none
    lost := t + BitVec.ofNat 32 travel + BitVec.ofNat 32 (c + lm) }

/-- The clamp byte of a platoon result (R172). -/
def Sys2Proof.Safety.clampOf (t count spread : Bool) : Byte :=
  BitVec.ofNat 8 (t.toNat + 2 * count.toNat + 4 * spread.toNat)

/-- A PLATOON SEEN at an IDLE port, admitted under the plan `a` with record `p`: direction, place, time, count and
spread, with the clamped record it forms on its link. -/
structure Sys2Proof.Safety.Seen (d : Direction) (from? : Option Byte) (t : Ct) (count : Byte) (spread k travel : Nat)
    (a : ActivePlan) (p : Plan) (s : State) : Prop where
  idle : Idle s
  plan : s.activeRecord = some (a, p)
  inTime : InTime s.time.ct t
  count : count ≠ 0
  spread : spread ≤ 65535
  departs : Departs a s.n d from? k travel

/-- The parameter bytes of a PLATOON SEEN (12.2). -/
def Sys2Proof.Safety.seenBytes (d : Direction) (from? : Option Byte) (t : Ct) (count : Byte) (spread : Nat) : List Byte :=
  from?.toList ++ [dirByte d] ++ ctOf t ++ [count] ++ wordOf spread

/-- An admitted report with no partner near its head becomes a record in the lowest empty slot, under the next
generation. One that spreads beyond Dl on its first link is DISSOLVED, and one at the last junction of its
direction is EXITING: neither forms a record. A bad report is refused as R107 orders, in both forms. That DISSOLVED and
EXITING carry the clamp byte alone is the model's reading (log 11). -/
def Obligations.PlatoonSeenFormsRecord : Prop :=
  (∀ (d : Direction) (from? : Option Byte) (t : Ct) (count : Byte) (spread k travel : Nat) (a : ActivePlan) (p : Plan)
      (s : State), Seen d from? t count spread k travel a p s →
    let formed := formedRecord d from? k travel p.c s.settings.lm count.toNat spread (seenAt s.time.ct t)
    let clamp := clampOf (before s.time.ct t) (99 < count.toNat) (600 < spread)
    (s.settings.dl < formed.spread →
      ∃ u, exec (.platoonSeen (seenBytes d from? t count spread)) s = .next u ∧
        Answers u 0x30 .done .dissolved [clamp] ∧ Frame [.port] s u) ∧
    ∀ m : Fin 32, formed.spread ≤ s.settings.dl →
      (∀ e ∈ s.livePlatoons, e.2.dir = d → e.2.cur = k → s.settings.gm ≤ apart e.2.head formed.head) →
      s.platoons[m].live = none → (∀ i : Fin 32, i < m → s.platoons[i].live.isSome = true) →
      ∃ u, exec (.platoonSeen (seenBytes d from? t count spread)) s = .next u ∧
        Answers u 0x30 .done (if clamp = 0 then .none else .clamped)
          (platoonRecord m (s.platoons[m].gen + 1) formed ++ [clamp]) ∧ Frame [.platoons, .port] s u ∧
        ∀ i : Fin 32, u.platoons[i] = if i = m then ⟨s.platoons[m].gen + 1, some formed, none⟩ else s.platoons[i]) ∧
  ∀ (b j count : Byte) (t : Ct) (spread : Nat) (s : State), Idle s →
    let rest := ctOf t ++ [count] ++ wordOf spread
    (s.selector.active = none → Refuses (.platoonSeen (j :: b :: rest)) s 0x30 .noPlan [] ∧
      Refuses (.platoonSeen (b :: rest)) s 0x30 .noPlan []) ∧
    (s.activeRecord.isSome = true → 1 < b.toNat → Refuses (.platoonSeen (j :: b :: rest)) s 0x30 .outOfRange [] ∧
      Refuses (.platoonSeen (b :: rest)) s 0x30 .outOfRange []) ∧
    (s.activeRecord.isSome = true → b.toNat ≤ 1 → s.n ≤ j.toNat →
      Refuses (.platoonSeen (j :: b :: rest)) s 0x30 .notConfigured []) ∧
    (∀ a p, s.activeRecord = some (a, p) → (b = 0 ∧ a.entryIn = none) ∨ (b = 1 ∧ a.entryOut = none) →
      Refuses (.platoonSeen (b :: rest)) s 0x30 .notConfigured []) ∧
    (s.activeRecord.isSome = true → b.toNat ≤ 1 → j.toNat < s.n → count = 0 ∨ ¬ InTime s.time.ct t →
      Refuses (.platoonSeen (j :: b :: rest)) s 0x30 .outOfRange []) ∧
    (∀ a p, s.activeRecord = some (a, p) → (b = 0 ∧ a.entryIn.isSome = true) ∨ (b = 1 ∧ a.entryOut.isSome = true) →
      count = 0 ∨ ¬ InTime s.time.ct t → Refuses (.platoonSeen (b :: rest)) s 0x30 .outOfRange []) ∧
    (s.activeRecord.isSome = true → (b = 0 ∧ j.toNat + 1 = s.n) ∨ (b = 1 ∧ j = 0 ∧ 0 < s.n) → count ≠ 0 →
      InTime s.time.ct t → spread ≤ 65535 → ∃ u, exec (.platoonSeen (j :: b :: rest)) s = .next u ∧
        Answers u 0x30 .done .exiting [clampOf (before s.time.ct t) (99 < count.toNat) (600 < spread)] ∧
        Frame [.port] s u)

/-- The record that a merge makes of a partner (table of R111). -/
def Sys2Proof.Safety.mergedRecord (r formed : Platoon) : Platoon :=
  let head := if before formed.head r.head then formed.head else r.head
  let tail := if before (r.head + BitVec.ofNat 32 r.spread) (formed.head + BitVec.ofNat 32 formed.spread)
    then formed.head + BitVec.ofNat 32 formed.spread else r.head + BitVec.ofNat 32 r.spread
  { r with
    head := head, spread := (tail - head).toNat, count := min 99 (r.count + formed.count)
    lost := if before r.lost formed.lost then formed.lost else r.lost }

/-- Slot `m` holds the partner that a record merges into: of the same direction and junction, heads less than Gm
apart, and the earliest of those, the slot `skip` left out (R111, R119). -/
structure Sys2Proof.Safety.Partner (m : Fin 32) (r formed : Platoon) (skip : Option (Fin 32)) (s : State) : Prop where
  live : s.platoons[m].live = some r
  other : skip ≠ some m
  dir : r.dir = formed.dir
  cur : r.cur = formed.cur
  near : apart r.head formed.head < s.settings.gm
  earliest : ∀ e ∈ s.livePlatoons, e.1 ≠ m → skip ≠ some e.1 → e.2.dir = formed.dir → e.2.cur = formed.cur →
    apart e.2.head formed.head < s.settings.gm → before r.head e.2.head = true

/-- A report whose head comes near a partner is merged into it under the partner's identifier, and a merged group
that spreads beyond Dl is retired DISSOLVED. On a full table with no partner, the record that R113 chooses gives
way to a larger one, with PLATOON_EVICTED; otherwise the report is refused TABLE_FULL, with PLATOON_REFUSED. That the
clamp byte stands last, and behind the retired identifier in DISSOLVED, is the model's reading (log 11). -/
def Obligations.PlatoonSeenMergesOrEvicts : Prop :=
  ∀ (d : Direction) (from? : Option Byte) (t : Ct) (count : Byte) (spread k travel : Nat) (a : ActivePlan) (p : Plan)
    (s : State) (m : Fin 32) (r : Platoon), Seen d from? t count spread k travel a p s →
    let formed := formedRecord d from? k travel p.c s.settings.lm count.toNat spread (seenAt s.time.ct t)
    let clamp := clampOf (before s.time.ct t) (99 < count.toNat) (600 < spread)
    let gen := s.platoons[m].gen
    formed.spread ≤ s.settings.dl →
    (Partner m r formed none s →
      ((mergedRecord r formed).spread ≤ s.settings.dl →
        ∃ u, exec (.platoonSeen (seenBytes d from? t count spread)) s = .next u ∧
          Answers u 0x30 .done .merged (platoonRecord m gen (mergedRecord r formed) ++ [clamp]) ∧
          Frame [.platoons, .port] s u ∧
          ∀ i : Fin 32, u.platoons[i] =
            if i = m then { s.platoons[m] with live := some (mergedRecord r formed) } else s.platoons[i]) ∧
      (s.settings.dl < (mergedRecord r formed).spread →
        ∃ u, exec (.platoonSeen (seenBytes d from? t count spread)) s = .next u ∧
          Answers u 0x30 .done .dissolved [BitVec.ofNat 8 m.val, BitVec.ofNat 8 gen.val, clamp] ∧
          Frame [.platoons, .port] s u ∧
          ∀ i : Fin 32, u.platoons[i] =
            if i = m then ⟨gen, none, some ⟨gen, .dissolved, s.time.ct⟩⟩ else s.platoons[i])) ∧
    ((∀ i : Fin 32, s.platoons[i].live.isSome = true) → s.platoons[m].live = some r →
      (∀ e ∈ s.livePlatoons, e.2.dir = d → e.2.cur = k → s.settings.gm ≤ apart e.2.head formed.head) →
      (∀ e ∈ s.livePlatoons, e.1 ≠ m → r.count < e.2.count ∨ (r.count = e.2.count ∧
        (before e.2.head r.head = true ∨ (e.2.head = r.head ∧ e.1 < m)))) →
      (r.count < formed.count →
        ∃ u, exec (.platoonSeen (seenBytes d from? t count spread)) s = .next u ∧
          Answers u 0x30 .done .evicted (platoonRecord m (gen + 1) formed ++
            [BitVec.ofNat 8 m.val, BitVec.ofNat 8 gen.val, clamp]) ∧
          Frame [.platoons, .latched, .pulseEnd, .port] s u ∧
          u.alerts.latched = s.alerts.latched ||| AlertSource.platoonEvicted.only ∧
          ∀ i : Fin 32, u.platoons[i] = if i = m then ⟨gen + 1, some formed, none⟩ else s.platoons[i]) ∧
      (formed.count ≤ r.count →
        ∃ u, exec (.platoonSeen (seenBytes d from? t count spread)) s = .next u ∧
          Answers u 0x30 .refused .tableFull [] ∧ Frame [.latched, .pulseEnd, .port] s u ∧
          u.alerts.latched = s.alerts.latched ||| AlertSource.platoonRefused.only))

/-- A PASSAGE at an IDLE port naming the live record of slot `k`, admitted at junction `j`. -/
structure Sys2Proof.Safety.Passing (k : Fin 32) (r : Platoon) (j : Byte) (t : Ct) (a : ActivePlan) (p : Plan) (s : State) :
    Prop where
  idle : Idle s
  plan : s.activeRecord = some (a, p)
  live : s.platoons[k].live = some r
  configured : j.toNat < s.n
  inTime : InTime s.time.ct t

/-- The parameter bytes of a PASSAGE that names a record (12.2). -/
def Sys2Proof.Safety.passageBytes (j : Byte) (d : Direction) (t : Ct) (k : Fin 32) (gen : Fin 16) : List Byte :=
  [j, dirByte d] ++ ctOf t ++ [BitVec.ofNat 8 k.val, BitVec.ofNat 8 gen.val]

/-- The record that a passage at `t` moves onto its next link, toward `dest` (R106, R118, R119). -/
def Sys2Proof.Safety.advancedRecord (r : Platoon) (dest travel c lm : Nat) (t : Ct) : Platoon :=
  { r with
    cur := dest, head := t + BitVec.ofNat 32 travel, spread := r.spread + travel / 8
    links := r.links + (r.origin.isSome || r.lastPassage.isSome).toNat, lastPassage := some t
    lost := t + BitVec.ofNat 32 travel + BitVec.ofNat 32 (c + lm) }

/-- The payload of a STALE_ID result: the note of an empty slot whose generation is the one carried, or the note
marked absent (R103, R172). -/
def Sys2Proof.Safety.stalePayloadOf {α : Type} (slot : Slot α) (gen : Fin 16) : List Byte :=
  match slot.live, slot.note with
  | none, some x =>
    if x.gen = gen then [1, BitVec.ofNat 8 gen.val] ++ retireCauseOf x.cause ++ ctOf x.time else List.replicate 7 0
  | none, none | some _, _ => List.replicate 7 0

/-- A passage named by identifier moves its record onto the next link, retires it EXITED at the last junction of
its direction, DISSOLVED beyond Dl, or MERGED into a partner at the new junction, and is refused WRONG_JUNCTION at
any other junction or in the other direction. One without identifier does the same for the record with the
earliest head within Lm, and answers NO_MATCH where there is none. A bad one is refused as R115 orders in both forms,
and then as R103 does for its identifier. The payloads of EXITING, DISSOLVED and a merge that dissolves are the model's
reading (log 11). -/
def Obligations.PassageMovesRecord : Prop :=
  (∀ (k : Fin 32) (r : Platoon) (j : Byte) (t : Ct) (a : ActivePlan) (p : Plan) (s : State),
    Passing k r j t a p s →
    let t' := seenAt s.time.ct t
    let clamp := clampOf (before s.time.ct t) false false
    let gen := s.platoons[k].gen
    let c : Instr := .passage (passageBytes j r.dir t k gen)
    (∀ d, r.dir ≠ d ∨ r.cur ≠ j.toNat → Refuses (.passage (passageBytes j d t k gen)) s 0x31 .wrongJunction
      [dirByte r.dir, BitVec.ofNat 8 r.cur]) ∧
    (r.cur = j.toNat → (r.dir = .inbound ∧ r.cur + 1 = s.n) ∨ (r.dir = .outbound ∧ r.cur = 0) →
      ∃ u, exec c s = .next u ∧ Answers u 0x31 .done .exiting [BitVec.ofNat 8 k.val, BitVec.ofNat 8 gen.val, clamp] ∧
        Frame [.platoons, .port] s u ∧
        ∀ i : Fin 32, u.platoons[i] = if i = k then ⟨gen, none, some ⟨gen, .exited, s.time.ct⟩⟩ else s.platoons[i]) ∧
    ∀ dest travel, r.cur = j.toNat → Departs a s.n r.dir (some j) dest travel →
      let next := advancedRecord r dest travel p.c s.settings.lm t'
      (s.settings.dl < next.spread →
        ∃ u, exec c s = .next u ∧ Answers u 0x31 .done .dissolved [clamp] ∧ Frame [.platoons, .port] s u ∧
          ∀ i : Fin 32, u.platoons[i] =
            if i = k then ⟨gen, none, some ⟨gen, .dissolved, s.time.ct⟩⟩ else s.platoons[i]) ∧
      (next.spread ≤ s.settings.dl →
        (∀ e ∈ s.livePlatoons, e.1 ≠ k → e.2.dir = r.dir → e.2.cur = dest → s.settings.gm ≤ apart e.2.head next.head) →
        ∃ u, exec c s = .next u ∧ Answers u 0x31 .done (if clamp = 0 then .none else .clamped)
            (platoonRecord k gen next ++ [clamp]) ∧ Frame [.platoons, .port] s u ∧
          ∀ i : Fin 32, u.platoons[i] = if i = k then { s.platoons[k] with live := some next } else s.platoons[i]) ∧
      ∀ m q, next.spread ≤ s.settings.dl → Partner m q next (some k) s →
        let both := mergedRecord q next
        ∃ u, exec c s = .next u ∧
          Answers u 0x31 .done (if s.settings.dl < both.spread then .dissolved else .merged)
            (platoonRecord m s.platoons[m].gen both ++ [clamp]) ∧ Frame [.platoons, .port] s u ∧
          ∀ i : Fin 32, u.platoons[i] =
            if i = k then ⟨gen, none, some ⟨gen, .merged, s.time.ct⟩⟩
            else if i ≠ m then s.platoons[i]
            else if s.settings.dl < both.spread
              then ⟨s.platoons[m].gen, none, some ⟨s.platoons[m].gen, .dissolved, s.time.ct⟩⟩
              else { s.platoons[m] with live := some both }) ∧
  (∀ (k : Fin 32) (r : Platoon) (j : Byte) (t : Ct) (a : ActivePlan) (p : Plan) (s : State),
    Passing k r j t a p s → r.cur = j.toNat → apart (seenAt s.time.ct t) r.head ≤ s.settings.lm →
    (∀ e ∈ s.livePlatoons, e.1 ≠ k → e.2.dir = r.dir → e.2.cur = r.cur →
      apart (seenAt s.time.ct t) e.2.head ≤ s.settings.lm →
      before r.head e.2.head = true ∨ (r.head = e.2.head ∧ k < e.1)) →
    ∃ u v, exec (.passage ([j, dirByte r.dir] ++ ctOf t)) s = .next u ∧
      exec (.passage (passageBytes j r.dir t k s.platoons[k].gen)) s = .next v ∧ Frame [.port] v u ∧
      u.port.state = v.port.state ∧ u.port.rejected = v.port.rejected) ∧
  (∀ (d : Direction) (j : Byte) (t : Ct) (s : State), Idle s → s.activeRecord.isSome = true → j.toNat < s.n →
    InTime s.time.ct t →
    ((∀ e ∈ s.livePlatoons, e.2.dir = d → e.2.cur = j.toNat → s.settings.lm < apart (seenAt s.time.ct t) e.2.head) →
      ∃ u, exec (.passage ([j, dirByte d] ++ ctOf t)) s = .next u ∧
        Answers u 0x31 .done .noMatch [clampOf (before s.time.ct t) false false] ∧ Frame [.port] s u) ∧
    (∀ slot g : Byte, 31 < slot.toNat ∨ 15 < g.toNat →
      Refuses (.passage ([j, dirByte d] ++ ctOf t ++ [slot, g])) s 0x31 .outOfRange []) ∧
    ∀ (k : Fin 32) (gen : Fin 16), s.platoons[k].live = none ∨ s.platoons[k].gen ≠ gen →
      Refuses (.passage (passageBytes j d t k gen)) s 0x31 .staleId (stalePayloadOf s.platoons[k] gen)) ∧
  ∀ (j b : Byte) (t : Ct) (id : List Byte) (s : State), Idle s → id = [] ∨ id.length = 2 →
    let c : Instr := .passage ([j, b] ++ ctOf t ++ id)
    (s.selector.active = none → Refuses c s 0x31 .noPlan []) ∧
    (s.activeRecord.isSome = true → 1 < b.toNat → Refuses c s 0x31 .outOfRange []) ∧
    (s.activeRecord.isSome = true → b.toNat ≤ 1 → s.n ≤ j.toNat → Refuses c s 0x31 .notConfigured []) ∧
    (s.activeRecord.isSome = true → b.toNat ≤ 1 → j.toNat < s.n → ¬ InTime s.time.ct t →
      Refuses c s 0x31 .outOfRange [])

/-- A platoon record leaves at its lost deadline, LOST, and by CANCEL PLATOON, CANCELLED, which answers the record
as it stood. An identifier that names no live record is refused STALE_ID with the note that R103 gives, and one
out of range OUT_OF_RANGE, by READ PLATOON and CANCEL PLATOON alike. -/
def Obligations.LostAndCancelledPlatoonsLeave : Prop :=
  (∀ (k : Fin 32) (r : Platoon) (s : State), Running s → s.platoons[k].live = some r →
    let gone (c : RetireCause) : Slot Platoon := ⟨s.platoons[k].gen, none, some ⟨s.platoons[k].gen, c, s.time.ct⟩⟩
    (r.lost = s.time.ct → ∃ u, exec (.platoonLost k) s = .next u ∧ Frame [.platoons] s u ∧
      ∀ i : Fin 32, u.platoons[i] = if i = k then gone .lost else s.platoons[i]) ∧
    (Idle s → ∃ u, exec (.cancelPlatoon [BitVec.ofNat 8 k.val, BitVec.ofNat 8 s.platoons[k].gen.val]) s = .next u ∧
      Answers u 0x33 .done .none (platoonRecord k s.platoons[k].gen r) ∧ Frame [.platoons, .port] s u ∧
      ∀ i : Fin 32, u.platoons[i] = if i = k then gone .cancelled else s.platoons[i])) ∧
  (∀ (k : Fin 32) (gen : Fin 16) (s : State), Idle s → s.platoons[k].live = none ∨ s.platoons[k].gen ≠ gen →
    let id : List Byte := [BitVec.ofNat 8 k.val, BitVec.ofNat 8 gen.val]
    Refuses (.readPlatoon id) s 0x32 .staleId (stalePayloadOf s.platoons[k] gen) ∧
      Refuses (.cancelPlatoon id) s 0x33 .staleId (stalePayloadOf s.platoons[k] gen)) ∧
  ∀ (b g : Byte) (s : State), Idle s → 31 < b.toNat ∨ 15 < g.toNat →
    Refuses (.readPlatoon [b, g]) s 0x32 .outOfRange [] ∧ Refuses (.cancelPlatoon [b, g]) s 0x33 .outOfRange []

/-! ## Transit priority (sections 6.4, 6.5 and chapter 8) -/

/-- The parameter bytes of a CHECK IN (12.2). -/
def Sys2Proof.Safety.checkInBytes (j : Byte) (d : Direction) (tag : Nat) (cls : PriorityClass) (eta : Ct) : List Byte :=
  [j, dirByte d] ++ wordOf tag ++ [classByte cls] ++ ctOf eta

/-- An ETA as R129 clamps it. -/
def Sys2Proof.Safety.etaAt (now eta : Ct) : Ct :=
  if before eta now then now else if 3000 < (eta - now).toNat then now + 3000 else eta

/-- A CHECK IN at an IDLE port, admitted at junction `j` for a tag. -/
structure Sys2Proof.Safety.CheckedIn (j : Byte) (tag : Nat) (s : State) : Prop where
  idle : Idle s
  plan : s.selector.active.isSome = true
  tag : 1 ≤ tag ∧ tag ≤ 65535
  configured : j.toNat < s.n
  allowed : (s.attributes j.toNat).noPriority = false

/-- A check-in that calls for no early-green evaluation: REGULAR, or at a junction whose phase is not SIDE
(R94, R132). -/
def Sys2Proof.Safety.NoEvaluation (j : Byte) (cls : PriorityClass) (s : State) : Prop :=
  cls = .regular ∨ ∀ q c, s.junctions[j.toNat]? = some q → q.cycle? = some c → c.phase = .green

/-- An admitted check-in that calls for no early-green evaluation updates the record that holds its tag at the
junction, or creates one in the lowest empty slot. On a full list a LATE one takes the slot of the REGULAR record
with the latest ETA, and any other is refused TABLE_FULL. A bad one is refused as R128 orders. That the
clamp byte stands last, behind an evicted identifier, is the model's reading (log 11). -/
def Obligations.CheckInStoresRecord : Prop :=
  (∀ (j : Byte) (d : Direction) (tag : Nat) (cls : PriorityClass) (eta : Ct) (s : State) (k : Fin 16) (r : Priority),
    CheckedIn j tag s → NoEvaluation j cls s →
    let e := etaAt s.time.ct eta
    let expiry := e + BitVec.ofNat 32 s.settings.lm
    let clamp : Byte := if e = eta then 0 else 8
    let made : Priority := ⟨tag, j.toNat, d, cls, e, expiry, none⟩
    let kept : Priority := { r with dir := d, cls := cls, eta := e, expiry := expiry }
    let gen := s.priorities[k].gen
    let c : Instr := .checkIn (checkInBytes j d tag cls eta)
    (s.priorities[k].live = some r → r.tag = tag → r.junction = j.toNat →
      (∀ x ∈ s.livePriorities, x.2.tag = tag → x.2.junction = j.toNat → x.1 = k) →
      ∃ u, exec c s = .next u ∧ Answers u 0x38 .done .updated (priorityRecord k gen kept ++ [clamp]) ∧
        Frame [.priorities, .port] s u ∧
        ∀ i : Fin 16, u.priorities[i] = if i = k then { s.priorities[k] with live := some kept } else s.priorities[i]) ∧
    ((∀ x ∈ s.livePriorities, x.2.tag = tag → x.2.junction ≠ j.toNat) →
      (s.priorities[k].live = none → (∀ i : Fin 16, i < k → s.priorities[i].live.isSome = true) →
        ∃ u, exec c s = .next u ∧
          Answers u 0x38 .done (if e = eta then .none else .clamped) (priorityRecord k (gen + 1) made ++ [clamp]) ∧
          Frame [.priorities, .port] s u ∧
          ∀ i : Fin 16, u.priorities[i] = if i = k then ⟨gen + 1, some made, none⟩ else s.priorities[i]) ∧
      ((∀ i : Fin 16, s.priorities[i].live.isSome = true) → cls = .late → s.priorities[k].live = some r →
        r.cls = .regular → (∀ x ∈ s.livePriorities, x.1 ≠ k → x.2.cls = .regular →
          before x.2.eta r.eta = true ∨ (x.2.eta = r.eta ∧ x.1 < k)) →
        ∃ u, exec c s = .next u ∧
          Answers u 0x38 .done .evicted (priorityRecord k (gen + 1) made ++
            [BitVec.ofNat 8 k.val, BitVec.ofNat 8 gen.val, clamp]) ∧ Frame [.priorities, .port] s u ∧
          ∀ i : Fin 16, u.priorities[i] = if i = k then ⟨gen + 1, some made, none⟩ else s.priorities[i]) ∧
      ((∀ i : Fin 16, s.priorities[i].live.isSome = true) →
        cls = .regular ∨ (∀ x ∈ s.livePriorities, x.2.cls = .late) → Refuses c s 0x38 .tableFull []))) ∧
  ∀ (j b cb : Byte) (tag : Nat) (eta : Ct) (s : State), Idle s → tag ≤ 65535 →
    let c : Instr := .checkIn ([j, b] ++ wordOf tag ++ [cb] ++ ctOf eta)
    (s.selector.active = none → Refuses c s 0x38 .noPlan []) ∧
    (s.selector.active.isSome = true →
      (1 < b.toNat ∨ 1 < cb.toNat ∨ tag = 0 → Refuses c s 0x38 .outOfRange []) ∧
      (b.toNat ≤ 1 → cb.toNat ≤ 1 → tag ≠ 0 →
        (s.n ≤ j.toNat → Refuses c s 0x38 .notConfigured []) ∧
        (j.toNat < s.n → (s.attributes j.toNat).noPriority = true → Refuses c s 0x38 .excluded [])))

/-- Junction `j` allows an early-green evaluation (R94): coordinated and booked, phase SIDE, lockout 0, flag clear, no
NO_PRIORITY, and early shortening left. -/
structure Sys2Proof.Safety.MayShorten (j : Nat) (q : Junction) (w : Window) (c : Cycle) (s : State) : Prop where
  junction : s.junctions[j]? = some q
  window : q.state = .seek w ∨ q.state = .inStep w
  cycle : w.cycle = some c
  side : c.phase = .side
  lockout : q.lockout = 0
  granted : q.granted = false
  allowed : (s.attributes j).noPriority = false
  room : c.y < c.held.eMax

/-- A priority record is WAITING and LATE at junction `j`. -/
def Sys2Proof.Safety.WaitsLate (j : Nat) (r : Priority) : Prop := r.junction = j ∧ r.grant = none ∧ r.cls = .late

/-- Slot `k` holds the record that an early-green evaluation of junction `j` takes: of the WAITING LATE ones there the
earliest ETA, the lower slot on a tie (R94). -/
structure Sys2Proof.Safety.EarliestLate (j : Nat) (k : Fin 16) (r : Priority) (s : State) : Prop where
  live : s.priorities[k].live = some r
  waits : WaitsLate j r
  first : ∀ e ∈ s.livePriorities, e.1 ≠ k → WaitsLate j e.2 →
    before r.eta e.2.eta = true ∨ (r.eta = e.2.eta ∧ k < e.1)

/-- The early-green evaluation of junction `j`, from `s` to `t`. It takes the earliest WAITING LATE record; the new end
is the latest of the four bounds. Before the old end, the cycle ends there, the shortening is added to y, the record is
GRANTED EARLY now, the flag is set and the lockout takes the held R. In every other case junctions and records stay.
Times are given from the local cycle start (R94 to R96). -/
def Sys2Proof.Safety.EvaluatesEarly (j : Nat) (s t : State) : Prop :=
  ((∀ q w c, ¬ MayShorten j q w c s) ∨ (∀ e ∈ s.livePriorities, ¬ WaitsLate j e.2) →
    t.junctions = s.junctions ∧ t.priorities = s.priorities) ∧
  ∀ (q : Junction) (w : Window) (c : Cycle) (k : Fin 16) (r : Priority) (now green : Nat) (eta : Int),
    MayShorten j q w c s → EarliestLate j k r s →
    s.time.ct = w.start + BitVec.ofNat 32 now → now ≤ 100000 → c.greenEnd = w.start + BitVec.ofNat 32 green →
    green ≤ 100000 → r.eta = w.start + BitVec.ofInt 32 eta → -100000 ≤ eta → eta ≤ 100000 → c.lc ≤ 100000 →
    q.smin ≤ 1200 → c.held.m ≤ 50 → c.held.eMax ≤ 300 →
    let newEnd : Int := max (max (max (green + q.smin) (eta - c.held.m)) now) (c.lc - (c.held.eMax - c.y))
    (newEnd < c.lc →
      t.junctions = s.junctions.set j { q with
        state := q.state.setWindow { w with cycle := some { c with
          lc := newEnd.toNat, y := c.y + (c.lc - newEnd.toNat) } }
        lockout := c.held.r, granted := true } ∧
      ∀ i : Fin 16, t.priorities[i] = if i = k
        then { s.priorities[k] with live := some { r with grant := some (.early, s.time.ct) } } else s.priorities[i]) ∧
    (c.lc ≤ newEnd → t.junctions = s.junctions ∧ t.priorities = s.priorities)

/-- What an admitted LATE check-in puts into slot `k`, with the reason it answers and the identifier it evicts: the
update of the record of its tag at the junction (R130), a new record in the lowest empty slot, or one in the slot of the
REGULAR record with the latest ETA, the highest slot on a tie (R131). -/
inductive Sys2Proof.Safety.LatePlaced (j : Byte) (d : Direction) (tag : Nat) (eta : Ct) (s : State) (k : Fin 16) :
    Slot Priority → Reason → List Byte → Prop where
  | updated (r : Priority) : s.priorities[k].live = some r → r.tag = tag → r.junction = j.toNat →
      (∀ x ∈ s.livePriorities, x.2.tag = tag → x.2.junction = j.toNat → x.1 = k) →
      LatePlaced j d tag eta s k { s.priorities[k] with live := some { r with
        dir := d, cls := .late, eta := etaAt s.time.ct eta
        expiry := etaAt s.time.ct eta + BitVec.ofNat 32 s.settings.lm } } .updated []
  | created : (∀ x ∈ s.livePriorities, x.2.tag = tag → x.2.junction ≠ j.toNat) → s.priorities[k].live = none →
      (∀ i : Fin 16, i < k → s.priorities[i].live.isSome = true) →
      LatePlaced j d tag eta s k ⟨s.priorities[k].gen + 1, some ⟨tag, j.toNat, d, .late, etaAt s.time.ct eta,
        etaAt s.time.ct eta + BitVec.ofNat 32 s.settings.lm, none⟩, none⟩
        (if etaAt s.time.ct eta = eta then .none else .clamped) []
  | evicting (r : Priority) : (∀ x ∈ s.livePriorities, x.2.tag = tag → x.2.junction ≠ j.toNat) →
      (∀ i : Fin 16, s.priorities[i].live.isSome = true) → s.priorities[k].live = some r → r.cls = .regular →
      (∀ x ∈ s.livePriorities, x.1 ≠ k → x.2.cls = .regular →
        before x.2.eta r.eta = true ∨ (x.2.eta = r.eta ∧ x.1 < k)) →
      LatePlaced j d tag eta s k ⟨s.priorities[k].gen + 1, some ⟨tag, j.toNat, d, .late, etaAt s.time.ct eta,
        etaAt s.time.ct eta + BitVec.ofNat 32 s.settings.lm, none⟩, none⟩ .evicted
        [BitVec.ofNat 8 k.val, BitVec.ofNat 8 s.priorities[k].gen.val]

/-- The early-green evaluation is made at its two events: by every admitted LATE check-in, once its record is stored,
with a result that shows the record as the evaluation leaves it; and by a green-end check that closes the green, from
the side-time start. That the clamp byte stands last in the result is the model's reading (log 11). -/
def Obligations.EarlyGreenServesLateRecord : Prop :=
  (∀ (j : Byte) (d : Direction) (tag : Nat) (eta : Ct) (s : State) (k : Fin 16) (slot : Slot Priority) (reason : Reason)
    (evicted : List Byte),
    CheckedIn j tag s → LatePlaced j d tag eta s k slot reason evicted →
    ∃ u v shown, exec (.checkIn (checkInBytes j d tag .late eta)) s = .next u ∧
      (∀ i : Fin 16, v[i] = if i = k then slot else s.priorities[i]) ∧
      EvaluatesEarly j.toNat (s.setPriorities v) u ∧ Frame [.priorities, .junctions, .port] s u ∧
      u.priorities[k] = { slot with live := some shown } ∧
      Answers u 0x38 .done reason
        (priorityRecord k slot.gen shown ++ evicted ++ [if etaAt s.time.ct eta = eta then 0 else 8])) ∧
  ∀ (j : Fin 24) (q : Junction) (w : Window) (c : Cycle) (s : State), AtGreenEnd j q w c s → Closes j.val q c s →
    ∃ u, exec (.greenEndCheck j) s = .next u ∧ Frame [.priorities, .junctions] s u ∧
      EvaluatesEarly j.val (s.setJunctions (s.junctions.set j.val
        { q with state := q.state.setWindow { w with cycle := some { c with phase := .side } } })) u

/-- A priority record leaves by CHECK OUT, by identifier or by tag and junction, which answers it as it stood, and
which is refused where it names none; at its expiry, with PRIORITY_EXPIRED exactly when it was WAITING; and by CLEAR
RECORDS, which retires every record of both collections and answers how many. The junctions stay as they are. That an
identifier whose slot is live under another generation answers the note absent, that of an evicted record among them, is
the model's reading of R125 and R127 against the last sentence of R131 (log 20). -/
def Obligations.PriorityRecordsLeave : Prop :=
  (∀ (k : Fin 16) (r : Priority) (s : State), Running s → s.priorities[k].live = some r →
    let gen := s.priorities[k].gen
    let gone (c : RetireCause) : Slot Priority := ⟨gen, none, some ⟨gen, c, s.time.ct⟩⟩
    (Idle s →
      (∃ u, exec (.checkOut [BitVec.ofNat 8 k.val, BitVec.ofNat 8 gen.val]) s = .next u ∧
        Answers u 0x39 .done .none (priorityRecord k gen r) ∧ Frame [.priorities, .port] s u ∧
        ∀ i : Fin 16, u.priorities[i] = if i = k then gone .checkedOut else s.priorities[i]) ∧
      (1 ≤ r.tag → r.tag ≤ 65535 → r.junction < s.n → r.junction < 256 →
        (∀ x ∈ s.livePriorities, x.2.tag = r.tag → x.2.junction = r.junction → x.1 = k) →
        ∃ u, exec (.checkOut (wordOf r.tag ++ [BitVec.ofNat 8 r.junction])) s = .next u ∧
          Answers u 0x39 .done .none (priorityRecord k gen r) ∧ Frame [.priorities, .port] s u ∧
          ∀ i : Fin 16, u.priorities[i] = if i = k then gone .checkedOut else s.priorities[i])) ∧
    (r.expiry = s.time.ct → ∃ u, exec (.priorityExpiry k) s = .next u ∧
      Frame [.priorities, .latched, .pulseEnd] s u ∧
      u.alerts.latched = (if r.grant = none then s.alerts.latched ||| AlertSource.priorityExpired.only else s.alerts.latched) ∧
      ∀ i : Fin 16, u.priorities[i] = if i = k then gone .expired else s.priorities[i])) ∧
  (∀ (k : Fin 16) (gen : Fin 16) (s : State), Idle s → s.priorities[k].live = none ∨ s.priorities[k].gen ≠ gen →
    let id : List Byte := [BitVec.ofNat 8 k.val, BitVec.ofNat 8 gen.val]
    Refuses (.checkOut id) s 0x39 .staleId (stalePayloadOf s.priorities[k] gen) ∧
      Refuses (.readPriority id) s 0x3A .staleId (stalePayloadOf s.priorities[k] gen)) ∧
  (∀ (b g : Byte) (s : State), Idle s → 15 < b.toNat ∨ 15 < g.toNat →
    Refuses (.checkOut [b, g]) s 0x39 .outOfRange [] ∧ Refuses (.readPriority [b, g]) s 0x3A .outOfRange []) ∧
  (∀ (j : Byte) (s : State), Idle s → Refuses (.checkOut [0, 0, j]) s 0x39 .outOfRange []) ∧
  (∀ (tag : Nat) (j : Byte) (s : State), Idle s → 1 ≤ tag → tag ≤ 65535 →
    (s.n ≤ j.toNat → Refuses (.checkOut (wordOf tag ++ [j])) s 0x39 .notConfigured []) ∧
    (j.toNat < s.n → (∀ x ∈ s.livePriorities, x.2.tag = tag → x.2.junction ≠ j.toNat) →
      Refuses (.checkOut (wordOf tag ++ [j])) s 0x39 .noSuchRecord [])) ∧
  ∀ s : State, Idle s → ∃ u, exec (.clearRecords []) s = .next u ∧
    Answers u 0x3C .done .none [BitVec.ofNat 8 s.livePlatoons.length, BitVec.ofNat 8 s.livePriorities.length] ∧
    Frame [.platoons, .priorities, .port] s u ∧
    (∀ i : Fin 32, u.platoons[i] = if s.platoons[i].live.isSome
      then ⟨s.platoons[i].gen, none, some ⟨s.platoons[i].gen, .cleared, s.time.ct⟩⟩ else s.platoons[i]) ∧
    ∀ i : Fin 16, u.priorities[i] = if s.priorities[i].live.isSome
      then ⟨s.priorities[i].gen, none, some ⟨s.priorities[i].gen, .cleared, s.time.ct⟩⟩ else s.priorities[i]

/-! ## List sequences (sections 7.7, 8.5 and 10.4) -/

/-- The record in a slot passes a filter, with its head ETA or ETA (R123, R137). -/
def Sys2Proof.Safety.Listed (f : ListFilter) (s : State) (t : Ct) (slot : Nat) : Prop :=
  match f with
  | .platoons j d => ∃ e ∈ s.livePlatoons, (∀ x, j = some x → e.2.cur = x) ∧ (∀ x, d = some x → e.2.dir = x) ∧
      e.2.head = t ∧ e.1.val = slot
  | .priorities j => ∃ e ∈ s.livePriorities, (∀ x, j = some x → e.2.junction = x) ∧ e.2.eta = t ∧ e.1.val = slot

/-- The list order of two keys (R123, R137). -/
def Sys2Proof.Safety.KeyLess (t : Ct) (slot : Nat) (t' : Ct) (slot' : Nat) : Prop :=
  before t t' = true ∨ (t = t' ∧ slot < slot')

/-- The look-up of a listed record answers a payload (R122, R136). -/
def Sys2Proof.Safety.LooksUp (f : ListFilter) (s : State) (slot : Nat) (payload : List Byte) : Prop :=
  match f with
  | .platoons _ _ => ∀ k : Fin 32, k.val = slot → ∃ v,
      exec (.readPlatoon [BitVec.ofNat 8 k.val, BitVec.ofNat 8 s.platoons[k].gen.val]) s = .next v ∧
        Answers v 0x32 .done .none payload
  | .priorities _ => ∀ k : Fin 16, k.val = slot → ∃ v,
      exec (.readPriority [BitVec.ofNat 8 k.val, BitVec.ofNat 8 s.priorities[k].gen.val]) s = .next v ∧
        Answers v 0x3A .done .none payload

/-- A command is one step of a sequence over the keys that a test accepts: it answers the least one, as its
look-up returns it, keeping the sequence with MORE while another record follows, or closing it with END; with no
such key it answers no record and END. -/
def Sys2Proof.Safety.ListStep (c : Instr) (code : Byte) (f : ListFilter) (ok : Ct → Nat → Prop) (s : State) : Prop :=
  (∀ t slot, Listed f s t slot → ok t slot →
    (∀ t' slot', Listed f s t' slot' → ok t' slot' → (t', slot') ≠ (t, slot) → KeyLess t slot t' slot') →
    ∃ u payload more, exec c s = .next u ∧ AnswersList u code .done .none payload more (!more) ∧
      Frame [.port, .sequence] s u ∧ LooksUp f s slot payload ∧
      (more = true ↔ ∃ t' slot', Listed f s t' slot' ∧ KeyLess t slot t' slot') ∧
      u.port.sequence = if more then some ⟨f, t, slot⟩ else none) ∧
  ((∀ t slot, Listed f s t slot → ¬ ok t slot) →
    ∃ u, exec c s = .next u ∧ AnswersList u code .done .none [] false true ∧ Frame [.port, .sequence] s u ∧
      u.port.sequence = none)

/-- LIST PLATOONS and LIST PRIORITY open a sequence at its first record in list order, and CONTINUE LIST goes on
from the cursor; a refused one leaves the sequence as it was. That a list with no record left answers an empty payload
is the model's reading (log 11). -/
def Obligations.ListsFollowKeyOrder : Prop :=
  ∀ s : State, Idle s →
    (∀ (j d : Byte), j.toNat < s.n ∧ j.toNat < 24 ∨ j = 255 → d.toNat ≤ 2 →
      ListStep (.listPlatoons [j, d]) 0x34 (.platoons (if j = 255 then none else some j.toNat)
        (if d = 0 then some .inbound else if d = 1 then some .outbound else none)) (fun _ _ => True) s) ∧
    (∀ j : Byte, j.toNat < s.n ∧ j.toNat < 24 ∨ j = 255 →
      ListStep (.listPriority [j]) 0x3B (.priorities (if j = 255 then none else some j.toNat)) (fun _ _ => True) s) ∧
    (∀ q, s.port.sequence = some q →
      ListStep (.continueList []) 0x50 q.filter (fun t slot => KeyLess q.keyTime q.keySlot t slot) s) ∧
    (s.port.sequence = none → Refuses (.continueList []) s 0x50 .wrongState []) ∧
    ∀ j d : Byte,
      ((24 ≤ j.toNat ∧ j ≠ 255) ∨ 2 < d.toNat → Refuses (.listPlatoons [j, d]) s 0x34 .outOfRange []) ∧
      (24 ≤ j.toNat → j ≠ 255 → Refuses (.listPriority [j]) s 0x3B .outOfRange []) ∧
      (j.toNat < 24 → s.n ≤ j.toNat → d.toNat ≤ 2 → Refuses (.listPlatoons [j, d]) s 0x34 .notConfigured [] ∧
        Refuses (.listPriority [j]) s 0x3B .notConfigured [])

/-! ## Discrete inputs (section 9.2) -/

/-- A junction as CORRIDOR_FREE leaves it when validated (R148) or released (R149). -/
def Sys2Proof.Safety.CorridorFreeMoves (now : Ct) (v : Bool) (old q : Junction) : Prop :=
  (v = true →
    (old.state.isSeek = true ∨ old.state.isInStep = true → q = { old with state := .free .corridorFree }) ∧
    (∀ c, old.state = .free c → q = old) ∧
    ∀ a b r, old.state = .preempt a b r →
      q = { old with state := .preempt a b (if r = .seek then .corridorFree else r) }) ∧
  (v = false →
    (old.state = .free .corridorFree → q = { old with state := .seek ⟨now, 0, none⟩ }) ∧
    (old.state.isSeek = true ∨ old.state.isInStep = true → q = old) ∧
    (∀ c, c ≠ .corridorFree → old.state = .free c → q = old) ∧
    ∀ a b r, old.state = .preempt a b r →
      q = { old with state := .preempt a b (if r = .corridorFree then .seek else r) })

/-- Each input samples its own pin at a count: the sample is its raw level, one that disagrees with the validated
state starts a run or lets one run on, and one that agrees ends it. A run that has reached its time flips the
validated state and ends; the change goes to the owner of the function: none for NONE and EDIT_ENABLE, the
junctions for CORRIDOR_FREE when the corridor-wide state changes, the requested plan for PLAN_FORCE: an assertion acts
on the plan it forces, and a release makes a catch-up with its reconcile step. -/
def Obligations.InputsValidateAndAct : Prop :=
  (∀ (y : Level) (l : Vector Level 4) (s : State), Running s → NothingDue s →
    ∃ t, exec (.ctCount y l[0] l[1] l[2] l[3]) s = .next t ∧
      ∀ k : Fin 4, t.inputs[k] = { s.inputs[k] with
        raw := l[k]
        runStart :=
          if activeUnder s.inputs[k].polarity l[k] = s.inputs[k].validated then none
          else some (s.inputs[k].runStart.getD t.time.ct) }) ∧
  ∀ (k : Fin 4) (x : Ct) (s : State),
    let i := s.inputs[k]
    let v := !i.validated
    Running s → i.runStart = some x → activeUnder i.polarity i.raw = v →
    (if i.validated then i.releaseTime else i.assertTime) ≤ ahead x s.time.ct →
    ∃ t, exec (.inputValidation k) s = .next t ∧
      (∀ m : Fin 4, t.inputs[m] = if m = k then { i with validated := v, runStart := none } else s.inputs[m]) ∧
      (i.func = .none ∨ i.func = .editEnable → Frame [.inputs] s t) ∧
      (i.func = .corridorFree →
        Frame [.inputs, .junctions] s t ∧ t.n = s.n ∧
        ((∃ m : Fin 4, m ≠ k ∧ s.inputs[m].func = .corridorFree ∧ s.inputs[m].validated = true) →
          t.junctions = s.junctions) ∧
        ((∀ m : Fin 4, m ≠ k → s.inputs[m].func = .corridorFree → s.inputs[m].validated = false) →
          ∀ (j : Nat) (old q : Junction), s.junctions[j]? = some old → t.junctions[j]? = some q →
            CorridorFreeMoves s.time.ct v old q)) ∧
      ∀ p, i.func = .planForce p →
        Frame [.inputs, .selector, .junctions, .latched, .pulseEnd] s t ∧
        (v = true → t.selector.scheduled = s.selector.scheduled ∧ t.selector.lastEntry = s.selector.lastEntry ∧
          ((∀ m : Fin 4, m < k → s.inputs[m].forces = none) → t.selector.requested = p) ∧
          SelectorActs (t.selector.requested ≠ s.selector.requested) s t) ∧
        (v = false → ForceReleased k s t)

/-- An accepted SET INPUT stores the configuration and starts validation afresh; an input that was validated
active is released first, which for the only CORRIDOR_FREE input lets the junctions rejoin and for a PLAN_FORCE input
makes a catch-up. READ INPUTS then returns the bytes that were set, with plan 0 for a function other than PLAN_FORCE. A
field out of range is refused; a plan above 8 is refused under every function (log 16). The places of the function, the
polarity and the two times in READ INPUTS are the model's reading (log 11). -/
def Obligations.SetInputStoresConfiguration : Prop :=
  ∀ (i f p q a r : Byte) (s : State), Idle s → EditsOpen s →
    (4 ≤ i.toNat ∨ 3 < f.toNat ∨ 8 < p.toNat ∨ 1 < q.toNat → Refuses (.setInput [i, f, p, q, a, r]) s 0x40 .outOfRange []) ∧
    ∀ k : Fin 4, i.toNat = k.val → f.toNat ≤ 3 → p.toNat ≤ 8 → q.toNat ≤ 1 →
      ∃ t, exec (.setInput [i, f, p, q, a, r]) s = .next t ∧ Answers t 0x40 .done .none [] ∧
        (∀ m : Fin 4, t.inputs[m] = if m ≠ k then s.inputs[m] else
          { func := if f = 0 then .none else if f = 1 then .editEnable else if f = 2 then .corridorFree
              else .planForce p.toNat
            polarity := if q = 0 then .activeLow else .activeHigh
            assertTime := a.toNat, releaseTime := r.toNat, raw := s.inputs[k].raw, runStart := none
            validated := false }) ∧
        Frame [.inputs, .selector, .junctions, .latched, .pulseEnd, .port] s t ∧
        (s.inputs[k].validated = false ∨ s.inputs[k].func = .none ∨ s.inputs[k].func = .editEnable →
          Frame [.inputs, .port] s t) ∧
        (s.inputs[k].validated = true → s.inputs[k].func = .corridorFree →
          (∀ m : Fin 4, m ≠ k → s.inputs[m].func = .corridorFree → s.inputs[m].validated = false) →
          Frame [.inputs, .junctions, .port] s t ∧
          ∀ (j : Nat) (old w : Junction), s.junctions[j]? = some old → t.junctions[j]? = some w →
            CorridorFreeMoves s.time.ct false old w) ∧
        (∀ x, s.inputs[k].validated = true → s.inputs[k].func = .planForce x → ForceReleased k s t) ∧
        ∃ u payload, exec (.readInputs []) (released t) = .next u ∧ Answers u 0x41 .done .none payload ∧
          slice payload (1 + 2 * k.val) 2 = [f, if f = 3 then p else 0] ∧ slice payload (9 + k.val) 1 = [q] ∧
          slice payload (13 + k.val) 1 = [a] ∧ slice payload (17 + k.val) 1 = [r]

/-! ## Alerts and the edit lock (chapter 11 and section 10.5) -/

/-- READ ALERTS answers the pending set, whose bits are those of 12.1, and the unit's configuration. A level source is
pending while its condition holds, RESULT_READY exactly while the port is in RESULT; W is set when a pending source is in
the W mask, F when one is in the F mask or a junction is in FREE(FAULT). SET ALERT CONFIG writes it whole and re-evaluates the pulse: a change that leaves PULSE mode or the global enable ends it,
and a source that joins starts one. ACKNOWLEDGE ALERTS clears the latched sources of its mask and answers which.
LOCK EDITS sets the edit lock once. A set with a bit above 12 or an undefined byte is refused. That a change which
empties the active set in PULSE mode keeps a pulse that runs is the model's reading (log 10). -/
def Obligations.AlertRequestsAct : Prop :=
  (∀ s : State, Idle s → ∃ t, exec (.readAlerts []) s = .next t ∧ Frame [.port] s t ∧
    Answers t 0x48 .done .none (wordOf s.pendingSet.toNat ++ wordOf s.alerts.latched.toNat ++
      wordOf s.alerts.enable.toNat ++ [BitVec.ofNat 8 s.alerts.global.toNat, if s.alerts.mode = .level then 0 else 1] ++
      wordOf s.alerts.wMask.toNat ++ wordOf s.alerts.fMask.toNat ++ [BitVec.ofNat 8 s.alertPin.toNat]) ∧
    s.pendingSet.getLsbD 4 = s.alerts.latched.getLsbD 4) ∧
  (∀ s : State, s.pendingSet.getLsbD 0 = (!s.time.clock.valid || s.alerts.latched.getLsbD 0) ∧
    s.pendingSet.getLsbD 1 = (s.time.syncLost || s.alerts.latched.getLsbD 1) ∧
    s.pendingSet.getLsbD 2 = (s.junctions.any (fun j => j.state == .free .fault) || s.alerts.latched.getLsbD 2) ∧
    s.pendingSet.getLsbD 3 = (s.junctions.any (fun j => j.state.isPreempt) || s.alerts.latched.getLsbD 3) ∧
    (∀ f, s.port.state = .result f → s.pendingSet.getLsbD 4 = true) ∧
    ((∀ f, s.port.state ≠ .result f) → s.pendingSet.getLsbD 4 = s.alerts.latched.getLsbD 4) ∧
    (AlertsOk s → (s.pendingSet.getLsbD 4 = true ↔ ∃ f, s.port.state = .result f)) ∧
    (∀ b, 5 ≤ b → s.pendingSet.getLsbD b = s.alerts.latched.getLsbD b) ∧
    (s.wFlag = true ↔ ∃ b, b < 13 ∧ s.pendingSet.getLsbD b = true ∧ s.alerts.wMask.getLsbD b = true) ∧
    (s.fFlag = true ↔ (∃ b, b < 13 ∧ s.pendingSet.getLsbD b = true ∧ s.alerts.fMask.getLsbD b = true) ∨
      ∃ j ∈ s.junctions, j.state = .free .fault) ∧
    s.activeSet = (if s.alerts.global then s.pendingSet &&& s.alerts.enable else 0) ∧
    (Running s → s.alertPin = (if s.alerts.mode = .level then s.activeSet != 0 else s.alerts.pulseEnd.isSome))) ∧
  (∀ (e w f : BitVec 13) (g m : Byte) (s : State), Idle s → g.toNat ≤ 1 → m.toNat ≤ 1 →
    ∃ t, exec (.setAlertConfig (wordOf e.toNat ++ [g, m] ++ wordOf w.toNat ++ wordOf f.toNat)) s = .next t ∧
      Answers t 0x49 .done .none [] ∧ Frame [.alertConfig, .pulseEnd, .port] s t ∧
      t.alerts = { s.alerts with
        enable := e, global := g == 1, mode := if m = 0 then .level else .pulse, wMask := w, fMask := f
        pulseEnd :=
          if g = 0 ∨ m = 0 then none
          else if t.activeSet &&& ~~~s.activeSet ≠ 0 then some (s.time.ct + 1) else s.alerts.pulseEnd }) ∧
  (∀ (m : BitVec 13) (s : State), Idle s →
    ∃ t, exec (.acknowledgeAlerts (wordOf m.toNat)) s = .next t ∧
      Answers t 0x4A .done .none (wordOf (s.alerts.latched &&& m).toNat) ∧ Frame [.latched, .port] s t ∧
      t.alerts.latched = s.alerts.latched &&& ~~~m) ∧
  (∀ (e1 e0 g m w1 w0 f1 f0 : Byte) (s : State), Idle s →
    32 ≤ e1.toNat ∨ 1 < g.toNat ∨ 1 < m.toNat ∨ 32 ≤ w1.toNat ∨ 32 ≤ f1.toNat →
    Refuses (.setAlertConfig [e1, e0, g, m, w1, w0, f1, f0]) s 0x49 .outOfRange []) ∧
  (∀ (m1 m0 : Byte) (s : State), Idle s → 32 ≤ m1.toNat →
    Refuses (.acknowledgeAlerts [m1, m0]) s 0x4A .outOfRange []) ∧
  ∀ s : State, Idle s → ∃ t, exec (.lockEdits []) s = .next t ∧
    Answers t 0x51 .done (if s.port.editLock then .noChange else .none) [] ∧ Frame [.editLock, .port] s t ∧
    t.port.editLock = true
end

