-- ==== Sys2Proof/Laws/State.lean ====
section
/-! SUPPORT. One lemma for each field of State under each of its updates, true by rfl, so that no later proof
unfolds a record update; and two updates of one field make one. -/

namespace Sys2Proof.Machine

/-! ### State.setInReset -/

section

variable (s : State) (v : Bool)

@[simp] theorem State.setInReset_inReset : (s.setInReset v).inReset = v := rfl
@[simp] theorem State.setInReset_time : (s.setInReset v).time = s.time := rfl
@[simp] theorem State.setInReset_settings : (s.setInReset v).settings = s.settings := rfl
@[simp] theorem State.setInReset_groups : (s.setInReset v).groups = s.groups := rfl
@[simp] theorem State.setInReset_junctions : (s.setInReset v).junctions = s.junctions := rfl
@[simp] theorem State.setInReset_plans : (s.setInReset v).plans = s.plans := rfl
@[simp] theorem State.setInReset_selector : (s.setInReset v).selector = s.selector := rfl
@[simp] theorem State.setInReset_platoons : (s.setInReset v).platoons = s.platoons := rfl
@[simp] theorem State.setInReset_priorities : (s.setInReset v).priorities = s.priorities := rfl
@[simp] theorem State.setInReset_inputs : (s.setInReset v).inputs = s.inputs := rfl
@[simp] theorem State.setInReset_blink : (s.setInReset v).blink = s.blink := rfl
@[simp] theorem State.setInReset_port : (s.setInReset v).port = s.port := rfl
@[simp] theorem State.setInReset_alerts : (s.setInReset v).alerts = s.alerts := rfl
@[simp] theorem State.setInReset_pending : (s.setInReset v).pending = s.pending := rfl
@[simp] theorem State.setInReset_setInReset (w : Bool) : (s.setInReset v).setInReset w = s.setInReset w := rfl

end

/-! ### State.setTime -/

section

variable (s : State) (v : TimeBase)

@[simp] theorem State.setTime_inReset : (s.setTime v).inReset = s.inReset := rfl
@[simp] theorem State.setTime_time : (s.setTime v).time = v := rfl
@[simp] theorem State.setTime_settings : (s.setTime v).settings = s.settings := rfl
@[simp] theorem State.setTime_groups : (s.setTime v).groups = s.groups := rfl
@[simp] theorem State.setTime_junctions : (s.setTime v).junctions = s.junctions := rfl
@[simp] theorem State.setTime_plans : (s.setTime v).plans = s.plans := rfl
@[simp] theorem State.setTime_selector : (s.setTime v).selector = s.selector := rfl
@[simp] theorem State.setTime_platoons : (s.setTime v).platoons = s.platoons := rfl
@[simp] theorem State.setTime_priorities : (s.setTime v).priorities = s.priorities := rfl
@[simp] theorem State.setTime_inputs : (s.setTime v).inputs = s.inputs := rfl
@[simp] theorem State.setTime_blink : (s.setTime v).blink = s.blink := rfl
@[simp] theorem State.setTime_port : (s.setTime v).port = s.port := rfl
@[simp] theorem State.setTime_alerts : (s.setTime v).alerts = s.alerts := rfl
@[simp] theorem State.setTime_pending : (s.setTime v).pending = s.pending := rfl
@[simp] theorem State.setTime_setTime (w : TimeBase) : (s.setTime v).setTime w = s.setTime w := rfl

end

/-! ### State.setSettings -/

section

variable (s : State) (v : Settings)

@[simp] theorem State.setSettings_inReset : (s.setSettings v).inReset = s.inReset := rfl
@[simp] theorem State.setSettings_time : (s.setSettings v).time = s.time := rfl
@[simp] theorem State.setSettings_settings : (s.setSettings v).settings = v := rfl
@[simp] theorem State.setSettings_groups : (s.setSettings v).groups = s.groups := rfl
@[simp] theorem State.setSettings_junctions : (s.setSettings v).junctions = s.junctions := rfl
@[simp] theorem State.setSettings_plans : (s.setSettings v).plans = s.plans := rfl
@[simp] theorem State.setSettings_selector : (s.setSettings v).selector = s.selector := rfl
@[simp] theorem State.setSettings_platoons : (s.setSettings v).platoons = s.platoons := rfl
@[simp] theorem State.setSettings_priorities : (s.setSettings v).priorities = s.priorities := rfl
@[simp] theorem State.setSettings_inputs : (s.setSettings v).inputs = s.inputs := rfl
@[simp] theorem State.setSettings_blink : (s.setSettings v).blink = s.blink := rfl
@[simp] theorem State.setSettings_port : (s.setSettings v).port = s.port := rfl
@[simp] theorem State.setSettings_alerts : (s.setSettings v).alerts = s.alerts := rfl
@[simp] theorem State.setSettings_pending : (s.setSettings v).pending = s.pending := rfl
@[simp] theorem State.setSettings_setSettings (w : Settings) : (s.setSettings v).setSettings w = s.setSettings w := rfl

end

/-! ### State.setGroups -/

section

variable (s : State) (v : Vector GroupRange Config.groupCount)

@[simp] theorem State.setGroups_inReset : (s.setGroups v).inReset = s.inReset := rfl
@[simp] theorem State.setGroups_time : (s.setGroups v).time = s.time := rfl
@[simp] theorem State.setGroups_settings : (s.setGroups v).settings = s.settings := rfl
@[simp] theorem State.setGroups_groups : (s.setGroups v).groups = v := rfl
@[simp] theorem State.setGroups_junctions : (s.setGroups v).junctions = s.junctions := rfl
@[simp] theorem State.setGroups_plans : (s.setGroups v).plans = s.plans := rfl
@[simp] theorem State.setGroups_selector : (s.setGroups v).selector = s.selector := rfl
@[simp] theorem State.setGroups_platoons : (s.setGroups v).platoons = s.platoons := rfl
@[simp] theorem State.setGroups_priorities : (s.setGroups v).priorities = s.priorities := rfl
@[simp] theorem State.setGroups_inputs : (s.setGroups v).inputs = s.inputs := rfl
@[simp] theorem State.setGroups_blink : (s.setGroups v).blink = s.blink := rfl
@[simp] theorem State.setGroups_port : (s.setGroups v).port = s.port := rfl
@[simp] theorem State.setGroups_alerts : (s.setGroups v).alerts = s.alerts := rfl
@[simp] theorem State.setGroups_pending : (s.setGroups v).pending = s.pending := rfl
@[simp] theorem State.setGroups_setGroups (w : Vector GroupRange Config.groupCount) : (s.setGroups v).setGroups w = s.setGroups w := rfl

end

/-! ### State.setJunctions -/

section

variable (s : State) (v : List Junction)

@[simp] theorem State.setJunctions_inReset : (s.setJunctions v).inReset = s.inReset := rfl
@[simp] theorem State.setJunctions_time : (s.setJunctions v).time = s.time := rfl
@[simp] theorem State.setJunctions_settings : (s.setJunctions v).settings = s.settings := rfl
@[simp] theorem State.setJunctions_groups : (s.setJunctions v).groups = s.groups := rfl
@[simp] theorem State.setJunctions_junctions : (s.setJunctions v).junctions = v := rfl
@[simp] theorem State.setJunctions_plans : (s.setJunctions v).plans = s.plans := rfl
@[simp] theorem State.setJunctions_selector : (s.setJunctions v).selector = s.selector := rfl
@[simp] theorem State.setJunctions_platoons : (s.setJunctions v).platoons = s.platoons := rfl
@[simp] theorem State.setJunctions_priorities : (s.setJunctions v).priorities = s.priorities := rfl
@[simp] theorem State.setJunctions_inputs : (s.setJunctions v).inputs = s.inputs := rfl
@[simp] theorem State.setJunctions_blink : (s.setJunctions v).blink = s.blink := rfl
@[simp] theorem State.setJunctions_port : (s.setJunctions v).port = s.port := rfl
@[simp] theorem State.setJunctions_alerts : (s.setJunctions v).alerts = s.alerts := rfl
@[simp] theorem State.setJunctions_pending : (s.setJunctions v).pending = s.pending := rfl
@[simp] theorem State.setJunctions_setJunctions (w : List Junction) : (s.setJunctions v).setJunctions w = s.setJunctions w := rfl

end

/-! ### State.setPlans -/

section

variable (s : State) (v : Vector (Option Plan) Config.planCount)

@[simp] theorem State.setPlans_inReset : (s.setPlans v).inReset = s.inReset := rfl
@[simp] theorem State.setPlans_time : (s.setPlans v).time = s.time := rfl
@[simp] theorem State.setPlans_settings : (s.setPlans v).settings = s.settings := rfl
@[simp] theorem State.setPlans_groups : (s.setPlans v).groups = s.groups := rfl
@[simp] theorem State.setPlans_junctions : (s.setPlans v).junctions = s.junctions := rfl
@[simp] theorem State.setPlans_plans : (s.setPlans v).plans = v := rfl
@[simp] theorem State.setPlans_selector : (s.setPlans v).selector = s.selector := rfl
@[simp] theorem State.setPlans_platoons : (s.setPlans v).platoons = s.platoons := rfl
@[simp] theorem State.setPlans_priorities : (s.setPlans v).priorities = s.priorities := rfl
@[simp] theorem State.setPlans_inputs : (s.setPlans v).inputs = s.inputs := rfl
@[simp] theorem State.setPlans_blink : (s.setPlans v).blink = s.blink := rfl
@[simp] theorem State.setPlans_port : (s.setPlans v).port = s.port := rfl
@[simp] theorem State.setPlans_alerts : (s.setPlans v).alerts = s.alerts := rfl
@[simp] theorem State.setPlans_pending : (s.setPlans v).pending = s.pending := rfl
@[simp] theorem State.setPlans_setPlans (w : Vector (Option Plan) Config.planCount) : (s.setPlans v).setPlans w = s.setPlans w := rfl

end

/-! ### State.setSelector -/

section

variable (s : State) (v : Selector)

@[simp] theorem State.setSelector_inReset : (s.setSelector v).inReset = s.inReset := rfl
@[simp] theorem State.setSelector_time : (s.setSelector v).time = s.time := rfl
@[simp] theorem State.setSelector_settings : (s.setSelector v).settings = s.settings := rfl
@[simp] theorem State.setSelector_groups : (s.setSelector v).groups = s.groups := rfl
@[simp] theorem State.setSelector_junctions : (s.setSelector v).junctions = s.junctions := rfl
@[simp] theorem State.setSelector_plans : (s.setSelector v).plans = s.plans := rfl
@[simp] theorem State.setSelector_selector : (s.setSelector v).selector = v := rfl
@[simp] theorem State.setSelector_platoons : (s.setSelector v).platoons = s.platoons := rfl
@[simp] theorem State.setSelector_priorities : (s.setSelector v).priorities = s.priorities := rfl
@[simp] theorem State.setSelector_inputs : (s.setSelector v).inputs = s.inputs := rfl
@[simp] theorem State.setSelector_blink : (s.setSelector v).blink = s.blink := rfl
@[simp] theorem State.setSelector_port : (s.setSelector v).port = s.port := rfl
@[simp] theorem State.setSelector_alerts : (s.setSelector v).alerts = s.alerts := rfl
@[simp] theorem State.setSelector_pending : (s.setSelector v).pending = s.pending := rfl
@[simp] theorem State.setSelector_setSelector (w : Selector) : (s.setSelector v).setSelector w = s.setSelector w := rfl

end

/-! ### State.setPlatoons -/

section

variable (s : State) (v : Vector (Slot Platoon) Config.platoonSlots)

@[simp] theorem State.setPlatoons_inReset : (s.setPlatoons v).inReset = s.inReset := rfl
@[simp] theorem State.setPlatoons_time : (s.setPlatoons v).time = s.time := rfl
@[simp] theorem State.setPlatoons_settings : (s.setPlatoons v).settings = s.settings := rfl
@[simp] theorem State.setPlatoons_groups : (s.setPlatoons v).groups = s.groups := rfl
@[simp] theorem State.setPlatoons_junctions : (s.setPlatoons v).junctions = s.junctions := rfl
@[simp] theorem State.setPlatoons_plans : (s.setPlatoons v).plans = s.plans := rfl
@[simp] theorem State.setPlatoons_selector : (s.setPlatoons v).selector = s.selector := rfl
@[simp] theorem State.setPlatoons_platoons : (s.setPlatoons v).platoons = v := rfl
@[simp] theorem State.setPlatoons_priorities : (s.setPlatoons v).priorities = s.priorities := rfl
@[simp] theorem State.setPlatoons_inputs : (s.setPlatoons v).inputs = s.inputs := rfl
@[simp] theorem State.setPlatoons_blink : (s.setPlatoons v).blink = s.blink := rfl
@[simp] theorem State.setPlatoons_port : (s.setPlatoons v).port = s.port := rfl
@[simp] theorem State.setPlatoons_alerts : (s.setPlatoons v).alerts = s.alerts := rfl
@[simp] theorem State.setPlatoons_pending : (s.setPlatoons v).pending = s.pending := rfl
@[simp] theorem State.setPlatoons_setPlatoons (w : Vector (Slot Platoon) Config.platoonSlots) : (s.setPlatoons v).setPlatoons w = s.setPlatoons w := rfl

end

/-! ### State.setPriorities -/

section

variable (s : State) (v : Vector (Slot Priority) Config.prioritySlots)

@[simp] theorem State.setPriorities_inReset : (s.setPriorities v).inReset = s.inReset := rfl
@[simp] theorem State.setPriorities_time : (s.setPriorities v).time = s.time := rfl
@[simp] theorem State.setPriorities_settings : (s.setPriorities v).settings = s.settings := rfl
@[simp] theorem State.setPriorities_groups : (s.setPriorities v).groups = s.groups := rfl
@[simp] theorem State.setPriorities_junctions : (s.setPriorities v).junctions = s.junctions := rfl
@[simp] theorem State.setPriorities_plans : (s.setPriorities v).plans = s.plans := rfl
@[simp] theorem State.setPriorities_selector : (s.setPriorities v).selector = s.selector := rfl
@[simp] theorem State.setPriorities_platoons : (s.setPriorities v).platoons = s.platoons := rfl
@[simp] theorem State.setPriorities_priorities : (s.setPriorities v).priorities = v := rfl
@[simp] theorem State.setPriorities_inputs : (s.setPriorities v).inputs = s.inputs := rfl
@[simp] theorem State.setPriorities_blink : (s.setPriorities v).blink = s.blink := rfl
@[simp] theorem State.setPriorities_port : (s.setPriorities v).port = s.port := rfl
@[simp] theorem State.setPriorities_alerts : (s.setPriorities v).alerts = s.alerts := rfl
@[simp] theorem State.setPriorities_pending : (s.setPriorities v).pending = s.pending := rfl
@[simp] theorem State.setPriorities_setPriorities (w : Vector (Slot Priority) Config.prioritySlots) : (s.setPriorities v).setPriorities w = s.setPriorities w := rfl

end

/-! ### State.setInputs -/

section

variable (s : State) (v : Vector Input Config.inputCount)

@[simp] theorem State.setInputs_inReset : (s.setInputs v).inReset = s.inReset := rfl
@[simp] theorem State.setInputs_time : (s.setInputs v).time = s.time := rfl
@[simp] theorem State.setInputs_settings : (s.setInputs v).settings = s.settings := rfl
@[simp] theorem State.setInputs_groups : (s.setInputs v).groups = s.groups := rfl
@[simp] theorem State.setInputs_junctions : (s.setInputs v).junctions = s.junctions := rfl
@[simp] theorem State.setInputs_plans : (s.setInputs v).plans = s.plans := rfl
@[simp] theorem State.setInputs_selector : (s.setInputs v).selector = s.selector := rfl
@[simp] theorem State.setInputs_platoons : (s.setInputs v).platoons = s.platoons := rfl
@[simp] theorem State.setInputs_priorities : (s.setInputs v).priorities = s.priorities := rfl
@[simp] theorem State.setInputs_inputs : (s.setInputs v).inputs = v := rfl
@[simp] theorem State.setInputs_blink : (s.setInputs v).blink = s.blink := rfl
@[simp] theorem State.setInputs_port : (s.setInputs v).port = s.port := rfl
@[simp] theorem State.setInputs_alerts : (s.setInputs v).alerts = s.alerts := rfl
@[simp] theorem State.setInputs_pending : (s.setInputs v).pending = s.pending := rfl
@[simp] theorem State.setInputs_setInputs (w : Vector Input Config.inputCount) : (s.setInputs v).setInputs w = s.setInputs w := rfl

end

/-! ### State.setBlink -/

section

variable (s : State) (v : Fin 8)

@[simp] theorem State.setBlink_inReset : (s.setBlink v).inReset = s.inReset := rfl
@[simp] theorem State.setBlink_time : (s.setBlink v).time = s.time := rfl
@[simp] theorem State.setBlink_settings : (s.setBlink v).settings = s.settings := rfl
@[simp] theorem State.setBlink_groups : (s.setBlink v).groups = s.groups := rfl
@[simp] theorem State.setBlink_junctions : (s.setBlink v).junctions = s.junctions := rfl
@[simp] theorem State.setBlink_plans : (s.setBlink v).plans = s.plans := rfl
@[simp] theorem State.setBlink_selector : (s.setBlink v).selector = s.selector := rfl
@[simp] theorem State.setBlink_platoons : (s.setBlink v).platoons = s.platoons := rfl
@[simp] theorem State.setBlink_priorities : (s.setBlink v).priorities = s.priorities := rfl
@[simp] theorem State.setBlink_inputs : (s.setBlink v).inputs = s.inputs := rfl
@[simp] theorem State.setBlink_blink : (s.setBlink v).blink = v := rfl
@[simp] theorem State.setBlink_port : (s.setBlink v).port = s.port := rfl
@[simp] theorem State.setBlink_alerts : (s.setBlink v).alerts = s.alerts := rfl
@[simp] theorem State.setBlink_pending : (s.setBlink v).pending = s.pending := rfl
@[simp] theorem State.setBlink_setBlink (w : Fin 8) : (s.setBlink v).setBlink w = s.setBlink w := rfl

end

/-! ### State.setPort -/

section

variable (s : State) (v : Port)

@[simp] theorem State.setPort_inReset : (s.setPort v).inReset = s.inReset := rfl
@[simp] theorem State.setPort_time : (s.setPort v).time = s.time := rfl
@[simp] theorem State.setPort_settings : (s.setPort v).settings = s.settings := rfl
@[simp] theorem State.setPort_groups : (s.setPort v).groups = s.groups := rfl
@[simp] theorem State.setPort_junctions : (s.setPort v).junctions = s.junctions := rfl
@[simp] theorem State.setPort_plans : (s.setPort v).plans = s.plans := rfl
@[simp] theorem State.setPort_selector : (s.setPort v).selector = s.selector := rfl
@[simp] theorem State.setPort_platoons : (s.setPort v).platoons = s.platoons := rfl
@[simp] theorem State.setPort_priorities : (s.setPort v).priorities = s.priorities := rfl
@[simp] theorem State.setPort_inputs : (s.setPort v).inputs = s.inputs := rfl
@[simp] theorem State.setPort_blink : (s.setPort v).blink = s.blink := rfl
@[simp] theorem State.setPort_port : (s.setPort v).port = v := rfl
@[simp] theorem State.setPort_alerts : (s.setPort v).alerts = s.alerts := rfl
@[simp] theorem State.setPort_pending : (s.setPort v).pending = s.pending := rfl
@[simp] theorem State.setPort_setPort (w : Port) : (s.setPort v).setPort w = s.setPort w := rfl

end

/-! ### State.setAlerts -/

section

variable (s : State) (v : Alerts)

@[simp] theorem State.setAlerts_inReset : (s.setAlerts v).inReset = s.inReset := rfl
@[simp] theorem State.setAlerts_time : (s.setAlerts v).time = s.time := rfl
@[simp] theorem State.setAlerts_settings : (s.setAlerts v).settings = s.settings := rfl
@[simp] theorem State.setAlerts_groups : (s.setAlerts v).groups = s.groups := rfl
@[simp] theorem State.setAlerts_junctions : (s.setAlerts v).junctions = s.junctions := rfl
@[simp] theorem State.setAlerts_plans : (s.setAlerts v).plans = s.plans := rfl
@[simp] theorem State.setAlerts_selector : (s.setAlerts v).selector = s.selector := rfl
@[simp] theorem State.setAlerts_platoons : (s.setAlerts v).platoons = s.platoons := rfl
@[simp] theorem State.setAlerts_priorities : (s.setAlerts v).priorities = s.priorities := rfl
@[simp] theorem State.setAlerts_inputs : (s.setAlerts v).inputs = s.inputs := rfl
@[simp] theorem State.setAlerts_blink : (s.setAlerts v).blink = s.blink := rfl
@[simp] theorem State.setAlerts_port : (s.setAlerts v).port = s.port := rfl
@[simp] theorem State.setAlerts_alerts : (s.setAlerts v).alerts = v := rfl
@[simp] theorem State.setAlerts_pending : (s.setAlerts v).pending = s.pending := rfl
@[simp] theorem State.setAlerts_setAlerts (w : Alerts) : (s.setAlerts v).setAlerts w = s.setAlerts w := rfl

end

/-! ### State.setPending -/

section

variable (s : State) (v : List Instr)

@[simp] theorem State.setPending_inReset : (s.setPending v).inReset = s.inReset := rfl
@[simp] theorem State.setPending_time : (s.setPending v).time = s.time := rfl
@[simp] theorem State.setPending_settings : (s.setPending v).settings = s.settings := rfl
@[simp] theorem State.setPending_groups : (s.setPending v).groups = s.groups := rfl
@[simp] theorem State.setPending_junctions : (s.setPending v).junctions = s.junctions := rfl
@[simp] theorem State.setPending_plans : (s.setPending v).plans = s.plans := rfl
@[simp] theorem State.setPending_selector : (s.setPending v).selector = s.selector := rfl
@[simp] theorem State.setPending_platoons : (s.setPending v).platoons = s.platoons := rfl
@[simp] theorem State.setPending_priorities : (s.setPending v).priorities = s.priorities := rfl
@[simp] theorem State.setPending_inputs : (s.setPending v).inputs = s.inputs := rfl
@[simp] theorem State.setPending_blink : (s.setPending v).blink = s.blink := rfl
@[simp] theorem State.setPending_port : (s.setPending v).port = s.port := rfl
@[simp] theorem State.setPending_alerts : (s.setPending v).alerts = s.alerts := rfl
@[simp] theorem State.setPending_pending : (s.setPending v).pending = v := rfl
@[simp] theorem State.setPending_setPending (w : List Instr) : (s.setPending v).setPending w = s.setPending w := rfl

end

end Sys2Proof.Machine
end

