-- ==== Sys2Proof/Laws/Ops.lean ====
section
/-! SUPPORT. The laws of the shared operations over times, tables, record slots and junctions: for each of
them what it can do, said once. -/

namespace Sys2Proof.Machine

/-! ## The hold in reset (R174) -/

/-- A part that runs takes the command. -/
theorem run_of_running {s : State} (h : s.inReset = false) (f : State → State) : run f s = .next (f s) := by
  simp [run, h]

/-- A part held in reset is left as it is. -/
theorem run_of_held {s : State} (h : s.inReset = true) (f : State → State) : run f s = .next s := by
  simp [run, h]

/-- Everything a command other than RESET can do: it answers a next state, the state as it was or its effect. -/
theorem run_cases (f : State → State) (s : State) :
    (s.inReset = true ∧ run f s = .next s) ∨ (s.inReset = false ∧ run f s = .next (f s)) := by
  cases h : s.inReset with
  | true => exact .inl ⟨rfl, run_of_held h f⟩
  | false => exact .inr ⟨rfl, run_of_running h f⟩

/-- Held in reset, the part releases ALERT, holds STATUS low and drives no data out (R174). -/
theorem outputs_of_held {s : State} (h : s.inReset = true) (cs : Level) :
    s.alertPin = false ∧ s.lampOn = false ∧ s.sdoDriven cs = false := by
  simp [State.alertPin, State.lampOn, State.sdoDriven, h]

/-- While the part runs, its outputs follow the alert unit, the STATUS pattern and chip select. -/
theorem outputs_of_running {s : State} (h : s.inReset = false) (cs : Level) :
    s.alertPin = s.alertWanted ∧ s.lampOn = s.patternOn ∧ s.sdoDriven cs = (cs == .low) := by
  simp [State.alertPin, State.lampOn, State.sdoDriven, h]

/-! ## Corridor time (R2) -/

@[simp] theorem ahead_self (a : Ct) : ahead a a = 0 := by simp [ahead]

/-- A stored time that is now has been reached. -/
@[simp] theorem atOrBefore_self (a : Ct) : atOrBefore a a = true := by simp [atOrBefore]

@[simp] theorem before_self (a : Ct) : before a a = false := by simp [before]

/-- Of two times at most one is before the other (R2). -/
theorem before_asymm {a b : Ct} (h : before a b = true) : before b a = false := by
  rw [before, Bool.and_eq_true] at h
  have h1 := of_decide_eq_true h.1
  have h2 := of_decide_eq_true h.2
  have h3 : ¬ahead b a ≤ 2147483647 := by
    simp only [ahead] at h1 h2 ⊢
    bv_omega
  rw [before, Bool.and_eq_false_iff]
  exact .inr (decide_eq_false h3)

/-- The duration to a time given as an offset from it. -/
theorem ahead_add (a : Ct) (d : Nat) (h : d < 4294967296) : ahead a (plus a d) = d := by
  simp only [ahead, plus]
  bv_omega

/-! ## Tables -/

/-- A table with one entry replaced, read. -/
theorem put_get {α : Type} {n : Nat} (v : Vector α n) (k : Fin n) (x : α) (i : Fin n) :
    (put v k x)[i] = if i = k then x else v[i] := by
  by_cases h : i = k
  · subst h; simp [put]
  · have : k.val ≠ i.val := fun e => h (Fin.ext e.symm)
    simp [put, h, Vector.getElem_set_ne, this]

/-- A function applied to every entry of a table, read. -/
theorem mapTable_get {α β : Type} {n : Nat} (f : α → β) (v : Vector α n) (i : Fin n) :
    (mapTable f v)[i] = f v[i] := by
  simp [mapTable]

/-- The index function answers exactly the numbers below its bound. -/
theorem index?_eq_some {n i : Nat} {k : Fin n} : index? n i = some k ↔ i = k.val := by
  simp only [index?]
  split
  · simp [Fin.ext_iff]
  · simp only [reduceCtorEq, false_iff]; omega

/-- The best of a list is a given element when that one beats every other and is beaten by none. -/
theorem best_of_beats {α : Type} {beats : α → α → Bool} {x : α} {l : List α} (hx : x ∈ l)
    (h : ∀ y ∈ l, y ≠ x → beats x y = true ∧ beats y x = false) (hs : beats x x = false) :
    best beats l = some x := by
  have stay : ∀ l : List α, (∀ y ∈ l, y ≠ x → beats x y = true ∧ beats y x = false) →
      l.foldl (fun b y => if beats y b then y else b) x = x := by
    intro l
    induction l with
    | nil => intro _; rfl
    | cons y ys ih =>
      intro hl
      have : beats y x = false := by
        by_cases e : y = x
        · subst e; exact hs
        · exact (hl y (by simp) e).2
      simp only [List.foldl_cons, this]
      exact ih fun z hz => hl z (by simp [hz])
  have run : ∀ (l : List α) (b : α), x ∈ l → b ≠ x → beats x b = true →
      (∀ y ∈ l, y ≠ x → beats x y = true ∧ beats y x = false) →
      l.foldl (fun b y => if beats y b then y else b) b = x := by
    intro l
    induction l with
    | nil => intro b hm; simp at hm
    | cons y ys ih =>
      intro b hm hb hxb hl
      have hys : ∀ z ∈ ys, z ≠ x → beats x z = true ∧ beats z x = false := fun z hz => hl z (by simp [hz])
      by_cases e : y = x
      · subst e
        simp only [List.foldl_cons, hxb]
        exact stay ys hys
      · have hmem : x ∈ ys := by
          rcases List.mem_cons.mp hm with h1 | h1
          · exact absurd h1.symm e
          · exact h1
        simp only [List.foldl_cons]
        by_cases c : beats y b = true
        · simp only [c, if_true]; exact ih y hmem e (hl y (by simp) e).1 hys
        · simp only [c]; exact ih b hmem hb hxb hys
  cases l with
  | nil => simp at hx
  | cons y ys =>
    simp only [best]
    have hys : ∀ z ∈ ys, z ≠ x → beats x z = true ∧ beats z x = false := fun z hz => h z (by simp [hz])
    by_cases e : y = x
    · subst e; rw [stay ys hys]
    · rcases List.mem_cons.mp hx with h1 | h1
      · exact absurd h1.symm e
      · rw [run ys y h1 e (h y (by simp) e).1 hys]

/-! ## Record slots (R102 to R104, R125) -/

/-- The live records are the slots that hold one. -/
theorem mem_lives {α : Type} {n : Nat} {v : Vector (Slot α) n} {k : Fin n} {r : α} :
    (k, r) ∈ lives v ↔ v[k].live = some r := by
  simp only [lives, List.mem_filterMap, List.mem_finRange, true_and, Option.map_eq_some_iff, Prod.mk.injEq]
  constructor
  · rintro ⟨a, b, hb, rfl, rfl⟩; exact hb
  · intro h; exact ⟨k, r, h, rfl, rfl⟩

/-- No record is live exactly when every slot is empty. -/
theorem lives_eq_nil {α : Type} {n : Nat} {v : Vector (Slot α) n} :
    lives v = [] ↔ ∀ k : Fin n, v[k].live = none := by
  constructor
  · intro h k
    cases hk : v[k].live with
    | none => rfl
    | some r =>
      have : (k, r) ∈ lives v := mem_lives.mpr hk
      simp [h] at this
  · intro h
    apply List.eq_nil_iff_forall_not_mem.mpr
    rintro ⟨k, r⟩ hm
    have hl := mem_lives.mp hm
    rw [h k] at hl
    cases hl

/-- The lowest empty slot is empty. -/
theorem lowestEmpty_live {α : Type} {n : Nat} {v : Vector (Slot α) n} {k : Fin n} (h : lowestEmpty v = some k) :
    v[k].live = none := by
  have := List.find?_some h
  simpa using this

/-- No slot is empty exactly when every slot holds a record. -/
theorem lowestEmpty_eq_none {α : Type} {n : Nat} {v : Vector (Slot α) n} :
    lowestEmpty v = none ↔ ∀ k : Fin n, v[k].live.isSome = true := by
  simp [lowestEmpty, List.find?_eq_none, Option.isSome_iff_ne_none]

/-- A new record advances the generation of its slot and discards the note (R102, R125). -/
@[simp] theorem Slot.place_eq {α : Type} (s : Slot α) (r : α) : s.place r = ⟨s.gen + 1, some r, none⟩ := rfl

/-- A retirement empties its slot, keeps the generation and leaves a note (R104, R125). -/
theorem Slot.retire_of_live {α : Type} {s : Slot α} {r : α} (h : s.live = some r) (c : RetireCause) (now : Ct) :
    s.retire c now = ⟨s.gen, none, some ⟨s.gen, c, now⟩⟩ := by
  simp [Slot.retire, h]

/-- A retirement leaves an empty slot as it is. -/
theorem Slot.retire_of_empty {α : Type} {s : Slot α} (h : s.live = none) (c : RetireCause) (now : Ct) :
    s.retire c now = s := by
  simp [Slot.retire, h]

/-- No retirement leaves a record live or changes a generation. -/
theorem Slot.retire_spec {α : Type} (s : Slot α) (c : RetireCause) (now : Ct) :
    (s.retire c now).live = none ∧ (s.retire c now).gen = s.gen := by
  cases h : s.live with
  | none => simp [Slot.retire, h]
  | some r => simp [Slot.retire, h]

theorem rewrite_get {α : Type} {n : Nat} (v : Vector (Slot α) n) (k : Fin n) (r : α) (i : Fin n) :
    (rewrite v k r)[i] = if i = k then { v[k] with live := some r } else v[i] := put_get ..

theorem retireAt_get {α : Type} {n : Nat} (v : Vector (Slot α) n) (k : Fin n) (c : RetireCause) (now : Ct)
    (i : Fin n) : (retireAt v k c now)[i] = if i = k then v[k].retire c now else v[i] := put_get ..

theorem retireAll_get {α : Type} {n : Nat} (v : Vector (Slot α) n) (c : RetireCause) (now : Ct) (i : Fin n) :
    (retireAll v c now)[i] = v[i].retire c now := mapTable_get ..

/-- After every record has been retired none is live. -/
@[simp] theorem lives_retireAll {α : Type} {n : Nat} (v : Vector (Slot α) n) (c : RetireCause) (now : Ct) :
    lives (retireAll v c now) = [] := by
  rw [lives_eq_nil]
  intro k
  rw [retireAll_get]
  exact (v[k].retire_spec c now).1

/-- An identifier names a record exactly when its slot is live with its generation (R103, R127). -/
theorem named_eq_some {α : Type} {n : Nat} {v : Vector (Slot α) n} {k : Fin n} {gen : Nat} {r : α} :
    named v k gen = some r ↔ v[k].gen.val = gen ∧ v[k].live = some r := by
  simp only [named]
  split <;> simp_all

/-- What an identifier resolves to: out of range, stale with its note, or the record it names (R103). -/
theorem resolve_cases {α : Type} {n : Nat} (v : Vector (Slot α) n) (id : Identifier) :
    ((n ≤ id.slot ∨ 15 < id.gen) ∧ resolve v id = .outOfRange) ∨
      ∃ k : Fin n, id.slot = k.val ∧ id.gen ≤ 15 ∧
        ((∃ r, named v k id.gen = some r ∧ resolve v id = .record k r) ∨
          (named v k id.gen = none ∧ resolve v id = .stale (staleNote v k id.gen))) := by
  simp only [resolve]
  cases h : index? n id.slot with
  | none =>
    left
    simp only [index?] at h
    split at h
    · cases h
    · exact ⟨.inl (by omega), rfl⟩
  | some k =>
    have hk := index?_eq_some.mp h
    by_cases hg : 15 < id.gen
    · exact .inl ⟨.inr hg, by simp [hg]⟩
    · right
      refine ⟨k, hk, by omega, ?_⟩
      cases hn : named v k id.gen with
      | none => exact .inr ⟨rfl, by simp only [if_neg hg]; rw [hn]⟩
      | some r => exact .inl ⟨r, rfl, by simp only [if_neg hg]; rw [hn]⟩

/-! ## Junctions -/

/-- A junction update replaces one junction, read. -/
theorem updateJunction_get (s : State) (j : Nat) (f : Junction → Junction) (i : Nat) :
    (s.updateJunction j f).junctions[i]? = if j = i then (s.junctions[i]?).map f else s.junctions[i]? := by
  simp only [State.updateJunction, State.setJunctions_junctions, List.getElem?_modify]
  split <;> simp

/-- A junction update of a configured junction sets it. -/
theorem updateJunction_of_get {s : State} {j : Nat} {q : Junction} (h : s.junctions[j]? = some q)
    (f : Junction → Junction) : s.updateJunction j f = s.setJunctions (s.junctions.set j (f q)) := by
  simp only [State.updateJunction]
  congr 1
  apply List.ext_getElem?
  intro i
  rw [List.getElem?_modify, List.getElem?_set]
  by_cases e : j = i
  · subst e
    obtain ⟨hl, hq⟩ := List.getElem?_eq_some_iff.mp h
    simp [hl, hq]
  · simp [e]

@[simp] theorem updateJunction_length (s : State) (j : Nat) (f : Junction → Junction) :
    (s.updateJunction j f).junctions.length = s.junctions.length := by
  simp [State.updateJunction]

/-- A function applied with its index, read. -/
theorem mapIndexed_get {α β : Type} (f : Nat → α → β) (i : Nat) (l : List α) (j : Nat) :
    (mapIndexed f i l)[j]? = (l[j]?).map (f (i + j)) := by
  induction l generalizing i j with
  | nil => simp [mapIndexed]
  | cons x xs ih =>
    cases j with
    | zero => simp [mapIndexed]
    | succ j =>
      simp only [mapIndexed, List.getElem?_cons_succ, ih]
      congr 2
      omega

@[simp] theorem mapIndexed_length {α β : Type} (f : Nat → α → β) (i : Nat) (l : List α) :
    (mapIndexed f i l).length = l.length := by
  induction l generalizing i with
  | nil => rfl
  | cons x xs ih => simp [mapIndexed, ih]

/-! ## Alerts -/

/-- Setting a latched source changes the latched set alone. -/
theorem latch_eq (s : State) (a : AlertSource) :
    s.latch a = s.setAlerts { s.alerts with latched := s.alerts.latched ||| a.only } := rfl

/-- The end of an event changes the pulse end alone (R169). -/
theorem settle_eq (s t : State) :
    settle s t = t.setAlerts { t.alerts with
      pulseEnd := if t.alerts.mode = .pulse ∧ joined s t ≠ 0 then some (plus t.now 1) else t.alerts.pulseEnd } := by
  simp only [settle]
  by_cases h : t.alerts.mode = .pulse ∧ joined s t ≠ 0
  · have h' : (decide (t.alerts.mode = .pulse) && joined s t != 0) = true := by
      rw [Bool.and_eq_true, decide_eq_true_eq, bne_iff_ne]; exact h
    rw [if_pos h', if_pos h]
  · have h' : ¬(decide (t.alerts.mode = .pulse) && joined s t != 0) = true := by
      rw [Bool.and_eq_true, decide_eq_true_eq, bne_iff_ne]; exact h
    rw [if_neg h', if_neg h]
    rfl

/-- An event that brings no source into the active set ends as its effect left the part. -/
theorem settle_of_subset {s t : State} (h : joined s t = 0) : settle s t = t := by simp [settle, h]

@[simp] theorem settle_inReset (s t : State) : (settle s t).inReset = t.inReset := by simp [settle_eq]
@[simp] theorem settle_junctions (s t : State) : (settle s t).junctions = t.junctions := by simp [settle_eq]
@[simp] theorem settle_time (s t : State) : (settle s t).time = t.time := by simp [settle_eq]
@[simp] theorem settle_settings (s t : State) : (settle s t).settings = t.settings := by simp [settle_eq]
@[simp] theorem settle_groups (s t : State) : (settle s t).groups = t.groups := by simp [settle_eq]
@[simp] theorem settle_plans (s t : State) : (settle s t).plans = t.plans := by simp [settle_eq]
@[simp] theorem settle_selector (s t : State) : (settle s t).selector = t.selector := by simp [settle_eq]
@[simp] theorem settle_platoons (s t : State) : (settle s t).platoons = t.platoons := by simp [settle_eq]
@[simp] theorem settle_priorities (s t : State) : (settle s t).priorities = t.priorities := by simp [settle_eq]
@[simp] theorem settle_inputs (s t : State) : (settle s t).inputs = t.inputs := by simp [settle_eq]
@[simp] theorem settle_blink (s t : State) : (settle s t).blink = t.blink := by simp [settle_eq]
@[simp] theorem settle_port (s t : State) : (settle s t).port = t.port := by simp [settle_eq]
@[simp] theorem settle_pending (s t : State) : (settle s t).pending = t.pending := by simp [settle_eq]
@[simp] theorem settle_latched (s t : State) : (settle s t).alerts.latched = t.alerts.latched := by simp [settle_eq]
@[simp] theorem settle_enable (s t : State) : (settle s t).alerts.enable = t.alerts.enable := by simp [settle_eq]
@[simp] theorem settle_global (s t : State) : (settle s t).alerts.global = t.alerts.global := by simp [settle_eq]
@[simp] theorem settle_mode (s t : State) : (settle s t).alerts.mode = t.alerts.mode := by simp [settle_eq]
@[simp] theorem settle_wMask (s t : State) : (settle s t).alerts.wMask = t.alerts.wMask := by simp [settle_eq]
@[simp] theorem settle_fMask (s t : State) : (settle s t).alerts.fMask = t.alerts.fMask := by simp [settle_eq]

/-! ## Events -/

/-- An event that is not due does nothing (log 4). -/
theorem takeEvent_of_not_due {e : Event} {s : State} (h : e.due s = false) : takeEvent e s = s := by
  simp [takeEvent, h]

/-- An event that is due acts as one event, with the pulse that its joining sources start. -/
theorem takeEvent_of_due {e : Event} {s : State} (h : e.due s = true) : takeEvent e s = settle s (e.effect s) := by
  simp [takeEvent, h]

/-- A count at which nothing is left to take only counts. -/
theorem takeDue_of_nothing_due {s : State} (h : ∀ e ∈ allEvents, e.due s = false) : takeDue s = s := by
  simp only [takeDue]
  generalize allEvents = l at h
  induction l with
  | nil => rfl
  | cons e es ih =>
    rw [List.foldl_cons, takeEvent_of_not_due (h e (by simp))]
    exact ih fun x hx => h x (by simp [hx])

end Sys2Proof.Machine
end

