-- ==== Sys2Proof/Laws/Port.lean ====
section
/-! SUPPORT. The laws of the request port, of the plan selector and of the junction contexts: what a SEND, an
activation, a selector event, a booking and an early-green evaluation can do. -/

namespace Sys2Proof.Machine

/-! ## The request port -/

/-- The state that the owner of an accepted request finds: REJECTED clear and the status byte clocked out. -/
def accepted (k : Nat) (s : State) : State := s.setPort { s.port with rejected := false, sdo := sendOut s k }

/-- A SEND that reaches an IDLE port executes (R154, R156). -/
theorem send_of_idle {s : State} (h : s.port.state = .idle) (code : Byte) (ps : List Byte) (k : Nat)
    (req : Option Request) : send code ps k req s = acceptSend code (2 + ps.length + k) req s := by
  simp [send, h]

/-- A SEND that reaches any other port is discarded (R155). -/
theorem send_of_busy {s : State} (h : s.port.state ≠ .idle) (code : Byte) (ps : List Byte) (k : Nat)
    (req : Option Request) : send code ps k req s = discardSend (2 + ps.length + k) s := by
  cases hs : s.port.state with
  | idle => exact absurd hs h
  | executing f d => simp [send, hs]
  | result f => simp [send, hs]

/-- An accepted SEND leaves its owner's state but for the port, which executes the frame formed from it. -/
theorem acceptSend_eq (code : Byte) (k : Nat) (req : Option Request) (s : State) :
    acceptSend code k req s =
      settle s ((serve req (accepted k s)).2.setPort { (serve req (accepted k s)).2.port with
        state := .executing (frameOf code (serve req (accepted k s)).1 (serve req (accepted k s)).2) false }) := rfl

/-- A discarded SEND changes REJECTED and the bytes clocked out alone. -/
theorem discardSend_eq (k : Nat) (s : State) :
    discardSend k s = s.setPort { s.port with rejected := true, sdo := sendOut s k } := rfl

/-- What the port does before the owner: the three refusals of R156, in their order, or the owner's answer. -/
theorem serve_cases (req : Option Request) (s : State) :
    (req = none ∧ serve req s = refuse .unknownRequest s) ∨
    (∃ q, req = some q ∧ q.body = none ∧ serve req s = refuse .badFrame s) ∨
    (∃ q owner, req = some q ∧ q.body = some owner ∧ q.edit = true ∧ s.editsLocked = true ∧
      serve req s = refuse .locked s) ∨
    ∃ q owner, req = some q ∧ q.body = some owner ∧ (q.edit = false ∨ s.editsLocked = false) ∧
      serve req s = owner s := by
  cases req with
  | none => exact .inl ⟨rfl, rfl⟩
  | some q =>
    cases hb : q.body with
    | none => exact .inr (.inl ⟨q, rfl, hb, by simp [serve, hb]⟩)
    | some owner =>
      by_cases h : (q.edit && s.editsLocked) = true
      · have h2 := Bool.and_eq_true_iff.mp h
        exact .inr (.inr (.inl ⟨q, owner, rfl, hb, h2.1, h2.2, by simp [serve, hb, h2.1, h2.2]⟩))
      · refine .inr (.inr (.inr ⟨q, owner, rfl, hb, ?_, ?_⟩))
        · cases he : q.edit with
          | false => exact .inl rfl
          | true =>
            right
            cases hl : s.editsLocked with
            | false => rfl
            | true => simp [he, hl] at h
        · simp only [serve, hb, if_neg h]

/-! ## Activation and selector events -/

/-- Everything an activation can do (R34 to R38). -/
theorem activate_cases (n : Nat) (s : State) :
    (n = s.activeNumber ∧ s.selector.pendingPlan.isSome = true ∧
      activate n s = (.pendingCancelled, cancelPending s)) ∨
    (n = s.activeNumber ∧ s.selector.pendingPlan = none ∧ activate n s = (.noChange, s)) ∨
    (n ≠ s.activeNumber ∧ n = 0 ∧ activate n s = (.pending, makePending 0 s)) ∨
    (n ≠ s.activeNumber ∧ n ≠ 0 ∧ s.time.clock.valid = false ∧ activate n s = (.noClock, s)) ∨
    (n ≠ s.activeNumber ∧ n ≠ 0 ∧ s.time.clock.valid = true ∧ ∃ f, activate n s = (.invalid f, s) ∧
      ((s.planRecord n = none ∧ f = ⟨1, none⟩) ∨ ∃ p, s.planRecord n = some p ∧ failedCheck p s.junctions = some f)) ∨
    (n ≠ s.activeNumber ∧ n ≠ 0 ∧ s.time.clock.valid = true ∧ ∃ p, s.planRecord n = some p ∧
      failedCheck p s.junctions = none ∧
      ((s.selector.active = none ∧ activate n s = (.tookEffect, takeEffect n p s)) ∨
        (s.selector.active.isSome = true ∧ activate n s = (.pending, makePending n s)))) := by
  by_cases ha : n = s.activeNumber
  · cases hp : s.selector.pendingPlan with
    | none => exact .inr (.inl ⟨ha, rfl, by simp [activate, ← ha, hp]⟩)
    | some q => exact .inl ⟨ha, rfl, by simp [activate, ← ha, hp]⟩
  · by_cases h0 : n = 0
    · refine .inr (.inr (.inl ⟨ha, h0, ?_⟩))
      subst h0
      simp [activate, ha]
    · cases hv : s.time.clock.valid with
      | false => exact .inr (.inr (.inr (.inl ⟨ha, h0, rfl, by simp [activate, ha, h0, hv]⟩)))
      | true =>
        cases hr : s.planRecord n with
        | none =>
          exact .inr (.inr (.inr (.inr (.inl ⟨ha, h0, rfl, ⟨1, none⟩, by simp [activate, ha, h0, hv, hr], .inl ⟨rfl, rfl⟩⟩))))
        | some p =>
          cases hf : failedCheck p s.junctions with
          | some f =>
            exact .inr (.inr (.inr (.inr (.inl
              ⟨ha, h0, rfl, f, by simp [activate, ha, h0, hv, hr, hf], .inr ⟨p, rfl, hf⟩⟩))))
          | none =>
            refine .inr (.inr (.inr (.inr (.inr ⟨ha, h0, rfl, p, rfl, hf, ?_⟩))))
            cases hs : s.selector.active with
            | none => exact .inl ⟨rfl, by simp [activate, ha, h0, hv, hr, hf, activateValid, hs]⟩
            | some a => exact .inr ⟨rfl, by simp [activate, ha, h0, hv, hr, hf, activateValid, hs]⟩

/-- A selector event re-forms the requested plan, and issues an activation only on a change, or, at a catch-up,
on a difference from the target plan (R53). -/
theorem select_cases (reconcile : Bool) (s : State) :
    ((s.arbitrate ≠ s.selector.requested ∨ (reconcile = true ∧ s.arbitrate ≠ s.target)) ∧
      select reconcile s = activateUnanswered s.arbitrate (reform s)) ∨
    (s.arbitrate = s.selector.requested ∧ (reconcile = true → s.arbitrate = s.target) ∧
      select reconcile s = reform s) := by
  simp only [select]
  split
  · rename_i h
    left
    refine ⟨?_, rfl⟩
    simpa using h
  · rename_i h
    right
    rw [Bool.not_eq_true, Bool.or_eq_false_iff, Bool.and_eq_false_iff] at h
    have h1 := of_not_not (of_decide_eq_false h.1)
    refine ⟨h1, fun hr => ?_, rfl⟩
    rcases h.2 with h2 | h2
    · rw [hr] at h2; cases h2
    · exact of_not_not (of_decide_eq_false h2)

/-! ## Junction contexts -/

/-- Everything a booking can do: nothing without a plan or the junction; otherwise the junction is judged and set
up, with SEEK_FAULT when it is faulted (R70, R72). -/
theorem book_cases (j : Nat) (s : State) :
    ((s.activeRecord = none ∨ s.junctions[j]? = none) ∧ book j s = s) ∨
    ∃ a p q, s.activeRecord = some (a, p) ∧ s.junctions[j]? = some q ∧
      let q' := bookJunction s.now p j (driftOfJunction a p j) q
      book j s = (if q'.state.isFault && !q.state.isFault
        then (s.updateJunction j fun _ => q').latch .seekFault else s.updateJunction j fun _ => q') := by
  cases ha : s.activeRecord with
  | none => exact .inl ⟨.inl rfl, by simp [book, ha]⟩
  | some ap =>
    cases hq : s.junctions[j]? with
    | none => exact .inl ⟨.inr rfl, by simp [book, ha, hq]⟩
    | some q => exact .inr ⟨ap.1, ap.2, q, rfl, rfl, by simp only [book, ha, hq]⟩

/-- Everything an early-green evaluation can do: nothing, or one shortening with one grant (R94 to R96). -/
theorem evaluateEarly_cases (j : Nat) (s : State) :
    evaluateEarly j s = s ∨
    ∃ q w c k r, s.junctions[j]? = some q ∧ q.state.window? = some w ∧ q.cycle? = some c ∧
      mayShorten (s.attributes j) q c = true ∧ earliestLate j s = some (k, r) ∧
      before (earlyEnd w.start c q.smin s.now r.eta) (plus w.start c.lc) = true ∧
      evaluateEarly j s = grantEarly j q w c k r (earlyEnd w.start c q.smin s.now r.eta) s := by
  cases hq : s.junctions[j]? with
  | none => exact .inl (by simp [evaluateEarly, hq])
  | some q =>
    cases hw : q.state.window? with
    | none => exact .inl (by simp [evaluateEarly, hq, hw])
    | some w =>
      cases hc : q.cycle? with
      | none => exact .inl (by simp [evaluateEarly, hq, hw, hc])
      | some c =>
        cases hm : mayShorten (s.attributes j) q c with
        | false => exact .inl (by simp [evaluateEarly, hq, hw, hc, hm])
        | true =>
          cases he : earliestLate j s with
          | none => exact .inl (by simp [evaluateEarly, hq, hw, hc, hm, he])
          | some kr =>
            cases hb : before (earlyEnd w.start c q.smin s.now kr.2.eta) (plus w.start c.lc) with
            | false => exact .inl (by simp [evaluateEarly, hq, hw, hc, hm, he, hb])
            | true =>
              exact .inr ⟨q, w, c, kr.1, kr.2, rfl, hw, hc, hm, rfl, hb, by simp [evaluateEarly, hq, hw, hc, hm, he, hb]⟩

/-- The end of a preemption: a preempted junction enters its return state, any other is left as it is (R141). -/
theorem endPreempt_cases (now : Ct) (q : Junction) :
    (∃ a b r, q.state = .preempt a b r ∧ endPreempt now q = { q with state := r.enter now }) ∨
    (q.state.isPreempt = false ∧ endPreempt now q = q) := by
  cases h : q.state with
  | free c => exact .inr ⟨rfl, by simp [endPreempt, h]⟩
  | seek w => exact .inr ⟨rfl, by simp [endPreempt, h]⟩
  | inStep w => exact .inr ⟨rfl, by simp [endPreempt, h]⟩
  | preempt a b r => exact .inl ⟨a, b, r, rfl, by simp [endPreempt, h]⟩

/-! ## The queue -/

/-- The owner's state keeps the queue when the owner does; a SEND then keeps it (used for every request). -/
theorem send_pending {code : Byte} {ps : List Byte} {k : Nat} {req : Option Request} {s : State}
    (h : ∀ q owner, req = some q → q.body = some owner → ∀ u : State, (owner u).2.pending = u.pending) :
    (send code ps k req s).pending = s.pending := by
  by_cases hs : s.port.state = .idle
  · rw [send_of_idle hs, acceptSend_eq]
    simp only [settle_pending, State.setPort_pending]
    rcases serve_cases req (accepted (2 + ps.length + k) s) with ⟨-, e⟩ | ⟨q, -, -, e⟩ | ⟨q, o, -, -, -, -, e⟩ | ⟨q, o, hr, hb, -, e⟩
    · rw [e]; rfl
    · rw [e]; rfl
    · rw [e]; rfl
    · rw [e, h q o hr hb]; rfl
  · rw [send_of_busy hs]; rfl

end Sys2Proof.Machine
end

