-- ==== Sys2Proof/Tests/Slice0.lean ====
section
/-! SUPPORT. Tests on the worked examples of the spec, the checks of WellFormed on terms they refuse, and for
every statement with hypotheses a state and operands that meet them. The example corridor is that of chapters
2 and 3: four junctions, plans 2, 3 and 5. -/

-- One theorem at a time: elaborating them all at once asks for a thread each.
set_option Elab.async false

namespace Sys2Proof.Tests

open Sys2Proof Sys2Proof.Machine Sys2Proof.Safety

/-! ## The example corridor -/

/-- The state a command leaves. -/
def after (c : Instr) (s : State) : State :=
  match exec c s with
  | .next t => t
  | .fault _ | .refused _ => s

/-- The class, reason and payload of the frame a command's execution forms. -/
def answer (c : Instr) (s : State) : Option (ResultClass × Reason × List Byte) :=
  match (after c s).port.state with
  | .executing f _ => some (f.cls, f.reason, f.payload)
  | .idle | .result _ => none

/-- The splits of the four junctions, and 200 ds elsewhere. -/
def splits (a b c d : Nat) : Vector Nat 24 :=
  ((((Vector.replicate 24 200).set 0 a).set 1 b).set 2 c).set 3 d

/-- Plans 2, 3 and 5 of the examples of chapter 3. -/
def plan2 : Plan := ⟨900, 300, 12, 0, 50, 45, 60, 20, 40, 8, 150, 100, 20, 2, splits 420 400 450 380⟩
def plan3 : Plan := ⟨1000, 0, 4, 100, 45, 50, 80, 25, 50, 8, 180, 120, 20, 2, splits 500 520 560 480⟩
def plan5 : Plan := ⟨600, 0, 8, 0, 50, 50, 60, 20, 40, 8, 100, 60, 20, 1, splits 300 300 450 300⟩

/-- Plan 2 as the part holds it while active (the travel times of chapter 2, the offsets of 3.3.1). -/
def active2 (pRef : Nat) : ActivePlan :=
  ⟨2, pRef, [252, 360, 202], [280, 400, 224], some 288, none, [0, 344, 739, 835]⟩

/-- A junction of the corridor in a state, nothing else pending at it. -/
def junctionIn (link : Option Nat) (smin : Nat) (c : Coordination) : Junction := ⟨link, smin, c, 0, false, none, none⟩

/-- A coordinated junction IN_STEP in a booked cycle of plan 2. -/
def inCycle (start : Ct) (lc g : Nat) (phase : Phase) : Coordination :=
  .inStep ⟨start, 0, some ⟨lc, start + BitVec.ofNat 32 g, phase, 0, 0, 0, ⟨g, 150, 100, 20, 2⟩⟩⟩

/-- A junction that has just entered SEEK: its booking is owed at once. -/
def entering (now : Ct) : Coordination := .seek ⟨now, 0, none⟩

/-- The four junctions, given their states. -/
def fourJunctions (c0 c1 c2 c3 : Coordination) : List Junction :=
  [junctionIn (some 350) 250 c0, junctionIn (some 500) 280 c1, junctionIn (some 280) 300 c2, junctionIn none 200 c3]

/-- The corridor with its plans stored, plan 0 active, at a time and a clock reading. -/
def parked (now : Ct) (k : DayClock) : State :=
  { State.reset with
    time := ⟨now, k, now, .low, false, false, false, false⟩
    settings := ⟨400, 0, 50, 400, 300, 3000, true, 50⟩
    junctions := fourJunctions (.free .plan0) (.free .plan0) (.free .plan0) (.free .plan0)
    plans := (((Vector.replicate 8 none).set 1 (some plan2)).set 2 (some plan3)).set 4 (some plan5) }

/-- The same corridor with plan 2 active. -/
def running (now : Ct) (k : DayClock) (pRef : Nat) (js : List Junction) : State :=
  let s := parked now k
  { s with junctions := js, selector := { s.selector with active := some (active2 pRef), requested := 2 } }

/-- Tuesday 07:00:20.0, P_ref 800, junction 2 entering SEEK at CT 10200 (the example of R73), the others in step. -/
def morning : State :=
  running 10200 ⟨2, 7, 0, 20, 0, true⟩ 800
    (fourJunctions (inCycle 9400 900 420 .side) (inCycle 9744 900 400 .side) (entering 10200)
      (inCycle 9335 900 380 .side))

/-- Tuesday 17:00:00.0, P_ref 600, all four junctions in step (the plan change of chapter 3). -/
def evening : State :=
  running 50000 ⟨2, 17, 0, 0, 0, true⟩ 600
    (fourJunctions (inCycle 49400 900 420 .side) (inCycle 49744 900 400 .green) (inCycle 49250 900 450 .side)
      (inCycle 49335 900 380 .side))

/-- The corridor with plan 0 active, Tuesday 07:14:35.0 (the example of R12). -/
def before7 : State := parked 9000 ⟨2, 7, 14, 35, 0, true⟩

/-! ## WellFormed refuses what no pin can do (R153, R154, R156) -/

theorem test_wf_length : (Instr.readClock (List.replicate 256 0)).wf = false ∧
    (Instr.readClock (List.replicate 255 0)).wf = true := by decide +kernel

theorem test_wf_unknown_code : (Instr.unknownRequest 0x18 []).wf = false ∧ (Instr.unknownRequest 0x16 []).wf = true := by
  decide +kernel

theorem test_wf_void_type : (Instr.voidTransaction [0xA1]).wf = false ∧ (Instr.voidTransaction [0xAF, 1]).wf = false ∧
    (Instr.voidTransaction [0xA0]).wf = true ∧ (Instr.voidTransaction []).wf = true := by decide +kernel

/-! ## Transactions written out from the tables of 12.2 -/

theorem test_decode_families :
    decodeTransaction [0xA1, 0x10, 16, 4, 1, 0x90, 0, 0, 0, 50, 1, 0x90, 1, 0x2C, 0x0B, 0xB8, 0, 0, 50] =
      .setCorridor [4, 1, 0x90, 0, 0, 0, 50, 1, 0x90, 1, 0x2C, 0x0B, 0xB8, 0, 0, 50] ∧
    decodeTransaction [0xA1, 0x14, 4, 0, 1, 2, 1] = .setGroup [0, 1, 2, 1] ∧
    decodeTransaction [0xA1, 0x1A, 6, 0, 1, 0x1F, 6, 30, 2] = .setScheduleEntry [0, 1, 0x1F, 6, 30, 2] ∧
    decodeTransaction [0xA1, 0x20, 1, 5] = .activatePlan [5] ∧ decodeTransaction [0xA1, 0x28, 1, 2] = .windowQuery [2] ∧
    decodeTransaction [0xA1, 0x2A, 1, 3] = .preemptBegin [3] ∧
    decodeTransaction [0xA1, 0x31, 6, 1, 0, 0, 0, 0x28, 0x1E] = .passage [1, 0, 0, 0, 0x28, 0x1E] ∧
    decodeTransaction [0xA1, 0x3B, 1, 255] = .listPriority [255] ∧
    decodeTransaction [0xA1, 0x40, 6, 0, 3, 2, 0, 40, 2] = .setInput [0, 3, 2, 0, 40, 2] ∧
    decodeTransaction [0xA1, 0x4A, 2, 0x1F, 0xE0] = .acknowledgeAlerts [0x1F, 0xE0] ∧
    decodeTransaction [0xA1, 0x51, 0] = .lockEdits [] := by decide +kernel

/-- Two bytes beyond the frame are ignored, and take a fill byte each (R153, R154). -/
theorem test_extra_bytes_are_ignored : decodeTransaction [0xA1, 0x20, 1, 5, 9, 9] = .activatePlan [5] 2 ∧
    (after (.lockEdits [] 2) State.reset).port.sdo = [0x80, 0, 0, 0, 0] ∧
    (after (.lockEdits [] 2) State.reset).port.editLock = true := by decide +kernel

/-! ## Chapter 1 -/

/-- The wrap-safe comparison of section 1.1. -/
theorem test_compare_wraps : ahead 4294967290 5 = 11 ∧ before 4294967290 5 = true ∧ before 5 4294967290 = false := by
  decide +kernel

/-- SET CLOCK under plan 2, Tuesday 07:14:35: P_ref 350 (section 1.3). -/
theorem test_set_clock_derives_pref :
    ((after (.setClock [0x02, 0x07, 0x14, 0x35]) morning).selector.active.map ActivePlan.pRef) = some 350 := by
  decide +kernel

/-- P_ref has wrapped with plan 3 pending, and a SET CLOCK comes before the boundary is taken: the plan waits on
(R5, R39). -/
theorem test_set_clock_drops_boundary :
    let s := { morning with
      time := { morning.time with boundaryDue := true }
      selector := { morning.selector with pendingPlan := some 3, requested := 3, holdOn := true, holdPlan := 3 } }
    let t := after (.ctCount .low .high .high .high .high) (after (.setClock [0x02, 0x07, 0x14, 0x35]) s)
    t.activeNumber = 2 ∧ t.selector.pendingPlan = some 3 := by decide +kernel

/-- The running corridor with its clock at 07:m:sec.t, P_ref as given. -/
def clockAt (m sec t pRef : Nat) : State := running 10200 ⟨2, 7, m, sec, t, true⟩ pRef []

/-- The day clock's minute, second and tenth, and P_ref. -/
def minuteAndPRef (s : State) : Nat × Nat × Nat × Nat :=
  (s.time.clock.minute, s.time.clock.second, s.time.clock.tenth, (s.selector.active.map ActivePlan.pRef).getD 9999)

/-- The first three pulses of section 1.4; the third sets SYNC_SLIP. -/
theorem test_sync_steps_back : minuteAndPRef (after .syncPulse (clockAt 16 0 4 304)) = (16, 0, 0, 300) := by decide +kernel
theorem test_sync_steps_forward : minuteAndPRef (after .syncPulse (clockAt 16 59 7 897)) = (17, 0, 0, 0) ∧
    (after .syncPulse (clockAt 16 59 7 897)).time.boundaryDue = false := by decide +kernel
theorem test_sync_slips : minuteAndPRef (after .syncPulse (clockAt 18 7 0 670)) = (18, 7, 0, 670) ∧
    (after .syncPulse (clockAt 18 7 0 670)).alerts.latched = AlertSource.syncSlip.only := by decide +kernel

/-- A count from P_ref 899 wraps it and owes the reference boundary (section 1.5). -/
theorem test_count_wraps_pref :
    minuteAndPRef (after (.ctCount .low .high .high .high .high) (clockAt 18 29 9 899)) = (18, 30, 0, 0) ∧
      (after (.ctCount .low .high .high .high .high) (clockAt 18 29 9 899)).time.boundaryDue = true ∧
      (after (.ctCount .low .high .high .high .high) (clockAt 18 29 9 899)).time.ct = 10201 := by decide +kernel

/-- The minute mark at 07:00:00.0 gives the scheduled plan to the matching entry (R54). -/
theorem test_minute_mark_matches :
    let s := parked 0 ⟨2, 7, 0, 0, 0, true⟩
    let e : ScheduleEntry := ⟨true, 0b11111, 7, 0, 2⟩
    let t := { s with
      time := { s.time with markDue := true }
      selector := { s.selector with schedule := s.selector.schedule.set 3 e } }
    (after .minuteMark t).activeNumber = 2 ∧ (after .minuteMark t).selector.lastEntry = some 3 := by decide +kernel

/-- A reset part with no pulse for 1800 ds is in SYNC_LOST once sync enable is yes (R11). -/
theorem test_sync_lost :
    let s := parked 2000 ⟨2, 7, 0, 0, 0, true⟩
    (after .syncLossTime (s.setTime { s.time with lastPulse := 200 })).time.syncLost = true ∧
      (after .syncLossTime (s.setTime { s.time with lastPulse := 201 })).time.syncLost = false := by decide +kernel

/-- READ CLOCK after the SET CLOCK of section 1.3 (clock bytes of 12.1). -/
theorem test_read_clock : answer (.readClock []) before7 =
    some (.done, .none, [0x02, 0x07, 0x14, 0x35, 0x10, 0, 0, 0x23, 0x28, 0]) := by decide +kernel

/-- The stages of section 1.6: READY after reset, PLAN while a junction seeks, LOCKED in step. -/
theorem test_corridor_stages : State.reset.stage = .ready ∧ before7.stage = .clock ∧ morning.stage = .plan ∧
    evening.stage = .locked ∧ (after (.preemptBegin [1]) evening).stage = .locked ∧
    ((after (.corridorStatus []) evening).port.state.number = 1) := by decide +kernel

/-! ## Chapter 2 -/

/-- The reset settings with N as the first byte: SET CORRIDOR with other settings at their reset values. -/
def resetSettings (n : Byte) : List Byte := [n, 0, 0, 0, 0, 0, 50, 1, 0x90, 1, 0x2C, 0x0B, 0xB8, 0, 0, 50]

/-- The state without the request in progress. -/
def read (s : State) : State := released s

/-- The resizing example of section 2.2. -/
theorem test_resize_from_nothing :
    (after (.setCorridor (resetSettings 4)) State.reset).junctions.map Junction.link = [some 200, some 200, some 200, none] := by
  decide +kernel
theorem test_resize_upward :
    (after (.setCorridor (resetSettings 6)) before7).junctions.map Junction.link =
      [some 350, some 500, some 280, some 200, some 200, none] ∧
    answer (.setCorridor (resetSettings 1)) before7 = some (.refused, .outOfRange, []) := by decide +kernel

/-- SET JUNCTION 0 of the same example, and a link length at the last junction. -/
theorem test_set_junction :
    ((after (.setJunction [0, 0x01, 0x5E, 0x00, 0xFA]) (after (.setCorridor (resetSettings 4)) State.reset |> read)).junctions.head?)
      = some (junctionIn (some 350) 250 (.free .plan0)) ∧
    answer (.setJunction [3, 0x01, 0x5E, 0x00, 0xFA]) before7 = some (.refused, .outOfRange, []) := by decide +kernel

/-- The three ranges of section 2.4 and the effective attributes they give. -/
def ranges : Vector GroupRange 4 :=
  #v[⟨0, 2, ⟨false, false, true, false⟩⟩, ⟨1, 5, ⟨false, true, false, false⟩⟩, ⟨3, 1, ⟨false, false, false, true⟩⟩,
    ⟨0, 0, Attributes.empty⟩]
theorem test_effective_attributes : (List.range 4).map (effective ranges) =
    [⟨false, false, true, false⟩, ⟨false, true, true, false⟩, ⟨false, true, false, false⟩, ⟨false, true, false, true⟩] := by
  decide +kernel
theorem test_set_group_excludes :
    ((after (.setGroup [3, 2, 1, 1]) evening).junctions.map fun j => j.state == .free .excluded) = [false, false, true, false] := by
  decide +kernel

/-- The inbound travel times of the example corridor (section 2.3). -/
theorem test_travel_times : linkTimes morning.junctions 50 = [252, 360, 202] ∧
    linkTimes morning.junctions 45 = [280, 400, 224] ∧ entryTime 400 50 = some 288 := by decide +kernel

/-! ## Chapters 3 and 4 -/

/-- The offsets of plans 2 and 3, worked in section 3.3.1. -/
theorem test_offsets_plan2 : planOffsets plan2 [252, 360, 202] [280, 400, 224] = [0, 344, 739, 835] := by decide +kernel
theorem test_offsets_plan3 : planOffsets plan3 [280, 400, 224] [252, 360, 202] = [100, 731, 311, 216] := by decide +kernel

/-- The plan change at the evening boundary: the refusal at 17:00:00, and the boundary of CT 50300. -/
theorem test_activate_plan5_invalid : answer (.activatePlan [5]) evening = some (.refused, .planInvalid, [1, 7, 2]) ∧
    answer (.activatePlan [3]) evening = some (.done, .pending, []) := by decide +kernel
theorem test_boundary_takes_plan3 :
    let s := running 50300 ⟨2, 17, 0, 30, 0, true⟩ 0 evening.junctions
    let t := after .referenceBoundary { s with
      time := { s.time with boundaryDue := true }, selector := { s.selector with pendingPlan := some 3 } }
    t.selector.active.map (fun a => (a.number, a.pRef, a.offsets)) = some (3, 300, [100, 731, 311, 216]) ∧
      t.stage = .plan ∧ t.alerts.latched = AlertSource.planChanged.only := by decide +kernel

/-- A plan record as SET PLAN carries it: plan 5. -/
def plan5Bytes : List Byte :=
  [5, 0x02, 0x58, 0, 0, 8, 0, 0, 50, 50, 0, 60, 20, 40, 8, 0, 100, 0, 60, 20, 1] ++
    [1, 0x2C, 1, 0x2C, 1, 0xC2, 1, 0x2C] ++ (List.replicate 20 [(0 : Byte), 200]).flatten
theorem test_set_plan : (after (.setPlan plan5Bytes) State.reset).planRecord 5 = some plan5 ∧
    answer (.setPlan plan5Bytes) (morning.setSelector { morning.selector with pendingPlan := some 5 }) =
      some (.refused, .inUse, []) := by decide +kernel
theorem test_read_plan : ((answer (.readPlan [5]) before7).map fun r => slice r.2.2 9 20) =
    some ((plan5Bytes.drop 1).take 20) := by decide +kernel

/-- The schedule of section 4.4, all other entries disabled. -/
def schedule : Vector ScheduleEntry 24 :=
  ((((((Vector.replicate 24 ⟨false, 0, 0, 0, 0⟩).set 0 ⟨true, 0b11111, 7, 0, 2⟩).set 1 ⟨true, 0b11111, 17, 0, 3⟩).set 2
    ⟨true, 0b11111, 20, 0, 0⟩).set 3 ⟨true, 0b1100000, 10, 0, 2⟩).set 4 ⟨true, 0b11111, 7, 0, 5⟩).set 5
    ⟨false, 0b1111111, 12, 0, 3⟩
def scheduled (s : State) : State := s.setSelector { s.selector with schedule := schedule }
/-- The catch-up of section 4.4: Tuesday 07:14:35 finds entry 0 at 8750 ds; Saturday 08:00 finds entry 2. -/
theorem test_catch_up_tuesday : (after (.setClock [0x02, 0x07, 0x14, 0x35]) (scheduled before7)).selector.lastEntry = some 0 ∧
    (after (.setClock [0x02, 0x07, 0x14, 0x35]) (scheduled before7)).activeNumber = 2 ∧
    distanceBack ⟨2, 7, 14, 35, 0, true⟩ ⟨true, 0b11111, 7, 0, 2⟩ 2 = 8750 := by decide +kernel
theorem test_resume_saturday :
    (after (.resumeSchedule []) (scheduled (parked 0 ⟨6, 8, 0, 0, 0, true⟩))).selector.lastEntry = some 2 := by decide +kernel
theorem test_schedule_entry_round_trip :
    ((answer (.readScheduleEntry [4]) (read (after (.setScheduleEntry [4, 1, 0x1F, 7, 0, 5]) before7))).map
      fun r => slice r.2.2 1 5) = some [1, 0x1F, 7, 0, 5] := by decide +kernel

/-! ## Chapters 5 and 6 -/

/-- The drifts of the booking examples (R69). -/
theorem test_drifts : driftAt 900 800 739 = 61 ∧ driftAt 900 739 739 = 0 ∧ driftAt 900 289 739 = 450 ∧
    driftAt 900 290 739 = -449 ∧ driftAt 1000 39 311 = -272 := by decide +kernel

/-- Junction 2 with its cycle ending at CT 10200, in step until then. -/
def atBooking2 : State :=
  morning.setJunctions (fourJunctions (.free .plan0) (.free .plan0) (inCycle 9300 900 450 .side) (.free .plan0))
/-- The first booking of junction 2 (section 5.4). -/
theorem test_booking_leaves_step : ((after (.booking 2) atBooking2).junctions.map Junction.state)[2]? =
    some (.seek ⟨10200, 0, some ⟨840, 10650, .green, 0, 0, 61, ⟨450, 150, 100, 20, 2⟩⟩⟩) := by decide +kernel

/-- Junction 2 in the cycle that this booking set up. -/
def morningCycle (lc : Nat) (greenEnd : Ct) (phase : Phase) (x : Nat) : Coordination :=
  .seek ⟨10200, 0, some ⟨lc, greenEnd, phase, x, 0, 61, ⟨450, 150, 100, 20, 2⟩⟩⟩

/-- Platoon A of section 7.8 on its way to junction 2. -/
def platoonA : Platoon := ⟨.inbound, some 0, 2, 10630, 136, 14, 1, some 10270, 11830⟩

/-- The corridor at a time with junction 2 in a state, platoon A in slot 0 under generation 1. -/
def withA (now : Ct) (c2 : Coordination) : State :=
  { running now ⟨2, 7, 0, 20, 0, true⟩ 0 (fourJunctions (entering now) (entering now) c2 (entering now)) with
    platoons := (Vector.replicate 32 ⟨0, none, none⟩).set 0 ⟨1, some platoonA, none⟩ }

/-- The extension of section 6.2 at CT 10650, and the close at 10786. -/
theorem test_extension : ((after (.greenEndCheck 2) (withA 10650 (morningCycle 840 10650 .green 0))).junctions.map
    Junction.state)[2]? = some (morningCycle 886 10786 .green 136) := by decide +kernel
theorem test_close : ((after (.greenEndCheck 2) (withA 10786 (morningCycle 886 10786 .green 136))).junctions.map
    Junction.state)[2]? = some (morningCycle 886 10786 .side 136) := by decide +kernel

/-- WINDOW QUERY 2 at CT 10300 (section 5.6). -/
theorem test_window_query :
    ((answer (.windowQuery [2]) (withA 10300 (morningCycle 840 10650 .green 0))).map fun r =>
      (slice r.2.2 3 8, slice r.2.2 10 8, slice r.2.2 18 6, slice r.2.2 29 5, slice r.2.2 54 8)) =
    some ([0, 0, 0x28, 0x3C, 2, 0, 2, 3], [0x03, 0x84, 0x02, 0xE3, 0, 0, 0x27, 0xD8], [0x03, 0x48, 0, 0, 0x29, 0x9A], [0x01, 0xC2, 0, 61, 0],
      [0, 0, 0x29, 0x86, 0, 0, 0, 0]) := by decide +kernel

/-- Junction 1 at CT 30400 under QUEUE_GUARD, with the three records of section 6.3. -/
def mixed : State :=
  let s := running 30400 ⟨2, 7, 0, 20, 0, true⟩ 0
    (fourJunctions (.free .plan0) (inCycle 30000 900 400 .green) (.free .plan0) (.free .plan0))
  { s.updateJunction 1 (fun j => j.setSpill .outbound (some 30600)) with
    groups := s.groups.set 0 ⟨1, 1, ⟨false, true, false, false⟩⟩
    platoons := (s.platoons.set 0 ⟨1, some ⟨.inbound, some 0, 1, 30380, 90, 9, 0, none, 31580⟩, none⟩).set 1
      ⟨1, some ⟨.outbound, some 2, 1, 30500, 200, 9, 0, none, 31700⟩, none⟩
    priorities := s.priorities.set 0 ⟨1, some ⟨205, 1, .inbound, .regular, 30510, 30810, none⟩, none⟩ }
theorem test_mixed_demand :
    (after (.greenEndCheck 1) mixed).junctions[1]? = some ⟨some 500, 280,
      .inStep ⟨30000, 0, some ⟨900, 30530, .green, 130, 0, 0, ⟨400, 150, 100, 20, 2⟩⟩⟩, 2, true, none, some 30600⟩ ∧
    ((after (.greenEndCheck 1) mixed).priorities[0].live.bind Priority.grant) = some (.extension, 30400) := by decide +kernel

/-- SPILLBACK 1, OUTBOUND, on (section 6.3), and its expiry 600 ds on. -/
theorem test_spillback : answer (.spillback [1, 1, 1]) morning = some (.done, .none, [1, 1, 0, 0, 0x2A, 0x30]) ∧
    answer (.spillback [1, 2, 1]) morning = some (.refused, .outOfRange, []) := by decide +kernel
theorem test_spillback_expires :
    ((after (.spillbackExpiry 1 .outbound) { mixed with time := { mixed.time with ct := 30600 } }).junctions.map Junction.spillOut)[1]? =
      some none := by decide +kernel

/-- Junction 2 in its side time at a count, for the early green of section 6.4. -/
def sideTime (now : Ct) : State :=
  running now ⟨2, 7, 0, 20, 0, true⟩ 0
    (fourJunctions (entering now) (entering now) (inCycle 12839 900 450 .side) (entering now))
/-- The cycle of junction 2 as its length, shortening, lockout and flag. -/
def cutAt2 (s : State) : Option (Nat × Nat × Nat × Bool) :=
  (s.junctions[2]?).bind fun j => j.cycle?.map fun c => (c.lc, c.y, j.lockout, j.granted)
/-- The first three arrivals of that example: ETA 13650, 13700 and 13770. -/
theorem test_early_green : cutAt2 (after (.checkIn [2, 0, 0x01, 0x9C, 1, 0, 0, 0x35, 0x52]) (sideTime 13400)) =
    some (800, 100, 2, true) ∧
    cutAt2 (after (.checkIn [2, 0, 0x01, 0x9C, 1, 0, 0, 0x35, 0x84]) (sideTime 13400)) = some (841, 59, 2, true) := by
  decide +kernel
theorem test_early_green_waits :
    cutAt2 (after (.checkIn [2, 0, 0x01, 0x9C, 1, 0, 0, 0x35, 0xCA]) (sideTime 13400)) = some (900, 0, 0, false) := by
  decide +kernel

/-- RESYNC JUNCTION restarts a faulted junction, and no other (R78). -/
theorem test_resync : (after (.resyncJunction [1]) (morning.updateJunction 1 fun j => { j with state := .free .fault })).junctions[1]? =
      some (junctionIn (some 500) 280 (entering 10200)) ∧
    answer (.resyncJunction [0]) morning = some (.refused, .wrongState, []) := by decide +kernel

/-! ## Chapters 7 and 8 -/

/-- The corridor under plan 2 at a time, its junctions newly in SEEK, with nothing in its tables. -/
def clear (now : Ct) : State :=
  running now ⟨2, 7, 0, 20, 0, true⟩ 0 (fourJunctions (entering now) (entering now) (entering now) (entering now))

/-- The state with some platoon slots filled. -/
def withPlatoons (l : List (Fin 32 × Slot Platoon)) (s : State) : State :=
  s.setPlatoons (l.foldl (fun v e => put v e.1 e.2) s.platoons)
/-- The state with some priority slots filled. -/
def withPriorities (l : List (Fin 16 × Slot Priority)) (s : State) : State :=
  s.setPriorities (l.foldl (fun v e => put v e.1 e.2) s.priorities)

/-- The platoon run of section 7.8, request by request. -/
theorem test_seen_creates : (after (.platoonSeen [0, 0, 0, 0, 0x27, 0x10, 14, 0, 60]) (clear 10010)).platoons[0] =
    ⟨1, some ⟨.inbound, some 0, 1, 10252, 91, 14, 0, none, 11452⟩, none⟩ := by decide +kernel
theorem test_passage_matches :
    (after (.passage [1, 0, 0, 0, 0x28, 0x1E])
      (withPlatoons [(0, ⟨1, some ⟨.inbound, some 0, 1, 10252, 91, 14, 0, none, 11452⟩, none⟩)] (clear 10280))).platoons[0] =
    ⟨1, some platoonA, none⟩ := by decide +kernel
theorem test_seen_merges :
    (after (.platoonSeen [2, 0, 0, 0, 0x29, 0xA4, 8, 0, 20])
      (withPlatoons [(0, ⟨1, some ⟨.inbound, some 0, 3, 10842, 161, 14, 2, some 10640, 12042⟩, none⟩)] (clear 10800))).platoons[0] =
    ⟨1, some ⟨.inbound, some 0, 3, 10842, 161, 22, 2, some 10640, 12062⟩, none⟩ := by decide +kernel
theorem test_passage_exits :
    (after (.passage [3, 0, 0, 0, 0x2A, 0x62])
      (withPlatoons [(0, ⟨1, some ⟨.inbound, some 0, 3, 10842, 161, 22, 2, some 10640, 12062⟩, none⟩)] (clear 11010))).platoons[0] =
    ⟨1, none, some ⟨1, .exited, 11010⟩⟩ := by decide +kernel

/-- The outbound group of section 7.8: its creation, its loss, and the two stale reads. -/
theorem test_platoon_lost :
    (after (.platoonLost 0)
      (withPlatoons [(0, ⟨2, some ⟨.outbound, some 3, 2, 11519, 58, 5, 0, none, 12719⟩, none⟩)] (clear 12719))).platoons[0] =
    ⟨2, none, some ⟨2, .lost, 12719⟩⟩ := by decide +kernel
theorem test_stale_reads :
    let s := withPlatoons [(0, ⟨2, none, some ⟨2, .lost, 12719⟩⟩)] (clear 12800)
    answer (.readPlatoon [0, 2]) s = some (.refused, .staleId, [1, 2, 3, 0, 0, 0x31, 0xAF]) ∧
      answer (.readPlatoon [0, 1]) s = some (.refused, .staleId, [0, 0, 0, 0, 0, 0, 0]) := by decide +kernel

/-- The entry report of section 7.3, and the dissolution on the first link. -/
theorem test_entry_report : (after (.platoonSeen [0, 0, 0, 0x4E, 0x20, 6, 0, 40]) (clear 20000)).platoons[0] =
    ⟨1, some ⟨.inbound, none, 0, 20288, 76, 6, 0, none, 21488⟩, none⟩ := by decide +kernel
theorem test_dissolved_on_first_link :
    answer (.platoonSeen [1, 0, 0, 0, 0x4E, 0x20, 9, 0x02, 0xEE]) (clear 20000) = some (.done, .dissolved, [4]) ∧
    answer (.platoonSeen [1, 0, 0, 0, 0x4E, 0x20, 9, 0x01, 0x68]) (clear 20000) = some (.done, .dissolved, [0]) ∧
    ((answer (.platoonSeen [1, 0, 0, 0, 0x4E, 0x20, 9, 0x01, 0x63]) (clear 20000)).map fun r => r.2.1) = some .none := by
  decide +kernel

/-- The merge that dissolves, with the partner's spread 390 and 370. -/
def partnerOf (spread : Nat) : State :=
  withPlatoons [(5, ⟨3, some ⟨.inbound, some 0, 2, 30000, spread, 4, 1, some 29640, 31200⟩, none⟩)] (clear 29610)
theorem test_merge_dissolves :
    answer (.platoonSeen [1, 0, 0, 0, 0x73, 0xAA, 4, 0, 0]) (partnerOf 390) = some (.done, .dissolved, [5, 3, 0]) ∧
    (after (.platoonSeen [1, 0, 0, 0, 0x73, 0xAA, 4, 0, 0]) (partnerOf 390)).platoons[5].live = none := by decide +kernel
theorem test_merge_survives :
    ((after (.platoonSeen [1, 0, 0, 0, 0x73, 0xAA, 4, 0, 0]) (partnerOf 370)).platoons[5].live.map fun p => (p.head, p.spread)) =
      some (29970, 400) := by decide +kernel

/-- The full table of section 7.4: slots 7, 12 and 30 hold counts of 2, every other slot a count of 3. -/
def fullTable : State :=
  let p (count : Nat) (head : Ct) : Slot Platoon := ⟨4, some ⟨.outbound, some 3, 2, head, 40, count, 0, none, head + 1200⟩, none⟩
  ((clear 40000).setPlatoons (Vector.replicate 32 (p 3 40300))) |>
    withPlatoons [(7, p 2 40400), (12, p 2 40650), (30, p 2 40650)]
theorem test_eviction :
    (after (.platoonSeen [0, 0, 0, 0, 0x9C, 0x40, 3, 0, 0]) fullTable).platoons[30] =
      ⟨5, some ⟨.inbound, some 0, 1, 40252, 31, 3, 0, none, 41452⟩, none⟩ ∧
    (after (.platoonSeen [0, 0, 0, 0, 0x9C, 0x40, 3, 0, 0]) fullTable).alerts.latched = AlertSource.platoonEvicted.only := by
  decide +kernel
theorem test_table_full :
    answer (.platoonSeen [0, 0, 0, 0, 0x9C, 0x40, 2, 0, 0]) fullTable = some (.refused, .tableFull, []) ∧
    (after (.platoonSeen [0, 0, 0, 0, 0x9C, 0x40, 2, 0, 0]) fullTable).alerts.latched = AlertSource.platoonRefused.only := by
  decide +kernel

/-- The list sequence of section 7.7: 4/3, then 9/1, then 2/5. -/
def listed (now : Ct) : State :=
  withPlatoons [(4, ⟨3, some ⟨.inbound, some 0, 1, 20100, 40, 5, 0, none, 21300⟩, none⟩),
    (9, ⟨1, some ⟨.inbound, some 0, 2, 20100, 40, 5, 1, none, 21300⟩, none⟩),
    (2, ⟨5, some ⟨.inbound, some 0, 2, 20300, 40, 5, 1, none, 21500⟩, none⟩)] (clear now)
/-- The identifier a list step returns, and the sequence it leaves. -/
def listStep (c : Instr) (s : State) : Option (List Byte) × Option (Ct × Nat) :=
  ((answer c s).map fun r => r.2.2.take 2, (after c s).port.sequence.map fun q => (q.keyTime, q.keySlot))
theorem test_list_platoons : listStep (.listPlatoons [255, 2]) (listed 20000) = (some [4, 3], some (20100, 4)) ∧
    listStep (.listPlatoons [1, 2]) (listed 20000) = (some [4, 3], none) := by decide +kernel
theorem test_continue_list :
    listStep (.continueList []) ((listed 20110).setPort ⟨.idle, false, some ⟨.platoons none none, 20100, 4⟩, false, []⟩) =
      (some [9, 1], some (20100, 9)) ∧
    listStep (.continueList []) ((listed 20120).setPort ⟨.idle, false, some ⟨.platoons none none, 20100, 9⟩, false, []⟩) =
      (some [2, 5], none) := by decide +kernel

theorem test_cancel_platoon : (after (.cancelPlatoon [4, 3]) (listed 20000)).platoons[4] = ⟨3, none, some ⟨3, .cancelled, 20000⟩⟩ ∧
    answer (.cancelPlatoon [32, 0]) (listed 20000) = some (.refused, .outOfRange, []) := by decide +kernel

/-- The morning of section 8.2: tag 205 checks in at junction 1; tag 412, granted, moves its ETA. -/
theorem test_check_in_creates :
    (after (.checkIn [1, 0, 0, 205, 0, 0, 0, 0x34, 0x44]) (clear 13100)).priorities[0] =
      ⟨1, some ⟨205, 1, .inbound, .regular, 13380, 13680, none⟩, none⟩ := by decide +kernel
theorem test_check_in_updates :
    let s := withPriorities [(2, ⟨1, some ⟨412, 2, .inbound, .late, 13650, 13950, some (.early, 13400)⟩, none⟩)] (clear 13500)
    (after (.checkIn [2, 0, 0x01, 0x9C, 1, 0, 0, 0x35, 0x48]) s).priorities[2] =
      ⟨1, some ⟨412, 2, .inbound, .late, 13640, 13940, some (.early, 13400)⟩, none⟩ := by decide +kernel
theorem test_check_out_by_tag :
    let s := withPriorities [(2, ⟨1, some ⟨412, 2, .inbound, .late, 13640, 13940, some (.early, 13400)⟩, none⟩)] (clear 13660)
    (after (.checkOut [0x01, 0x9C, 2]) s).priorities[2] = ⟨1, none, some ⟨1, .checkedOut, 13660⟩⟩ := by decide +kernel
theorem test_priority_expires :
    let s := withPriorities [(0, ⟨1, some ⟨205, 1, .inbound, .regular, 13380, 13680, none⟩, none⟩)] (clear 13680)
    (after (.priorityExpiry 0) s).priorities[0] = ⟨1, none, some ⟨1, .expired, 13680⟩⟩ ∧
      (after (.priorityExpiry 0) s).alerts.latched = AlertSource.priorityExpired.only := by decide +kernel

/-- The full list of section 8.5: slots 6 and 9 have the latest REGULAR ETA, and 9 is the higher. -/
def fullList : State :=
  let r (tag j : Nat) (eta : Ct) (g : Option (GrantKind × Ct)) : Slot Priority :=
    ⟨6, some ⟨tag, j, .inbound, .regular, eta, eta + 300, g⟩, none⟩
  ((clear 40100).setPriorities
    (Vector.replicate 16 ⟨6, some ⟨900, 3, .outbound, .late, 40300, 40600, none⟩, none⟩)) |>
    withPriorities [(3, r 118 0 40200 none), (6, r 230 3 40900 (some (.extension, 40000))), (9, r 231 1 40900 none),
      (11, r 305 2 40500 none), (14, r 412 2 40650 none)]
theorem test_full_list_evicts :
    (after (.checkIn [1, 0, 0x02, 0x08, 1, 0, 0, 0x9D, 0x6C]) fullList).priorities[9] =
      ⟨7, some ⟨520, 1, .inbound, .late, 40300, 40600, none⟩, none⟩ := by decide +kernel
theorem test_full_list_refuses :
    answer (.checkIn [2, 0, 0x02, 0x09, 0, 0, 0, 0x9D, 0xD0]) fullList = some (.refused, .tableFull, []) := by decide +kernel

/-- READ PRIORITY of a WAITING record (12.2), and LIST PRIORITY at one junction. -/
theorem test_read_priority : ((answer (.readPriority [9, 6]) fullList).map fun r => slice r.2.2 1 22) =
    some [9, 6, 0, 0, 231, 1, 0, 0, 0, 0, 0x9F, 0xC4, 0, 0, 0xA0, 0xF0, 0, 0, 0, 0, 0, 0] := by decide +kernel
theorem test_list_priority : ((answer (.listPriority [2]) fullList).map fun r => slice r.2.2 1 2) = some [11, 6] := by
  decide +kernel
theorem test_clear_records : answer (.clearRecords []) fullList = some (.done, .none, [0, 16]) ∧
    (after (.clearRecords []) fullList).priorities[3] = ⟨6, none, some ⟨6, .cleared, 40100⟩⟩ := by decide +kernel

/-! ## Chapters 9 to 12 -/

/-- The preemption of section 9.1: begun from IN_STEP, refreshed, ended. -/
theorem test_preempt_begin : answer (.preemptBegin [1]) evening =
    some (.done, .none, [4, 0, 0, 0xC3, 0x50, 0, 0, 0xCF, 0x08]) := by decide +kernel
theorem test_preempt_refresh : answer (.preemptBegin [1])
    (running 61500 ⟨2, 17, 0, 0, 0, true⟩ 0
      (fourJunctions (.free .corridorFree) (.preempt 60000 63000 .corridorFree) (.free .corridorFree) (.free .corridorFree))) =
    some (.done, .refreshed, [2, 0, 0, 0xEA, 0x60, 0, 0, 0xFB, 0xF4]) := by decide +kernel
theorem test_preempt_end : (after (.preemptEnd [1])
    (evening.updateJunction 1 fun j => { j with state := .preempt 47000 51000 .seek })).junctions[1]? =
      some (junctionIn (some 500) 280 (entering 50000)) := by decide +kernel
theorem test_preempt_deadline :
    let s := evening.updateJunction 1 fun j => { j with state := .preempt 47000 50000 .seek }
    (after (.preemptDeadline 1) s).junctions[1]? = some (junctionIn (some 500) 280 (entering 50000)) ∧
      (after (.preemptDeadline 1) s).alerts.latched = AlertSource.preemptTimeout.only := by decide +kernel

/-- The bouncing contact of section 9.2: IN2 low from 70015, validated at 70055. -/
def contact (now run : Ct) : State :=
  { clear now with inputs := (Vector.replicate 4 Input.reset).set 2 ⟨.corridorFree, .activeLow, 40, 5, .low, some run, false⟩ }
theorem test_contact_not_yet : (after (.inputValidation 2) (contact 70054 70015)).inputs[2].validated = false := by
  decide +kernel
theorem test_contact_validates : (after (.inputValidation 2) (contact 70055 70015)).corridorFree = true ∧
    ((after (.inputValidation 2) (contact 70055 70015)).junctions.map Junction.state) =
      List.replicate 4 (.free .corridorFree) := by decide +kernel
theorem test_set_input : (after (.setInput [0, 3, 2, 0, 40, 2]) State.reset).inputs[0] =
      ⟨.planForce 2, .activeLow, 40, 2, .high, none, false⟩ ∧
    answer (.setInput [4, 0, 0, 0, 2, 2]) State.reset = some (.refused, .outOfRange, []) := by decide +kernel
theorem test_read_inputs : ((answer (.readInputs []) State.reset).map fun r => slice r.2.2 1 20) =
    some [0, 0, 0, 0, 0, 0, 0, 0, 0, 0, 0, 0, 2, 2, 2, 2, 2, 2, 2, 2] := by decide +kernel

/-- The lamp of section 9.5: fast after reset, slow while a junction seeks or is preempted, steady in step. -/
theorem test_lamp : State.reset.lampPattern = .fast ∧ morning.lampPattern = .slow ∧ evening.lampPattern = .steady ∧
    (after (.preemptBegin [1]) evening).lampPattern = .slow := by decide +kernel
theorem test_blink : (after .statusBlink State.reset).lampOn = false ∧
    (after .statusBlink (after .statusBlink State.reset)).lampOn = true := by decide +kernel

/-- The port: a request, its completion, its result, and what reaches a busy port (section 10.1). -/
def answered : State := after .executionComplete (after (.lockEdits []) State.reset)
theorem test_result_then_idle : answered.statusByte = 0x92 ∧ (after (.resultTransaction 5) answered).port.sdo =
      [0x92, 0x51, 1, 0, 0, 0] ∧ (after (.resultTransaction 5) answered).port.state = .idle := by decide +kernel
theorem test_result_cut_short : (after (.resultTransaction 4) answered).port.state = answered.port.state := by decide +kernel
theorem test_busy_port_rejects : (after (.lockEdits []) answered).port.rejected = true ∧
    (after (.portReset 0) (after (.lockEdits []) answered)).port = ⟨.idle, false, none, true, [0x96]⟩ := by decide +kernel
theorem test_status : (after (.statusTransaction 2) State.reset).port.sdo = [0x80, 0x80, 0x00] := by decide +kernel
theorem test_send_discarded : (after (.sendDiscarded [0x18, 69, 1]) State.reset).port.rejected = true ∧
    (after (.voidTransaction [0x00, 0x01]) State.reset).port.rejected = false := by decide +kernel
theorem test_port_refusals : answer (.unknownRequest 0x16 []) State.reset = some (.refused, .unknownRequest, []) ∧
    answer (.readClock [0]) State.reset = some (.refused, .badFrame, []) ∧
    answer (.setGroup [0, 0, 0, 0]) (after (.resultTransaction 5) answered) = some (.refused, .locked, []) := by decide +kernel

/-- The alert unit: pulse mode, acknowledgement, and the pending set after reset (chapter 11). -/
theorem test_pulse : (after (.setAlertConfig [0, 0x01, 1, 1, 0, 0, 0, 0]) State.reset).alerts.pulseEnd = some 1 ∧
    (after .pulseEnd { after (.setAlertConfig [0, 0x01, 1, 1, 0, 0, 0, 0]) State.reset with time := { TimeBase.reset with ct := 1 } }).alertPin
      = false := by decide +kernel
theorem test_acknowledge :
    answer (.acknowledgeAlerts [0x00, 0xE0]) (State.reset.latch .syncSlip) = some (.done, .none, [0x00, 0x80]) ∧
    answer (.acknowledgeAlerts [0x20, 0x00]) State.reset = some (.refused, .outOfRange, []) := by decide +kernel
theorem test_read_alerts : answer (.readAlerts []) State.reset = some (.done, .none, [0, 1, 0, 0, 0, 0, 0, 0, 0, 0, 0, 0, 0]) := by
  decide +kernel
theorem test_reset : after (.reset (.rise .high)) (morning.setPending [.minuteMark]) =
    { State.reset with time := { TimeBase.reset with syncHeld := .high }, pending := [.minuteMark] } := by decide +kernel
/-- RESET held low: nothing is counted, the outputs are off, and a SEND clocks out nothing; after the rise CT counts
from 0 (R174). -/
theorem test_held_in_reset :
    let s := after (.reset .fall) morning
    after (.lockEdits []) (after (.ctCount .low .high .high .high .high) s) = s ∧ s.port.sdo = [] ∧ s.lampOn = false ∧
      s.sdoDriven .low = false ∧
      (after (.ctCount .high .high .high .high .high) (after (.reset (.rise .high)) s)).time.ct = 1 := by decide +kernel
theorem test_read_corridor : ((answer (.readCorridor []) before7).map fun r => slice r.2.2 1 16) =
    some [4, 1, 0x90, 0, 0, 0, 50, 1, 0x90, 1, 0x2C, 0x0B, 0xB8, 1, 0, 50] := by decide +kernel
theorem test_read_junction : ((answer (.readJunction [1]) before7).map fun r => slice r.2.2 1 4) = some [0x01, 0xF4, 0x01, 0x18] ∧
    answer (.readJunction [4]) before7 = some (.refused, .notConfigured, []) := by decide +kernel
theorem test_read_group : answer (.readGroup [1]) (before7.setGroups ranges) = some (.done, .none, [1, 5, 2]) := by decide +kernel

/-! ## The invariants hold of a running corridor -/

/-- The morning with two platoons on link 1, a WAITING priority record, a retirement note, a pulse running and
the booking of junction 2 waiting. -/
def busy : State :=
  { morning with
    platoons := ((morning.platoons.set 0 ⟨1, some platoonA, none⟩).set 1
      ⟨1, some ⟨.inbound, some 0, 2, 10680, 100, 5, 1, some 10320, 11880⟩, none⟩).set 2 ⟨3, none, some ⟨3, .lost, 9000⟩⟩
    priorities := morning.priorities.set 0 ⟨1, some ⟨205, 2, .inbound, .late, 10600, 10900, none⟩, none⟩
    alerts := ⟨AlertSource.planChanged.only, 0x1FFF, true, .pulse, 0x20, 0, some 10201⟩
    pending := [.booking 2] }

/-- The step of a state answers this state. -/
def stepped (s : State) : State :=
  match step s with
  | .next t => t
  | .fault _ | .refused _ => s

theorem busy_time : TimeOk busy := ⟨by unfold ClockInRange; decide +kernel, by decide +kernel⟩

theorem busy_corridor : CorridorOk busy := by
  refine ⟨by decide +kernel, by unfold SettingsInRange; decide +kernel, ?_, by decide +kernel, by decide +kernel⟩
  unfold GroupInRange
  decide +kernel

theorem busy_store : StoreOk busy := by
  refine ⟨?_, ?_, by decide +kernel, by decide +kernel, by decide +kernel, ?_, by decide +kernel⟩
  · have h : ∀ k : Fin 8, (busy.plans[k]).all Plan.inRange = true := by decide +kernel
    intro k p hp
    have := h k
    rw [hp] at this
    exact this
  · unfold EntryInRange
    decide +kernel
  · intro i h
    cases h

theorem busy_plans : PlansOk busy := by
  refine ⟨?_, fun q h => by cases h⟩
  intro a h
  obtain rfl : active2 800 = a := Option.some.inj h
  exact ⟨rfl, plan2, by decide +kernel, by decide +kernel, by unfold ActiveAgrees; decide +kernel⟩

theorem busy_junctions : JunctionsSuit busy := by
  unfold JunctionsSuit
  decide +kernel

theorem busy_quiet : QuietUnderPlan0 busy := by
  intro h
  cases h

theorem busy_cycles : CyclesOk busy := by
  refine ⟨busy_store.plans, ?_, by decide +kernel⟩
  have h : ∀ jn ∈ busy.junctions, (jn.cycle?.all fun c => decide (c.x ≤ c.held.xMax ∧ c.held.xMax ≤ 300 ∧
      c.y ≤ c.held.eMax ∧ c.held.eMax ≤ 300 ∧ c.held.r ≤ 7 ∧ c.held.m ≤ 50)) = true := by decide +kernel
  intro jn hj c hc
  have := h jn hj
  rw [hc] at this
  have bounds := of_decide_eq_true this
  exact bounds

theorem busy_platoons : PlatoonsOk busy := by
  refine ⟨fun h => (by cases h), by decide +kernel, ?_⟩
  have h : ∀ e ∈ busy.livePlatoons, decide (e.2.cur < 4 ∧ e.2.origin = some 0 ∧ e.2.spread ≤ 400 ∧ 1 ≤ e.2.count ∧
      e.2.count ≤ 99 ∧ e.2.dir = .inbound ∧ e.2.links ≤ e.2.cur) = true := by decide +kernel
  intro e he
  obtain ⟨h1, h2, h3, h4, h5, h6, h7⟩ := of_decide_eq_true (h e he)
  refine ⟨h1, fun o ho => ?_, h3, h4, h5, by rw [h6]; exact h7⟩
  rw [h2] at ho
  obtain rfl := Option.some.inj ho
  decide

theorem busy_apart : PlatoonsApart busy := ⟨fun h => (by cases h), by decide +kernel, by decide +kernel⟩

theorem busy_priorities : PrioritiesOk busy := by
  refine ⟨fun h => (by cases h), ?_, by decide +kernel⟩
  unfold PriorityInRange
  decide +kernel

theorem busy_notes : NotesOk busy := by
  have h : (∀ k : Fin 32, (busy.platoons[k].note.all fun n => decide (busy.platoons[k].live = none ∧ n.gen = busy.platoons[k].gen))
      = true) ∧ ∀ k : Fin 16, busy.priorities[k].note = none := by decide +kernel
  refine ⟨fun k n hn => ?_, fun k n hn => ?_⟩
  · have := h.1 k
    rw [hn] at this
    exact of_decide_eq_true this
  · rw [h.2 k] at hn
    cases hn

/-- The corridor above meets every invariant, and its step books junction 2: the hypotheses of
StoredValuesStayInRange, NotesAlertsAndFramesStaySound, PlanInEffectStaysValid, JunctionsStaySuited,
CyclesStayInBounds, PlatoonRecordsStayApart and PriorityRecordsStayUnique together. -/
theorem witness_invariants : Safe busy ∧ step busy = .next (stepped busy) ∧
    (stepped busy).junctions ≠ busy.junctions :=
  ⟨⟨busy_time, busy_corridor, busy_store, busy_plans, busy_junctions, busy_quiet, busy_cycles, busy_platoons, busy_apart,
    busy_priorities, busy_notes, ⟨by decide +kernel, by decide +kernel⟩, trivial⟩, rfl, by decide +kernel⟩

/-- P_ref agrees with the clock there, and a count keeps the day. -/
theorem witness_PRefFollowsDayClock : TimeOk busy ∧ PlansOk busy ∧ PRefAgrees busy ∧
    (after (.ctCount .low .high .high .high .high) busy).time.clock.day = busy.time.clock.day := by
  refine ⟨busy_time, busy_plans, ?_, by decide +kernel⟩
  intro a p h
  have e : busy.activeRecord = some (active2 800, plan2) := by decide +kernel
  rw [e] at h
  cases h
  decide +kernel


/-! ## The hypotheses of the statements are met: the whole part and the port -/

theorem witness_StepRunsFrontCommand : busy.pending = .booking 2 :: [] ∧ State.reset.pending = [] := ⟨rfl, rfl⟩

theorem witness_ResetGivesResetValues : (after (.reset .fall) busy).inReset = true ∧ (∀ e, Instr.minuteMark ≠ .reset e) ∧
    busy.inReset = false := ⟨rfl, by simp, rfl⟩

theorem witness_ResetStateIsSafe : exec (.reset .fall) busy = .next (after (.reset .fall) busy) := rfl

theorem witness_OnlyCountsMoveCorridorTime :
    Running busy ∧ ¬ Running (after (.reset .fall) busy) ∧
    (∀ l, Instr.ctCount .low .low .low .low .low ≠ .reset l) ∧
    exec (.ctCount .low .low .low .low .low) busy = .next (after (.ctCount .low .low .low .low .low) busy) ∧
    (∀ l, Instr.booking 2 ≠ .reset l) ∧ (∀ y a b d e, Instr.booking 2 ≠ .ctCount y a b d e) ∧
    exec (.booking 2) busy = .next (after (.booking 2) busy) ∧ busy.time.clock.valid = true :=
  ⟨rfl, by decide +kernel, by simp, rfl, by simp, by simp, rfl, rfl⟩

/-- A plain refusal, and the refusal of a full table. -/
theorem witness_RefusalChangesNothing :
    (∃ f, (Instr.readClock [0]).code? = some 0x02 ∧ Idle busy ∧
      exec (.readClock [0]) busy = .next (after (.readClock [0]) busy) ∧
      (after (.readClock [0]) busy).port.state = .executing f false ∧ f.cls = .refused) ∧
    ∃ f, (Instr.platoonSeen [0, 0, 0, 0, 0x9C, 0x40, 2, 0, 0]).code? = some 0x30 ∧ Idle fullTable ∧
      (after (.platoonSeen [0, 0, 0, 0, 0x9C, 0x40, 2, 0, 0]) fullTable).port.state = .executing f false ∧
      f.cls = .refused ∧ f.reason = .tableFull :=
  ⟨⟨⟨0x02, .refused, .badFrame, true, false, false, false, []⟩, rfl, ⟨rfl, rfl⟩, rfl, by decide +kernel, rfl⟩,
    ⟨⟨0x30, .refused, .tableFull, false, false, false, false, []⟩, rfl, ⟨rfl, rfl⟩, by decide +kernel, rfl, rfl⟩⟩

/-- The running corridor with the edit lock set. -/
def lockedCorridor : State := morning.setPort { morning.port with editLock := true }
/-- The running corridor with the edit gate closed by an unasserted EDIT_ENABLE input. -/
def gatedCorridor : State := morning.setInputs (morning.inputs.set 1 ⟨.editEnable, .activeLow, 2, 2, .high, none, false⟩)

theorem witness_EditLockFreezesConfiguration :
    (∀ l, Instr.setGroup [0, 0, 4, 1] ≠ .reset l) ∧ lockedCorridor.port.editLock = true ∧
    exec (.setGroup [0, 0, 4, 1]) lockedCorridor = .next (after (.setGroup [0, 0, 4, 1]) lockedCorridor) :=
  ⟨by simp, rfl, rfl⟩

/-- In PULSE mode a preemption brings PREEMPT_ACTIVE into the active set. -/
theorem witness_PulseFollowsJoiningSources :
    let s := busy.setAlerts { busy.alerts with pulseEnd := none }
    let c : Instr := .preemptBegin [1]
    Plain c ∧ exec c s = .next (after c s) ∧ (∀ l, c ≠ .reset l) ∧ (∀ y a b d e, c ≠ .ctCount y a b d e) ∧ c ≠ .pulseEnd ∧
      (∀ ps k, c ≠ .setAlertConfig ps k) ∧ (after c s).alerts.mode = .pulse ∧ (after c s).activeSet &&& ~~~s.activeSet ≠ 0 :=
  ⟨trivial, rfl, by simp, by simp, by simp, by simp, rfl, by decide +kernel⟩

theorem witness_PortAnswersWholeFrames : (Instr.readClock []).code? = some 0x02 ∧ (Instr.readClock []).params? = some [] ∧
    (Instr.readClock [] 3).extra = 3 ∧ Running busy ∧ busy.port.state = .idle ∧ Running answered ∧
    answered.port.state ≠ .idle ∧ (Instr.unknownRequest 0x02 []).code? = some 0x02 := by decide +kernel

theorem witness_PortRefusesFrames : Idle morning ∧
    ((Instr.unknownRequest 0x16 []).code? = some 0x16 ∧ (0x16 : Byte) ∉ Config.requestCodes) ∧
    ((Instr.setPlan [1]).code? = some 0x18 ∧ (Instr.setPlan [1]).params? = some [1] ∧ (0x18 : Byte) ∈ Config.requestCodes ∧
      [(1 : Byte)].length ∉ definedLengths 0x18) ∧
    (Instr.setGroup [0, 0, 4, 1]).code? = some 0x14 ∧ (0x14 : Byte) ∈ editCodes ∧
    [(0 : Byte), 0, 4, 1].length ∈ definedLengths 0x14 ∧ Idle lockedCorridor ∧ ¬ EditsOpen lockedCorridor ∧
    Idle gatedCorridor ∧ ¬ EditsOpen gatedCorridor := by
  unfold Idle EditsOpen
  decide +kernel

/-- A request of the longest frame, one with bytes beyond its frame, a STATUS transaction, and a SEND that is not whole. -/
theorem witness_TransactionsDecodeToTheirCommands :
    (Instr.setPlan (List.replicate 255 7)).wf = true ∧
    encodeTransaction (.setPlan (List.replicate 255 7)) = some (0xA1 :: 0x18 :: 255 :: List.replicate 255 7) ∧
    (∀ frame, Instr.setPlan (List.replicate 255 7) = .sendDiscarded frame → wholeFrame frame = none) ∧
    (Instr.lockEdits [] 2).wf = true ∧ encodeTransaction (.lockEdits [] 2) = some [0xA1, 0x51, 0, 0, 0] ∧
    (Instr.statusTransaction 1).wf = true ∧ encodeTransaction (.statusTransaction 1) = some [0xA2, 0] ∧
    (Instr.sendDiscarded [0x18, 1]).wf = true ∧ encodeTransaction (.sendDiscarded [0x18, 1]) = some [0xA1, 0x18, 1] ∧
    ∀ frame, Instr.sendDiscarded [0x18, 1] = .sendDiscarded frame → wholeFrame frame = none := by
  refine ⟨by decide +kernel, by decide +kernel, fun frame h => (by cases h), rfl, rfl, rfl, rfl, rfl, rfl, ?_⟩
  intro frame h
  cases h
  rfl

/-- A port that executes a request, and one whose result is marked for discard. -/
def executing : State := after (.lockEdits []) State.reset
def discarding : State := after (.portReset 0) executing
/-- The frame that port executes. -/
def lockFrame : ResultFrame := ⟨0x51, .done, .none, false, false, false, false, []⟩

theorem witness_DiscardedAndResetTransactions :
    Running answered ∧ answered.port.state ≠ .idle ∧ ([] : List Byte).length < 2 ∧ [(0x18 : Byte), 1].length < 2 + ([(0x18 : Byte), 1].getD 1 0).toNat ∧
    (0xA0 : Byte) ∉ ([0xA1, 0xA2, 0xA3, 0xAF] : List Byte) ∧ Running State.reset ∧ State.reset.port.state = .idle ∧
    answered.port.state = .result lockFrame ∧ Running executing ∧ executing.port.state = .executing lockFrame false := by
  decide +kernel

theorem witness_ResultIsHeldUntilRead : Running executing ∧ Running discarding ∧ Running answered ∧
    executing.port.state = .executing lockFrame false ∧ discarding.port.state = .executing lockFrame true ∧
    answered.port.state = .result lockFrame ∧ 5 + lockFrame.payload.length = 5 ∧
    ∀ f, State.reset.port.state ≠ .result f := by
  refine ⟨rfl, rfl, rfl, by decide +kernel, by decide +kernel, by decide +kernel, rfl, fun f h => by cases h⟩

theorem witness_StatusByteReportsPort : Running answered ∧ State.reset.port.state = .idle ∧
    executing.port.state = .executing lockFrame false ∧ answered.port.state = .result lockFrame := by decide +kernel

/-! ## Chapter 1 -/

/-- The end of the week under plan 2 at P_ref 899, and the same clock under plan 0: nothing is due. -/
def endOfWeek : State := running 10200 ⟨7, 23, 59, 59, 9, true⟩ 899 []
def endOfWeekParked : State := parked 10200 ⟨7, 23, 59, 59, 9, true⟩
theorem witness_CountAdvancesClocks :
    (Running endOfWeek ∧ NothingDue endOfWeek ∧ ClockInRange endOfWeek.time.clock ∧ endOfWeek.activeRecord = some (active2 899, plan2) ∧
      (active2 899).pRef < plan2.c) ∧
    Running endOfWeekParked ∧ NothingDue endOfWeekParked ∧ ClockInRange endOfWeekParked.time.clock ∧ endOfWeekParked.activeRecord = none := by
  unfold NothingDue ClockInRange
  decide +kernel

/-- Positions 0, 1, 300, 301 and 599 within the minute. -/
theorem witness_SyncStepToNearestMinute :
    (∀ k ∈ ([⟨7, 23, 59, 0, 0, true⟩, ⟨7, 23, 59, 0, 1, true⟩, ⟨7, 23, 59, 30, 0, true⟩, ⟨7, 23, 59, 30, 1, true⟩,
      ⟨7, 23, 59, 59, 9, true⟩] : List DayClock), ClockInRange k) ∧
    ([⟨7, 23, 59, 0, 0, true⟩, ⟨7, 23, 59, 0, 1, true⟩, ⟨7, 23, 59, 30, 0, true⟩, ⟨7, 23, 59, 30, 1, true⟩,
      ⟨7, 23, 59, 59, 9, true⟩] : List DayClock).map (fun k => k.second * 10 + k.tenth) = [0, 1, 300, 301, 599] := by
  unfold ClockInRange
  decide +kernel

/-- A pulse with sync enable no, one with an invalid clock, one beyond Ts and one of exactly Ts. -/
theorem witness_SyncPulseStepsClock :
    let off := State.reset
    let invalid := (clockAt 16 0 4 304).setTime { (clockAt 16 0 4 304).time with clock := ⟨2, 7, 16, 0, 4, false⟩ }
    let slip := clockAt 16 5 1 351
    let within := clockAt 16 5 0 350
    (Running off ∧ Running invalid ∧ Running slip ∧ Running within) ∧
    (ClockInRange off.time.clock ∧ off.time.syncHeld = .low ∧ off.settings.syncEnable = false) ∧
    (ClockInRange invalid.time.clock ∧ invalid.time.syncHeld = .low ∧ invalid.settings.syncEnable = true ∧
      invalid.time.clock.valid = false) ∧
    (ClockInRange slip.time.clock ∧ slip.settings.syncEnable = true ∧ slip.time.clock.valid = true ∧
      slip.settings.ts < (syncStep slip.time.clock.minutePosition).natAbs) ∧
    ClockInRange within.time.clock ∧ within.time.clock.valid = true ∧
    (syncStep within.time.clock.minutePosition).natAbs = within.settings.ts ∧
    within.activeRecord = some (active2 350, plan2) ∧ (active2 350).pRef < plan2.c := by
  unfold ClockInRange
  decide +kernel

theorem witness_SyncLossPulseEndAndBlink :
    let s := (before7.setTime { before7.time with lastPulse := 7200 }).setAlerts ⟨0, 0, true, .pulse, 0, 0, some 9000⟩
    Running s ∧ Running State.reset ∧ Running morning ∧ s.settings.syncEnable = true ∧ s.time.syncLost = false ∧ s.time.ct = s.time.lastPulse + 1800 ∧
    s.alerts.pulseEnd = some s.time.ct ∧ s.alerts.mode = .pulse ∧ State.reset.lampPattern = .fast ∧
    morning.lampPattern = .slow ∧ Running evening ∧ evening.lampPattern = .steady ∧ Running before7 ∧
    before7.lampPattern = .off := by decide +kernel

/-- The running corridor with input 3 forcing plan 8. -/
def forced8 (s : State) : State := s.setInputs (s.inputs.set 3 ⟨.planForce 8, .activeLow, 2, 2, .low, none, true⟩)

theorem forcing_none : Forcing busy none := by
  intro k p h
  have e : ∀ k : Fin 4, busy.inputs[k].func = .none := by decide +kernel
  rw [e k] at h
  cases h

theorem forcing_8 : Forcing (forced8 busy) (some (3, 8)) := by
  refine ⟨by decide +kernel, by decide +kernel, fun m q hm h => ?_⟩
  have e : ∀ m : Fin 4, m < 3 → (forced8 busy).inputs[m].func = .none := by decide +kernel
  rw [e m hm] at h
  cases h

/-- The last junction, live records at junction 2, the active plan and an empty record, no plan and no clock, and both
cases of a forced plan. -/
theorem witness_ReadsChangeOnlyThePort :
    (Idle busy ∧ busy.activeRecord = some (active2 800, plan2) ∧ busy.time.clock.valid = true ∧
      busy.selector.active.isSome = true ∧ busy.plans[(7 : Fin 8)] = none ∧ busy.plans[(1 : Fin 8)] = some plan2) ∧
    (busy.junctions[(3 : Byte).toNat]? = some (junctionIn none 200 (inCycle 9335 900 380 .side)) ∧ (3 : Byte).toNat < busy.n) ∧
    (busy.platoons[(0 : Fin 32)].live = some platoonA ∧
      busy.junctions[platoonA.cur]? = some (junctionIn (some 280) 300 (entering 10200))) ∧
    (busy.priorities[(0 : Fin 16)].live = some ⟨205, 2, .inbound, .late, 10600, 10900, none⟩) ∧
    (before7.time.clock.valid = true ∧ before7.selector.active = none) ∧
    (Idle State.reset ∧ State.reset.time.clock.valid = false ∧ State.reset.selector.active = none) ∧
    (busy.n ≤ (4 : Byte).toNat ∧ (0 : Byte).toNat = 0 ∧ 8 < (9 : Byte).toNat ∧ 24 ≤ (24 : Byte).toNat) ∧
    Forcing busy none ∧ Idle (forced8 busy) ∧ Forcing (forced8 busy) (some (3, 8)) := by
  refine ⟨by unfold Idle; decide +kernel, by decide +kernel, by decide +kernel, by decide +kernel, by decide +kernel,
    by unfold Idle; decide +kernel, by decide +kernel, forcing_none, ⟨rfl, rfl⟩, forcing_8⟩

/-! ## Chapters 2 to 4 -/

/-- The parked corridor with a preempted junction 3. -/
def preempted3 : State := before7.updateJunction 3 fun j => { j with state := .preempt 8000 11000 .plan0 }

theorem before7_corridor : CorridorOk before7 := by
  refine ⟨by decide +kernel, by unfold SettingsInRange; decide +kernel, ?_, by decide +kernel, by decide +kernel⟩
  unfold GroupInRange
  decide +kernel

/-- N of 24, N of 0, a plan in use, settings just out of their ranges, and a preempted junction that N of 3 would drop. -/
theorem witness_SetCorridorResizes :
    (Idle before7 ∧ EditsOpen before7 ∧ CorridorOk before7 ∧ before7.selector.active = none ∧
      SettingsInRange ⟨3000, 0, 10, 900, 50, 6000, true, 300⟩ ∧
      (∀ j ∈ before7.junctions.drop 24, j.state.isPreempt = false) ∧
      ∀ j ∈ before7.junctions.drop 0, j.state.isPreempt = false) ∧
    (Idle morning ∧ EditsOpen morning ∧ (resetSettings 4).length = 16 ∧ morning.selector.active.isSome = true) ∧
    (∀ v ∈ ([3000, 3001, 10, 100, 50, 300, 1] : List Nat), v ≤ 65535) ∧ (25 : Byte).toNat = 25 ∧ (2 : Byte).toNat = 2 ∧
    Idle preempted3 ∧ EditsOpen preempted3 ∧ preempted3.selector.active = none ∧
    ∃ j ∈ preempted3.junctions.drop 3, j.state.isPreempt = true := by
  refine ⟨⟨⟨rfl, rfl⟩, by unfold EditsOpen; decide +kernel, before7_corridor, rfl, by unfold SettingsInRange; decide +kernel,
    by decide +kernel, by decide +kernel⟩, ⟨⟨rfl, rfl⟩, by unfold EditsOpen; decide +kernel, rfl, rfl⟩, by decide, rfl, rfl,
    ⟨rfl, rfl⟩,
    by unfold EditsOpen; decide +kernel, rfl, by decide +kernel⟩

/-- The last junction takes link length 0; an inner one takes 20 to 3000. -/
theorem witness_SetJunctionWritesGeometry :
    (Idle before7 ∧ EditsOpen before7 ∧ before7.selector.active = none ∧ before7.selector.pendingPlan = none ∧
      before7.junctions[(3 : Byte).toNat]? = some (junctionIn none 200 (.free .plan0)) ∧ (3 : Byte).toNat + 1 = before7.n ∧
      before7.junctions[(2 : Byte).toNat]? = some (junctionIn (some 280) 300 (.free .plan0)) ∧
      (2 : Byte).toNat + 1 ≠ before7.n ∧ (2 : Byte).toNat < before7.n ∧ (3001 : Nat) ≤ 65535 ∧ before7.n ≤ (4 : Byte).toNat) ∧
    EditsOpen morning ∧ morning.selector.active.isSome = true := by
  unfold Idle EditsOpen
  decide +kernel

/-- Entry 3 over junction 23, and over 2: junction 2 of the running corridor gains EXCLUDE. -/
theorem witness_SetGroupMovesExcludedJunctions : Idle evening ∧ EditsOpen evening ∧ (3 : Byte).toNat < 4 ∧
    (23 : Byte).toNat + (1 : Byte).toNat ≤ 24 ∧ (15 : Byte).toNat < 16 ∧ 4 ≤ (4 : Byte).toNat ∧
    24 < (23 : Byte).toNat + (2 : Byte).toNat ∧ 16 ≤ (16 : Byte).toNat ∧
    (evening.attributes 2).exclude = false ∧ ((after (.setGroup [3, 2, 1, 1]) evening).attributes 2).exclude = true := by
  unfold Idle EditsOpen
  decide +kernel

/-- The bytes of plan 5 under number 0, under the active number, with a cycle of 0, and as they are. -/
theorem carriesPlan5 (b : Byte) : CarriesPlan (plan5Bytes.set 0 b) plan5 :=
  ⟨rfl, rfl, rfl, rfl, rfl, rfl, rfl, rfl, rfl, rfl, rfl, rfl, rfl, rfl, fun j => by revert j; decide +revert +kernel⟩

/-- Plan 5 of chapter 3 under its own number, under 0 and 9 and the active 2, and with a cycle of one below its range. -/
theorem witness_SetPlanStoresRecord :
    (Idle morning ∧ EditsOpen morning ∧ morning.activeNumber = 2 ∧ morning.selector.pendingPlan = none) ∧
    (∀ b : Byte, (plan5Bytes.set 0 b).length = 69 ∧ num8 (plan5Bytes.set 0 b) 0 = b.toNat ∧
      CarriesPlan (plan5Bytes.set 0 b) plan5) ∧ PlanInRange plan5 ∧
    (num16 ((plan5Bytes.set 1 0x01).set 2 0x8F) 1 = 399 ∧
      CarriesPlan ((plan5Bytes.set 1 0x01).set 2 0x8F) { plan5 with c := 399 } ∧ ¬ PlanInRange { plan5 with c := 399 }) := by
  refine ⟨by unfold Idle EditsOpen; decide +kernel, fun b => ⟨rfl, rfl, carriesPlan5 b⟩,
    ⟨by decide, by decide, by decide, by decide, by decide, by decide, by decide, by decide, by decide, by decide, by decide,
      by decide, by decide, by decide, by decide +kernel⟩, rfl,
    ⟨rfl, rfl, rfl, rfl, rfl, rfl, rfl, rfl, rfl, rfl, rfl, rfl, rfl, rfl, by decide +kernel⟩, fun h => absurd h.c.1 (by decide)⟩

/-- b0 in place, b0 above and b0 below, with the exact half of the cycle. -/
theorem witness_OutboundStepIsNearest :
    outboundStep 900 (inboundStep 900 360) (outboundResidue 900 400) = 500 ∧
    outboundStep 900 (inboundStep 900 202) (outboundResidue 900 224) = -224 ∧
    outboundStep 900 (inboundStep 900 600) (outboundResidue 900 750) = 1050 ∧
    2 * (outboundResidue 900 450 - inboundStep 900 900) = 900 := by decide +kernel

theorem witness_OffsetsFollowWeightedMean : 0 < plan2.c ∧ plan2.w ≤ 16 ∧ [252, 360, 202].length = [280, 400, 224].length ∧
    [252, 360, 202][2]? = some 202 ∧ [280, 400, 224][2]? = some 224 ∧
    (planOffsets plan2 [252, 360, 202] [280, 400, 224])[2]? = some 739 := by decide +kernel

/-- The evening boundary with plan 3 pending, with plan 0 pending, and with none; one junction preempted. -/
def atBoundary (q : Option Nat) : State :=
  let s := running 50300 ⟨2, 17, 0, 30, 0, true⟩ 0
    (fourJunctions (inCycle 49400 900 420 .side) (.preempt 50000 53000 .seek) (inCycle 50150 889 450 .green) (.free .fault))
  { s with time := { s.time with boundaryDue := true }, selector := { s.selector with pendingPlan := q } }

theorem witness_BoundaryTakesPendingPlan : Running (atBoundary (some 3)) ∧ Running (atBoundary none) ∧
    (atBoundary none).time.boundaryDue = true ∧ (atBoundary (some 3)).time.boundaryDue = true ∧
    (atBoundary (some 3)).selector.pendingPlan = some 3 ∧ (atBoundary (some 3)).planRecord 3 = some plan3 ∧ 0 < plan3.c ∧
    2 ≤ (atBoundary (some 3)).n ∧ (atBoundary none).selector.pendingPlan = none := by decide +kernel

theorem witness_BoundaryTakesPlanZero : Running (atBoundary (some 0)) ∧ (atBoundary (some 0)).time.boundaryDue = true ∧
    (atBoundary (some 0)).selector.pendingPlan = some 0 := by decide +kernel

theorem plan2_valid (s : State) (h2 : s.plans = before7.plans) (hj : failedCheck plan2 s.junctions = none) : ValidPlan 2 s :=
  ⟨plan2, by unfold State.planRecord; rw [h2]; decide +kernel, hj⟩

theorem plan3_valid (s : State) (h2 : s.plans = before7.plans) (hj : failedCheck plan3 s.junctions = none) : ValidPlan 3 s :=
  ⟨plan3, by unfold State.planRecord; rw [h2]; decide +kernel, hj⟩


/-- One state for each outcome: a plan above 8, forced, the active plan, a valid one under another, plan 0, an
invalid clock, an empty record, an invalid record, and a valid one from plan 0. -/
theorem witness_ActivatePlanOutcomes : Idle morning ∧ 8 < (9 : Byte).toNat ∧ (forced8 morning).forced.isSome = true ∧
    morning.forced = none ∧ (2 : Byte).toNat = morning.activeNumber ∧ (0 : Byte).toNat ≠ morning.activeNumber ∧
    (morning.selector.active.isSome = true ∧ morning.time.clock.valid = true ∧ ValidPlan (3 : Byte).toNat morning) ∧
    State.reset.time.clock.valid = false ∧ State.reset.forced = none ∧ (2 : Byte).toNat ≠ State.reset.activeNumber ∧
    morning.planRecord (8 : Byte).toNat = none ∧ morning.planRecord (5 : Byte).toNat = some plan5 ∧
    failedCheck plan5 morning.junctions = some ⟨7, some 2⟩ ∧ before7.selector.active = none ∧
    before7.time.clock.valid = true ∧ before7.forced = none ∧ before7.planRecord (2 : Byte).toNat = some plan2 ∧
    failedCheck plan2 before7.junctions = none ∧ Idle before7 ∧ Idle State.reset ∧ Idle (forced8 morning) :=
  ⟨⟨rfl, rfl⟩, by decide, by decide +kernel, by decide +kernel, by decide +kernel, by decide +kernel,
    ⟨rfl, rfl, plan3_valid morning rfl (by decide +kernel)⟩, rfl, by decide +kernel, by decide +kernel, by decide +kernel,
    by decide +kernel, by decide +kernel, rfl, rfl, by decide +kernel, by decide +kernel, by decide +kernel, ⟨rfl, rfl⟩,
    ⟨rfl, rfl⟩, ⟨rfl, rfl⟩⟩

/-- A minute mark of a state at Monday 17:00:00.0 whose entry 23 names a plan. -/
def marked (plan : Nat) (enabled : Bool) : State :=
  let s := running 50000 ⟨1, 17, 0, 0, 0, true⟩ 600 evening.junctions
  { s with
    time := { s.time with markDue := true }
    selector := { s.selector with schedule := s.selector.schedule.set 23 ⟨enabled, 1, 17, 0, plan⟩, scheduled := 2 } }

theorem marked8_invalid : ¬ ValidPlan 8 (marked 8 true) := by
  rintro ⟨p, hp, -⟩
  have e : (marked 8 true).planRecord 8 = none := by decide +kernel
  rw [e] at hp
  cases hp

/-- The same mark with another requested plan before it, and the same mark under plan 0. -/
def markedFrom (requested plan : Nat) : State :=
  let s := marked plan true
  { s with selector := { s.selector with requested := requested, pendingPlan := some requested } }
def markedParked : State :=
  let s := marked 2 true
  { s with selector := { s.selector with requested := 0, active := none }, junctions := before7.junctions }

/-- A matching entry and none; and the outcomes: no activation, a cancelled pending plan, plan 0, an empty record, a
valid plan under another, and one from plan 0. -/
theorem witness_MinuteMarkRunsScheduleMatch :
    (Running (marked 3 true) ∧ (marked 3 true).time.markDue = true ∧
      EntryMatches (marked 3 true).selector.schedule[(23 : Fin 24)] (marked 3 true).time.clock ∧
      (∀ m : Fin 24, m.val < 23 → ¬ EntryMatches (marked 3 true).selector.schedule[m] (marked 3 true).time.clock) ∧
      (after .minuteMark (marked 3 true)).selector.requested = 3 ∧ (marked 3 true).selector.requested = 2 ∧
      (marked 3 true).time.clock.valid = true ∧ (marked 3 true).activeNumber = 2 ∧
      (marked 3 true).selector.active.isSome = true ∧ ValidPlan 3 (marked 3 true)) ∧
    (after .minuteMark (marked 8 true)).selector.requested = 8 ∧ ¬ ValidPlan 8 (marked 8 true) ∧
    (after .minuteMark (marked 0 true)).selector.requested = 0 ∧ (marked 0 true).selector.requested ≠ 0 ∧
    (after .minuteMark (markedFrom 3 2)).selector.requested = (markedFrom 3 2).activeNumber ∧
    (markedFrom 3 2).selector.requested = 3 ∧
    ((after .minuteMark markedParked).selector.requested = 2 ∧ markedParked.selector.requested = 0 ∧
      markedParked.selector.active = none ∧ markedParked.planRecord 2 = some plan2 ∧
      failedCheck plan2 markedParked.junctions = none) ∧
    (∀ m : Fin 24, ¬ EntryMatches (marked 3 false).selector.schedule[m] (marked 3 false).time.clock) ∧
    (after .minuteMark (marked 3 false)).selector.requested = (marked 3 false).selector.requested := by
  refine ⟨⟨rfl, rfl, ?_, ?_, by decide +kernel, rfl, rfl, by decide +kernel, rfl, plan3_valid _ rfl (by decide +kernel)⟩,
    by decide +kernel, marked8_invalid, by decide +kernel, by decide +kernel, by decide +kernel, rfl,
    ⟨by decide +kernel, rfl, rfl, by decide +kernel, by decide +kernel⟩, ?_, by decide +kernel⟩
  · unfold EntryMatches; decide +kernel
  · unfold EntryMatches; decide +kernel
  · unfold EntryMatches; decide +kernel

/-- The catch-up of section 4.4 under plan 2, the clock invalid, nothing enabled, and an hour in which the entry
of plan 3 is the nearest. -/
theorem witness_ResumeCatchesUp :
    let late := scheduled (running 50000 ⟨2, 17, 14, 35, 0, true⟩ 600 evening.junctions)
    (Idle late ∧ ClockInRange late.time.clock ∧ (∀ k : Fin 24, EntryInRange late.selector.schedule[k]) ∧
      late.time.clock.valid = true ∧ late.selector.schedule[(1 : Fin 24)].enabled = true ∧
      late.selector.schedule[(1 : Fin 24)].days.getLsbD 1 = true ∧
      (∀ (m : Fin 24) (e : Fin 7), late.selector.schedule[m].enabled = true → late.selector.schedule[m].days.getLsbD e.val = true →
        distanceBack late.time.clock late.selector.schedule[(1 : Fin 24)] 2 <
            distanceBack late.time.clock late.selector.schedule[m] (e.val + 1) ∨
          (distanceBack late.time.clock late.selector.schedule[(1 : Fin 24)] 2 =
            distanceBack late.time.clock late.selector.schedule[m] (e.val + 1) ∧ 1 ≤ m.val)) ∧
      (after (.resumeSchedule []) late).selector.requested = 3 ∧ late.target = 2 ∧ ValidPlan 3 late) ∧
    (State.reset.time.clock.valid = false ∧ ∀ k : Fin 24, EntryInRange State.reset.selector.schedule[k]) ∧
    (∀ k : Fin 24, before7.selector.schedule[k].enabled = true → before7.selector.schedule[k].days = 0) ∧
    (after (.resumeSchedule []) before7).selector.requested = before7.target ∧ before7.selector.requested = before7.target := by
  refine ⟨⟨⟨rfl, rfl⟩, by unfold ClockInRange; decide +kernel, by unfold EntryInRange; decide +kernel, rfl, by decide +kernel,
    by decide +kernel, ?_, by decide +kernel, by decide +kernel, plan3_valid _ rfl (by decide +kernel)⟩,
    ⟨rfl, by unfold EntryInRange; decide +kernel⟩, by decide +kernel, by decide +kernel, by decide +kernel⟩
  unfold distanceBack
  decide +kernel

/-- SET CLOCK at Tuesday 07:14:35 or 17:14:35 on the schedule of section 4.4: from plan 0 (plan 2 takes effect), under
plan 2 (no activation, a cancelled pending plan, plan 3 pending), with nothing enabled (plan 0), and forced to plan 8. -/
theorem witness_SetClockActs :
    let early : Instr := .setClock [0x02, 0x07, 0x14, 0x35]
    let late : Instr := .setClock [0x02, 0x17, 0x14, 0x35]
    let pending := (scheduled morning).setSelector { (scheduled morning).selector with requested := 3, pendingPlan := some 3 }
    (Idle morning ∧ morning.activeRecord = some (active2 800, plan2) ∧ plan2.c ≠ 0) ∧
    (∀ i : Fin 24, EntryInRange (scheduled morning).selector.schedule[i]) ∧
    ((scheduled before7).activeRecord = none ∧ (after early (scheduled before7)).selector.requested = 2 ∧
      (scheduled before7).selector.requested = 0 ∧ failedCheck plan2 before7.junctions = none) ∧
    (after early (scheduled morning)).selector.requested = (scheduled morning).target ∧
    (after early pending).selector.requested = pending.activeNumber ∧ pending.selector.requested = 3 ∧
    (after late (scheduled morning)).selector.requested = 3 ∧ failedCheck plan3 morning.junctions = none ∧
    (after early morning).selector.requested = 0 ∧ morning.selector.requested = 2 ∧
    (after early (forced8 morning)).selector.requested = 8 ∧ (forced8 morning).planRecord 8 = none ∧
    0x23 < (0x24 : Byte).toNat ∧ 9 < (0x1A : Byte).toNat % 16 ∧ 7 < (0x08 : Byte).toNat := by
  unfold EntryInRange
  decide +kernel

theorem witness_SetScheduleEntryStoresEntry : Idle morning ∧ EditsOpen morning ∧ (23 : Byte).toNat < 24 ∧
    (1 : Byte).toNat ≤ 1 ∧ (127 : Byte).toNat < 128 ∧ (23 : Byte).toNat ≤ 23 ∧ (59 : Byte).toNat ≤ 59 ∧ (8 : Byte).toNat ≤ 8 := by
  unfold Idle EditsOpen
  decide +kernel

/-! ## Chapters 5 and 6 -/

/-- Junction 2 at a booking with its window: entering SEEK, and IN_STEP at the end of its cycle. -/
theorem atBooking_entering : AtBooking 2 (active2 800) plan2 (junctionIn (some 280) 300 (entering 10200)) ⟨10200, 0, none⟩ morning :=
  ⟨rfl, by decide +kernel, by decide +kernel, .inl rfl, by decide +kernel⟩
theorem atBooking_inStep : AtBooking 2 (active2 800) plan2 (junctionIn (some 280) 300 (inCycle 9300 900 450 .side))
    ⟨9300, 0, some ⟨900, 9750, .side, 0, 0, 0, ⟨450, 150, 100, 20, 2⟩⟩⟩ atBooking2 :=
  ⟨rfl, by decide +kernel, by decide +kernel, .inr rfl, by decide +kernel⟩

/-- Junction 2 at its eighth booking in SEEK. -/
def lastSeek : State := morning.updateJunction 2 fun j => { j with state := .seek ⟨10200, 7, none⟩ }
theorem atBooking_lastSeek : AtBooking 2 (active2 800) plan2 (junctionIn (some 280) 300 (.seek ⟨10200, 7, none⟩)) ⟨10200, 7, none⟩ lastSeek :=
  ⟨rfl, by decide +kernel, by decide +kernel, .inl rfl, by decide +kernel⟩

/-- The running corridor with P_ref 739 + e at the booking of junction 2. -/
def driftOf (e : Nat) (c2 : Coordination) : State :=
  running 10200 ⟨2, 7, 0, 20, 0, true⟩ (739 + e) (fourJunctions (entering 10200) (entering 10200) c2 (entering 10200))
theorem atBooking_drift (e : Nat) (h : e = 20 ∨ e = 40 ∨ e = 41) (w : Window) (c2 : Coordination) (hw : c2 = .seek w ∨ c2 = .inStep w)
    (ht : (10200 : Ct) = (match w.cycle with
      | some c => w.start + BitVec.ofNat 32 c.lc
      | none => w.start)) :
    AtBooking 2 (active2 (739 + e)) plan2 (junctionIn (some 280) 300 c2) w (driftOf e c2) := by
  refine ⟨rfl, ?_, rfl, hw, ht⟩
  rcases h with rfl | rfl | rfl <;> rfl

/-- Each verdict: drift 61 leaves step, 40 keeps it, 20 ends SEEK, 61 in SEEK goes on, and at the eighth faults. -/
theorem witness_BookingJudgesDrift : 0 < plan2.c ∧ (active2 800).offsets[(2 : Fin 24).val]? = some 739 ∧
    (driftOfJunction (active2 800) plan2 2).natAbs = 61 ∧ plan2.hOut < 61 ∧
    (driftOfJunction (active2 779) plan2 2).natAbs = plan2.hOut ∧ (driftOfJunction (active2 759) plan2 2).natAbs = plan2.hIn ∧
    0 + 1 < plan2.k ∧ 7 + 1 = plan2.k ∧
    AtBooking 2 (active2 800) plan2 (junctionIn (some 280) 300 (entering 10200)) ⟨10200, 0, none⟩ morning ∧
    AtBooking 2 (active2 800) plan2 (junctionIn (some 280) 300 (.seek ⟨10200, 7, none⟩)) ⟨10200, 7, none⟩ lastSeek ∧
    AtBooking 2 (active2 759) plan2 (junctionIn (some 280) 300 (entering 10200)) ⟨10200, 0, none⟩ (driftOf 20 (entering 10200)) ∧
    AtBooking 2 (active2 779) plan2 (junctionIn (some 280) 300 (inCycle 9300 900 450 .side))
      ⟨9300, 0, some ⟨900, 9750, .side, 0, 0, 0, ⟨450, 150, 100, 20, 2⟩⟩⟩ (driftOf 40 (inCycle 9300 900 450 .side)) :=
  ⟨by decide, rfl, by decide +kernel, by decide, by decide +kernel, by decide +kernel, by decide, by decide, atBooking_entering,
    atBooking_lastSeek, atBooking_drift 20 (.inl rfl) _ _ (.inl rfl) rfl,
    atBooking_drift 40 (.inr (.inl rfl)) _ _ (.inr rfl) rfl⟩

/-- The four corrections, at the bounds of their ranges, and bookings that fault and that do not. -/
theorem witness_BookingSetsUpCycle : plan2.s * 4 ≤ plan2.c ∧ 620 + 280 ≤ plan2.c ∧ 450 + 300 ≤ plan2.c ∧
    -(plan2.c : Int) < 2 * (-449) ∧ 2 * 450 ≤ (plan2.c : Int) ∧
    correctedLength plan2 450 300 450 = 840 ∧ correctedLength plan2 620 280 450 = 960 ∧ correctedLength plan2 450 300 (-449) = 960 ∧
    AtBooking 2 (active2 800) plan2 (junctionIn (some 280) 300 (inCycle 9300 900 450 .side))
      ⟨9300, 0, some ⟨900, 9750, .side, 0, 0, 0, ⟨450, 150, 100, 20, 2⟩⟩⟩ atBooking2 ∧
    ((after (.booking 2) atBooking2).junctions.map fun j => j.state.isFault)[2]? = some false ∧
    AtBooking 2 (active2 800) plan2 (junctionIn (some 280) 300 (.seek ⟨10200, 7, none⟩)) ⟨10200, 7, none⟩ lastSeek ∧
    ((after (.booking 2) lastSeek).junctions.map fun j => j.state.isFault)[2]? = some true :=
  ⟨by decide, by decide, by decide, by decide, by decide, by decide +kernel, by decide +kernel, by decide +kernel,
    atBooking_inStep, by decide +kernel, atBooking_lastSeek, by decide +kernel⟩

/-- The corridor with junction 1 in FREE(FAULT). -/
def faulted : State := morning.updateJunction 1 fun j => { j with state := .free .fault }
theorem witness_ResyncRestartsFaultedJunction : Idle faulted ∧ faulted.n ≤ (4 : Byte).toNat ∧
    faulted.junctions[(1 : Byte).toNat]? = some (junctionIn (some 500) 280 (.free .fault)) ∧
    faulted.junctions[(2 : Byte).toNat]? = some (junctionIn (some 280) 300 (entering 10200)) ∧
    (entering 10200) ≠ .free .fault := by
  unfold Idle
  decide +kernel

/-- The evening with junction 1 preempted out of its window, one spillback flag set there, and a platoon of each
direction approaching it. -/
def preempted1 : State :=
  withPlatoons [(3, ⟨1, some ⟨.inbound, some 0, 1, 50100, 40, 5, 0, none, 51300⟩, none⟩),
      (4, ⟨1, some ⟨.inbound, some 0, 1, 50300, 40, 5, 0, none, 51500⟩, none⟩),
      (31, ⟨1, some ⟨.outbound, some 2, 1, 50200, 40, 5, 0, none, 51400⟩, none⟩)]
    (evening.updateJunction 1 fun j => { j with state := .preempt 47000 51000 .seek, spillIn := some 50500 })

/-- A booked window, the partial one, each cause of FREE, a preemption, and the heads of both directions. -/
theorem witness_WindowQueryReportsWindow :
    let s := withA 10300 (morningCycle 840 10650 .green 0)
    (Idle s ∧ s.n ≤ (4 : Byte).toNat ∧
      s.junctions[(2 : Byte).toNat]? = some (junctionIn (some 280) 300 (morningCycle 840 10650 .green 0)) ∧
      s.activeRecord = some (active2 0, plan2) ∧ (active2 0).offsets[(2 : Byte).toNat]? = some 739 ∧
      (0, platoonA) ∈ s.livePlatoons ∧ (∀ e ∈ s.livePlatoons, e.2.cur ≠ 2 ∨ e.2.dir ≠ .outbound)) ∧
    (Idle morning ∧ morning.junctions[(2 : Byte).toNat]? = some (junctionIn (some 280) 300 (.seek ⟨10200, 0, none⟩))) ∧
    (Idle faulted ∧ faulted.junctions[(1 : Byte).toNat]? = some (junctionIn (some 500) 280 (.free .fault))) ∧
    (Idle before7 ∧ before7.selector.active = none ∧
      before7.junctions[(0 : Byte).toNat]? = some (junctionIn (some 350) 250 (.free .plan0))) ∧
    (Idle preempted1 ∧ preempted1.junctions[(1 : Byte).toNat]? =
        some ⟨some 500, 280, .preempt 47000 51000 .seek, 0, false, some 50500, none⟩ ∧
      (3, ⟨.inbound, some 0, 1, 50100, 40, 5, 0, none, 51300⟩) ∈ preempted1.livePlatoons ∧
      (∀ f ∈ preempted1.livePlatoons, f.2.cur = 1 → f.2.dir = .inbound →
        f.2.head = 50100 ∨ before 50100 f.2.head = true) ∧
      (31, ⟨.outbound, some 2, 1, 50200, 40, 5, 0, none, 51400⟩) ∈ preempted1.livePlatoons) := by decide +kernel

/-- WINDOW QUERY 1 there: the presence bytes, the state with its return state, and the heads (R80, R81). -/
theorem test_window_query_preempted :
    ((answer (.windowQuery [1]) preempted1).map fun r =>
      (slice r.2.2 0 3, slice r.2.2 7 7, slice r.2.2 14 4, slice r.2.2 36 5, slice r.2.2 46 16)) =
    some ([0x03, 0xE8, 0x01], [4, 4, 2, 0x03, 0x84, 0x01, 0x58], [0, 0, 0, 0], [1, 0, 0, 0xC5, 0x44],
      [0, 0, 0xB7, 0x98, 0, 0, 0xC7, 0x38, 0, 0, 0xC3, 0xB4, 0, 0, 0xC4, 0x18]) := by decide +kernel

/-- The window of junction 2 in the cycle of section 6.2. -/
def morningWindow (lc : Nat) (greenEnd : Ct) (x : Nat) : Window :=
  ⟨10200, 0, some ⟨lc, greenEnd, .green, x, 0, 61, ⟨450, 150, 100, 20, 2⟩⟩⟩

/-- Junction 2 at the green-end check of a count, with platoon A there. -/
theorem atGreenEnd_A (now : Ct) (lc x : Nat) :
    AtGreenEnd 2 (junctionIn (some 280) 300 (.seek (morningWindow lc now x))) (morningWindow lc now x)
      ⟨lc, now, .green, x, 0, 61, ⟨450, 150, 100, 20, 2⟩⟩ (withA now (.seek (morningWindow lc now x))) :=
  ⟨rfl, rfl, .inl rfl, rfl, rfl, rfl⟩

/-- The check of section 6.3 at junction 1, and the same without its inbound platoon and with NO_EXTEND instead of
QUEUE_GUARD. -/
def mixedWindow : Window := ⟨30000, 0, some ⟨900, 30400, .green, 0, 0, 0, ⟨400, 150, 100, 20, 2⟩⟩⟩
def mixedJunction : Junction := ⟨some 500, 280, .inStep mixedWindow, 0, false, none, some 30600⟩
theorem atGreenEnd_mixed (s : State) (hr : s.inReset = false) (hj : s.junctions[1]? = some mixedJunction) (ht : s.time.ct = 30400) :
    AtGreenEnd 1 mixedJunction mixedWindow ⟨900, 30400, .green, 0, 0, 0, ⟨400, 150, 100, 20, 2⟩⟩ s :=
  ⟨hr, hj, .inr rfl, rfl, rfl, ht⟩
def guarded : State := withPlatoons [(0, ⟨1, none, none⟩)] (mixed.setPriorities (Vector.replicate 16 ⟨0, none, none⟩))
def noExtend : State := mixed.setGroups (mixed.groups.set 0 ⟨1, 1, ⟨false, false, false, true⟩⟩)

/-- An outbound platoon held back by QUEUE_GUARD extends nothing, and a bus is served under NO_EXTEND. -/
theorem test_queue_guard_closes : ((after (.greenEndCheck 1) guarded).junctions.map fun j => j.cycle?.map Cycle.phase)[1]? =
    some (some .side) := by decide +kernel
theorem test_no_extend_serves_bus :
    ((after (.greenEndCheck 1) noExtend).junctions.map fun j => j.cycle?.map Cycle.greenEnd)[1]? = some (some 30530) := by
  decide +kernel

/-- Junction 2 with platoon A there and one priority record, the green end now. -/
def withBus (now : Ct) (lc x : Nat) (cls : PriorityClass) (eta : Ct) : State :=
  withPriorities [(0, ⟨1, some ⟨205, 2, .inbound, cls, eta, eta + 300, none⟩, none⟩)]
    (withA now (.seek (morningWindow lc now x)))

theorem atGreenEnd_bus (now : Ct) (lc x : Nat) (cls : PriorityClass) (eta : Ct) :
    AtGreenEnd 2 (junctionIn (some 280) 300 (.seek (morningWindow lc now x))) (morningWindow lc now x)
      ⟨lc, now, .green, x, 0, 61, ⟨450, 150, 100, 20, 2⟩⟩ (withBus now lc x cls eta) :=
  ⟨rfl, rfl, .inl rfl, rfl, rfl, rfl⟩

/-- A check closes where a test that each candidate passes fails for every live record. -/
theorem closes_of {j : Nat} {q : Junction} {c : Cycle} {s : State} (f : Platoon → Bool) (g : Priority → Bool)
    (hf : ∀ r, PlatoonCandidate j q c r s → f r = true) (hg : ∀ r, PriorityCandidate j q c r s → g r = true)
    (h : (s.livePlatoons.all fun e => !f e.2) = true) (h' : (s.livePriorities.all fun e => !g e.2) = true) :
    Closes j q c s := by
  refine .inr ⟨fun e he hc => ?_, fun e he hc => ?_⟩
  · have := List.all_eq_true.mp h e he
    rw [hf e.2 hc] at this
    cases this
  · have := List.all_eq_true.mp h' e he
    rw [hg e.2 hc] at this
    cases this

/-- The second check of section 6.2, its platoon's tail and margin at now, with a bus whose ETA and margin lie at now. -/
theorem closes_at_now (cls : PriorityClass) : Closes 2 (junctionIn (some 280) 300 (.seek (morningWindow 886 10786 136)))
    ⟨886, 10786, .green, 136, 0, 61, ⟨450, 150, 100, 20, 2⟩⟩ (withBus 10786 886 136 cls 10766) :=
  closes_of (fun r => before 10786 (r.head + BitVec.ofNat 32 r.spread + BitVec.ofNat 32 20))
    (fun r => before 10786 (r.eta + BitVec.ofNat 32 20)) (fun _ h => h.tail) (fun _ h => h.after)
    (by cases cls <;> decide +kernel) (by cases cls <;> decide +kernel)

/-- A check whose platoon's head and margin lie beyond the reach, and a bus one count beyond it. -/
theorem closes_beyond (cls : PriorityClass) : Closes 2 (junctionIn (some 280) 300 (.seek (morningWindow 990 10499 0)))
    ⟨990, 10499, .green, 0, 0, 61, ⟨450, 150, 100, 20, 2⟩⟩ (withBus 10499 990 0 cls 10630) :=
  closes_of (fun r => atOrBefore (r.head + BitVec.ofNat 32 20) (10499 + BitVec.ofNat 32 (150 - 0)))
    (fun r => atOrBefore (r.eta + BitVec.ofNat 32 20) (10499 + BitVec.ofNat 32 (150 - 0))) (fun _ h => h.head)
    (fun _ h => h.reach) (by cases cls <;> decide +kernel) (by cases cls <;> decide +kernel)

/-- A direction held back by QUEUE_GUARD leaves no candidate. -/
theorem closes_guarded : Closes 1 mixedJunction ⟨900, 30400, .green, 0, 0, 0, ⟨400, 150, 100, 20, 2⟩⟩ guarded := by
  have h : ∀ e ∈ guarded.livePlatoons, HeldBack 1 mixedJunction e.2.dir guarded := by
    unfold HeldBack
    decide +kernel
  have h' : guarded.livePriorities = [] := by decide +kernel
  exact .inr ⟨fun e he hc => hc.direction (h e he), fun e he => by rw [h'] at he; cases he⟩

/-- The closes: the reach spent, a direction held back, tail and ETA at now, head and ETA beyond the reach; the extension
of 6.2 to the tail, and one of a WAITING record under NO_EXTEND. -/
theorem witness_GreenEndClosesOrExtends :
    let c : Cycle := ⟨840, 10650, .green, 0, 0, 61, ⟨450, 150, 100, 20, 2⟩⟩
    let s := withA 10650 (.seek (morningWindow 840 10650 0))
    let bus : Priority := ⟨205, 1, .inbound, .regular, 30510, 30810, none⟩
    (AtGreenEnd 1 mixedJunction mixedWindow ⟨900, 30400, .green, 0, 0, 0, ⟨400, 150, 100, 20, 2⟩⟩ guarded ∧
      Closes 1 mixedJunction ⟨900, 30400, .green, 0, 0, 0, ⟨400, 150, 100, 20, 2⟩⟩ guarded ∧
      guarded.livePriorities = []) ∧
    (AtGreenEnd 2 (junctionIn (some 280) 300 (.seek (morningWindow 990 10800 150))) (morningWindow 990 10800 150)
        ⟨990, 10800, .green, 150, 0, 61, ⟨450, 150, 100, 20, 2⟩⟩ (withA 10800 (.seek (morningWindow 990 10800 150))) ∧
      Closes 2 (junctionIn (some 280) 300 (.seek (morningWindow 990 10800 150)))
        ⟨990, 10800, .green, 150, 0, 61, ⟨450, 150, 100, 20, 2⟩⟩ (withA 10800 (.seek (morningWindow 990 10800 150)))) ∧
    (AtGreenEnd 2 (junctionIn (some 280) 300 (.seek (morningWindow 886 10786 136))) (morningWindow 886 10786 136)
        ⟨886, 10786, .green, 136, 0, 61, ⟨450, 150, 100, 20, 2⟩⟩ (withBus 10786 886 136 .regular 10766) ∧
      Closes 2 (junctionIn (some 280) 300 (.seek (morningWindow 886 10786 136)))
        ⟨886, 10786, .green, 136, 0, 61, ⟨450, 150, 100, 20, 2⟩⟩ (withBus 10786 886 136 .regular 10766) ∧
      ∀ e ∈ (withBus 10786 886 136 .regular 10766).livePriorities, e.2.cls = .regular) ∧
    (AtGreenEnd 2 (junctionIn (some 280) 300 (.seek (morningWindow 990 10499 0))) (morningWindow 990 10499 0)
        ⟨990, 10499, .green, 0, 0, 61, ⟨450, 150, 100, 20, 2⟩⟩ (withBus 10499 990 0 .regular 10630) ∧
      Closes 2 (junctionIn (some 280) 300 (.seek (morningWindow 990 10499 0)))
        ⟨990, 10499, .green, 0, 0, 61, ⟨450, 150, 100, 20, 2⟩⟩ (withBus 10499 990 0 .regular 10630)) ∧
    (AtGreenEnd 2 (junctionIn (some 280) 300 (.seek (morningWindow 840 10650 0))) (morningWindow 840 10650 0) c s ∧
      s.livePriorities = [] ∧ s.platoons[(0 : Fin 32)].live = some platoonA ∧ platoonA.cur = (2 : Fin 24).val ∧
      (∀ e ∈ s.livePlatoons, e.2.cur = (2 : Fin 24).val → e.1 = 0) ∧ (s.attributes 2).noExtend = false ∧
      ¬ HeldBack 2 (junctionIn (some 280) 300 (.seek (morningWindow 840 10650 0))) platoonA.dir s ∧
      c.x < c.held.xMax ∧ platoonA.head = s.time.ct + BitVec.ofInt 32 (-20) ∧ (platoonA.spread : Int) = 116 - (-20) ∧
      (-20 : Int) + c.held.m + c.x ≤ c.held.xMax ∧ 0 < (116 : Int) + c.held.m ∧
      (morningWindow 840 10650 0).start + BitVec.ofNat 32 450 = s.time.ct) ∧
    AtGreenEnd 1 mixedJunction mixedWindow ⟨900, 30400, .green, 0, 0, 0, ⟨400, 150, 100, 20, 2⟩⟩ noExtend ∧
      (noExtend.attributes 1).noExtend = true ∧ noExtend.priorities[(0 : Fin 16)].live = some bus ∧
      Grantable 1 mixedJunction bus noExtend ∧ ¬ HeldBack 1 mixedJunction bus.dir noExtend ∧
      (∀ e ∈ noExtend.livePriorities, e.1 ≠ 0 → e.2.junction ≠ 1) ∧
      bus.eta = noExtend.time.ct + BitVec.ofInt 32 110 ∧ (110 : Int) + 20 + 0 ≤ (150 : Nat) ∧
      mixedWindow.start + BitVec.ofNat 32 400 = noExtend.time.ct := by
  refine ⟨⟨atGreenEnd_mixed _ rfl (by decide +kernel) rfl, closes_guarded, by decide +kernel⟩,
    ⟨atGreenEnd_A 10800 990 150, .inl (by decide)⟩,
    ⟨atGreenEnd_bus 10786 886 136 .regular 10766, closes_at_now .regular, by decide +kernel⟩,
    ⟨atGreenEnd_bus 10499 990 0 .regular 10630, closes_beyond .regular⟩,
    ⟨atGreenEnd_A 10650 840 0, by decide +kernel, rfl, rfl, by decide +kernel, by decide +kernel, ?_, by decide,
      by decide +kernel, by decide, by decide, by decide, by decide +kernel⟩, atGreenEnd_mixed _ rfl (by decide +kernel) rfl,
    by decide +kernel, by decide +kernel, ⟨rfl, rfl, rfl, rfl, by decide +kernel⟩, ?_, by decide +kernel, by decide +kernel,
    by decide, by decide +kernel⟩
  · unfold HeldBack; decide +kernel
  · unfold HeldBack; decide +kernel

/-- The extension of section 6.3 with its platoon and its record, and a close with x at its limit. -/
theorem witness_GreenEndStaysWithinReach :
    let bus : Priority := ⟨205, 1, .inbound, .regular, 30510, 30810, none⟩
    let c : Cycle := ⟨900, 30400, .green, 0, 0, 0, ⟨400, 150, 100, 20, 2⟩⟩
    (AtGreenEnd 1 mixedJunction mixedWindow c mixed ∧
      exec (.greenEndCheck 1) mixed = .next (after (.greenEndCheck 1) mixed) ∧
      (after (.greenEndCheck 1) mixed).junctions[(1 : Fin 24).val]? = some ⟨some 500, 280,
        .inStep ⟨30000, 0, some ⟨900, 30530, .green, 130, 0, 0, ⟨400, 150, 100, 20, 2⟩⟩⟩, 2, true, none, some 30600⟩ ∧
      mixed.priorities[(0 : Fin 16)].live = some bus ∧ PriorityCandidate 1 mixedJunction c bus mixed ∧
      mixed.platoons[(0 : Fin 32)].live = some ⟨.inbound, some 0, 1, 30380, 90, 9, 0, none, 31580⟩ ∧
      PlatoonCandidate 1 mixedJunction c ⟨.inbound, some 0, 1, 30380, 90, 9, 0, none, 31580⟩ mixed) ∧
    AtGreenEnd 2 (junctionIn (some 280) 300 (.seek (morningWindow 990 10800 150))) (morningWindow 990 10800 150)
      ⟨990, 10800, .green, 150, 0, 61, ⟨450, 150, 100, 20, 2⟩⟩ (withA 10800 (.seek (morningWindow 990 10800 150))) := by
  have free : ¬ HeldBack 1 mixedJunction .inbound mixed := by
    unfold HeldBack
    decide +kernel
  exact ⟨⟨atGreenEnd_mixed _ rfl (by decide +kernel) rfl, rfl, by decide +kernel, by decide +kernel,
    ⟨⟨rfl, rfl, rfl, rfl, by decide +kernel⟩, free, by decide +kernel, by decide +kernel⟩, by decide +kernel,
    ⟨rfl, free, by decide +kernel, by decide +kernel, by decide +kernel⟩⟩, atGreenEnd_A 10800 990 150⟩

theorem witness_SpillbackSetsAndExpires :
    let s : State := { mixed with time := { mixed.time with ct := 30600 } }
    Idle mixed ∧ Running s ∧ Running (s.updateJunction 0 fun j => j.setSpill .inbound (some 30600)) ∧ 1 < (2 : Byte).toNat ∧ mixed.n ≤ (4 : Byte).toNat ∧ (mixed.junctions[(3 : Byte).toNat]?).isSome = true ∧
    (s.junctions[(1 : Fin 24).val]?).map Junction.spillOut = some (some s.time.ct) ∧
    ((s.updateJunction 0 fun j => j.setSpill .inbound (some 30600)).junctions[(0 : Fin 24).val]?).map Junction.spillIn =
      some (some s.time.ct) := by
  unfold Idle
  decide +kernel

/-- A junction to preempt out of its window, out of FREE(FAULT) with and without CORRIDOR_FREE, and preempted ones. -/
theorem witness_PreemptionBeginsAndEnds :
    (Idle preempted3 ∧ preempted3.n ≤ (4 : Byte).toNat ∧
      preempted3.junctions[(3 : Byte).toNat]? = some (junctionIn none 200 (.preempt 8000 11000 .plan0)) ∧
      preempted3.junctions[(0 : Byte).toNat]? = some (junctionIn (some 350) 250 (.free .plan0))) ∧
    (Idle evening ∧ evening.junctions[(1 : Byte).toNat]? = some (junctionIn (some 500) 280 (inCycle 49744 900 400 .green))) ∧
    (faulted.junctions[(1 : Byte).toNat]? = some (junctionIn (some 500) 280 (.free .fault)) ∧ faulted.corridorFree = false) ∧
    (contact 70055 70015 |> after (.inputValidation 2)).corridorFree = true ∧
    (let s := evening.updateJunction 1 fun j => { j with state := .preempt 47000 50000 .seek }
     Running s ∧ s.junctions[(1 : Fin 24).val]? = some (junctionIn (some 500) 280 (.preempt 47000 s.time.ct .seek))) := by
  decide +kernel

/-! ## Chapters 7 and 8 -/

theorem clear_record (now : Ct) : (clear now).activeRecord = some (active2 0, plan2) := rfl
theorem now_inTime (now : Ct) : InTime now now := .inr (by simp)

/-- A report at junction 0, INBOUND, at now: link 0 of 252 ds; and one on the entry link. -/
theorem seen_clear (now : Ct) (count : Byte) (spread : Nat) (hc : count ≠ 0) (hs : spread ≤ 65535) :
    Seen .inbound (some 0) now count spread 1 252 (active2 0) plan2 (clear now) :=
  ⟨⟨rfl, rfl⟩, clear_record now, now_inTime now, hc, hs, (by change (0 : Nat) + 1 < 4; decide), by decide, by decide⟩
theorem seen_entry (now : Ct) : Seen .inbound none now 6 40 0 288 (active2 0) plan2 (clear now) :=
  ⟨⟨rfl, rfl⟩, clear_record now, now_inTime now, by decide, by decide, rfl, rfl⟩
/-- The outbound report of section 7.8, 5 ds old, and one in the future, at the edge of the admitted age. -/
theorem seen_outbound : Seen .outbound (some 3) 11295 5 30 2 224 (active2 0) plan2 (clear 11300) :=
  ⟨⟨rfl, rfl⟩, clear_record 11300, .inr (by decide +kernel), by decide, by decide, by decide, by decide, by decide⟩
theorem seen_edge : Seen .inbound (some 0) 9700 99 600 1 252 (active2 0) plan2 (clear 10000) ∧
    Seen .inbound (some 0) 10001 100 601 1 252 (active2 0) plan2 (clear 10000) :=
  ⟨⟨⟨rfl, rfl⟩, clear_record 10000, .inr (by decide +kernel), by decide, by decide, by decide, by decide, by decide⟩,
    ⟨⟨rfl, rfl⟩, clear_record 10000, .inl (by decide +kernel), by decide, by decide, by decide, by decide, by decide⟩⟩

/-- A spread of 369 on link 0 forms exactly Dl, and one of 370 dissolves; the refusals and the exit. -/
theorem witness_PlatoonSeenFormsRecord :
    Seen .inbound (some 0) 10000 14 369 1 252 (active2 0) plan2 (clear 10000) ∧
    (formedRecord .inbound (some 0) 1 252 900 300 14 369 10000).spread = (clear 10000).settings.dl ∧
    (clear 10000).settings.dl < (formedRecord .inbound (some 0) 1 252 900 300 14 370 10000).spread ∧
    (clear 10000).platoons[(0 : Fin 32)].live = none ∧
    (∀ e ∈ (clear 10000).livePlatoons, e.2.cur ≠ 1) ∧
    Idle before7 ∧ before7.selector.active = none ∧ (clear 10000).activeRecord.isSome = true ∧ 1 < (2 : Byte).toNat ∧
    (clear 10000).n ≤ (4 : Byte).toNat ∧ (active2 0).entryOut = none ∧ ¬ InTime 10000 9699 ∧
    (3 : Byte).toNat + 1 = (clear 10000).n ∧ (active2 0).entryIn.isSome = true :=
  ⟨seen_clear 10000 14 369 (by decide) (by decide), by decide +kernel, by decide +kernel, rfl, by decide +kernel, ⟨rfl, rfl⟩, rfl, rfl,
    by decide, by decide, rfl, by unfold InTime; decide +kernel, by decide, rfl⟩

/-- The partner of the merge that dissolves or survives, under its spread. -/
theorem partnerOf_seen (spread : Nat) : Seen .inbound (some 1) 29610 4 0 2 360 (active2 0) plan2 (partnerOf spread) :=
  ⟨⟨rfl, rfl⟩, rfl, now_inTime _, by decide, by decide, (by change (1 : Nat) + 1 < 4; decide), by decide, by decide⟩

/-- Merges that survive and dissolve, an eviction, and a refusal of a full table. -/
theorem witness_PlatoonSeenMergesOrEvicts :
    let formed := formedRecord .inbound (some 1) 2 360 900 300 4 0 29610
    let r (spread : Nat) : Platoon := ⟨.inbound, some 0, 2, 30000, spread, 4, 1, some 29640, 31200⟩
    formed.spread ≤ 400 ∧ Partner 5 (r 370) formed none (partnerOf 370) ∧ (mergedRecord (r 370) formed).spread = 400 ∧
    Partner 5 (r 390) formed none (partnerOf 390) ∧ (mergedRecord (r 390) formed).spread = 420 ∧
    Seen .inbound (some 0) 40000 3 0 1 252 (active2 0) plan2 fullTable ∧
    (∀ i : Fin 32, fullTable.platoons[i].live.isSome = true) ∧
    fullTable.platoons[(30 : Fin 32)].live = some ⟨.outbound, some 3, 2, 40650, 40, 2, 0, none, 41850⟩ ∧
    (∀ e ∈ fullTable.livePlatoons, e.2.dir ≠ .inbound) ∧
    (∀ e ∈ fullTable.livePlatoons, e.1 ≠ 30 → 2 < e.2.count ∨ (2 = e.2.count ∧
      (before e.2.head 40650 = true ∨ (e.2.head = 40650 ∧ e.1 < 30)))) ∧
    (2 : Nat) < (formedRecord .inbound (some 0) 1 252 900 300 3 0 40000).count ∧
    (formedRecord .inbound (some 0) 1 252 900 300 2 0 40000).count ≤ 2 := by
  refine ⟨by decide +kernel, ⟨by decide +kernel, by decide, rfl, rfl, by decide +kernel, by decide +kernel⟩, by decide +kernel,
    ⟨by decide +kernel, by decide, rfl, rfl, by decide +kernel, by decide +kernel⟩, by decide +kernel,
    ⟨⟨rfl, rfl⟩, rfl, now_inTime _, by decide, by decide, by decide, by decide, by decide⟩, by decide +kernel, by decide +kernel,
    by decide +kernel, by decide +kernel, by decide +kernel, by decide +kernel⟩

/-- Platoon A of section 7.8 at junction 1, at 2 with a partner ahead, and at 3. -/
def aAt (cur : Nat) (head : Ct) (spread : Nat) : Platoon := ⟨.inbound, some 0, cur, head, spread, 14, 0, none, head + 1200⟩
def holding (now : Ct) (p : Platoon) : State := withPlatoons [(0, ⟨1, some p, none⟩)] (clear now)
theorem passing_holding (now : Ct) (p : Platoon) (j : Byte) (h : j.toNat < 4) :
    Passing 0 p j now (active2 0) plan2 (holding now p) := ⟨⟨rfl, rfl⟩, rfl, rfl, h, now_inTime now⟩
/-- A at junction 2 with the record of the side street before it at junction 3. -/
def sideStreet : State :=
  withPlatoons [(0, ⟨1, some platoonA, none⟩), (1, ⟨1, some ⟨.inbound, some 2, 3, 10862, 45, 8, 0, none, 12062⟩, none⟩)] (clear 10640)

theorem witness_PassageMovesRecord :
    Passing 0 (aAt 1 10252 91) 1 10270 (active2 0) plan2 (holding 10270 (aAt 1 10252 91)) ∧
    (aAt 1 10252 91).cur = (1 : Byte).toNat ∧ Departs (active2 0) 4 .inbound (some 1) 2 360 ∧
    (advancedRecord (aAt 1 10252 355) 2 360 900 300 10270).spread = 400 ∧
    (advancedRecord (aAt 1 10252 356) 2 360 900 300 10270).spread = 401 ∧
    (∀ e ∈ (holding 10270 (aAt 1 10252 91)).livePlatoons, e.1 ≠ 0 → e.2.cur ≠ 2) ∧
    (aAt 1 10252 91).cur ≠ (2 : Byte).toNat ∧
    Passing 0 (aAt 3 10842 161) 3 10850 (active2 0) plan2 (holding 10850 (aAt 3 10842 161)) ∧ (aAt 3 10842 161).cur + 1 = 4 ∧
    apart (seenAt 10270 10270) 10252 = 18 ∧
    (∀ e ∈ (holding 10270 (aAt 1 10252 91)).livePlatoons, e.1 = 0) ∧
    Passing 0 platoonA 2 10640 (active2 0) plan2 sideStreet ∧ Departs (active2 0) 4 .inbound (some 2) 3 202 ∧
    Partner 1 ⟨.inbound, some 2, 3, 10862, 45, 8, 0, none, 12062⟩ (advancedRecord platoonA 3 202 900 300 10640) (some 0) sideStreet ∧
    (∀ e ∈ (clear 10000).livePlatoons, (clear 10000).settings.lm < apart 10000 e.2.head) ∧
    (Idle (clear 10000) ∧ (clear 10000).activeRecord.isSome = true ∧ InTime (clear 10000).time.ct 9700 ∧
      ¬ InTime (clear 10000).time.ct 9699 ∧ (clear 10000).n ≤ (4 : Byte).toNat ∧ 1 < (2 : Byte).toNat ∧
      (clear 10000).platoons[(31 : Fin 32)].live = none ∧ 31 < (32 : Byte).toNat ∧ 15 < (16 : Byte).toNat ∧
      [(0 : Byte), 1].length = 2) ∧ Idle before7 ∧ before7.selector.active = none := by
  refine ⟨passing_holding _ _ _ (by decide), rfl, ⟨by decide, by decide, by decide⟩, by decide +kernel, by decide +kernel,
    by decide +kernel, by decide, passing_holding _ _ _ (by decide), rfl, by decide +kernel, by decide +kernel,
    ⟨⟨rfl, rfl⟩, rfl, rfl, by decide, now_inTime _⟩, ⟨by decide, by decide, by decide⟩,
    ⟨rfl, by decide, rfl, rfl, by decide +kernel, by decide +kernel⟩, by decide +kernel, by unfold InTime; decide +kernel,
    ⟨rfl, rfl⟩, rfl⟩

theorem witness_LostAndCancelledPlatoonsLeave :
    let s := withPlatoons [(31, ⟨2, some ⟨.outbound, some 3, 2, 11519, 58, 5, 0, none, 12719⟩, none⟩),
      (0, ⟨2, none, some ⟨2, .lost, 12719⟩⟩)] (clear 12719)
    s.platoons[(31 : Fin 32)].live = some ⟨.outbound, some 3, 2, 11519, 58, 5, 0, none, s.time.ct⟩ ∧ Idle s ∧
    s.platoons[(0 : Fin 32)].live = none ∧ s.platoons[(31 : Fin 32)].gen ≠ 1 ∧ 31 < (32 : Byte).toNat ∧ 15 < (16 : Byte).toNat := by
  unfold Idle
  decide +kernel

/-- A check-in at junction 2 of the corridor that seeks. -/
theorem checkedIn_clear (now : Ct) (tag : Nat) (h : 1 ≤ tag ∧ tag ≤ 65535) : CheckedIn 2 tag (clear now) :=
  ⟨⟨rfl, rfl⟩, rfl, h, (by change (2 : Nat) < 4; decide), rfl⟩

/-- A junction with NO_PRIORITY, for the refusal of R128. -/
def noPriority : State := (clear 13100).setGroups ranges

/-- The update, the creation, the eviction and the refusal, each with tag and ETA at a bound. -/
theorem witness_CheckInStoresRecord :
    let held : Priority := ⟨412, 2, .inbound, .late, 13650, 13950, some (.early, 13400)⟩
    let s := withPriorities [(2, ⟨1, some held, none⟩)] (clear 13500)
    (CheckedIn 2 412 s ∧ NoEvaluation 2 .regular s ∧ s.priorities[(2 : Fin 16)].live = some held ∧
      (∀ x ∈ s.livePriorities, x.2.tag = 412 → x.2.junction = (2 : Byte).toNat → x.1 = 2)) ∧
    (CheckedIn 2 65535 s ∧ (∀ x ∈ s.livePriorities, x.2.tag = 65535 → x.2.junction ≠ (2 : Byte).toNat) ∧
      s.priorities[(0 : Fin 16)].live = none) ∧
    (etaAt 13500 16501 = 16500 ∧ etaAt 13500 16500 = 16500 ∧ etaAt 13500 13499 = 13500) ∧
    (CheckedIn 1 520 fullList ∧ (∀ x ∈ fullList.livePriorities, x.2.tag = 520 → x.2.junction ≠ (1 : Byte).toNat) ∧
      NoEvaluation 1 .late fullList ∧ (∀ i : Fin 16, fullList.priorities[i].live.isSome = true) ∧
      fullList.priorities[(9 : Fin 16)].live = some ⟨231, 1, .inbound, .regular, 40900, 41200, none⟩ ∧
      (∀ x ∈ fullList.livePriorities, x.1 ≠ 9 → x.2.cls = .regular →
        before x.2.eta 40900 = true ∨ (x.2.eta = 40900 ∧ x.1 < 9))) ∧
    (Idle before7 ∧ before7.selector.active = none ∧ 1 < (2 : Byte).toNat ∧ (clear 13500).n ≤ (4 : Byte).toNat ∧
      (noPriority.attributes (1 : Byte).toNat).noPriority = true ∧ (1 : Byte).toNat < noPriority.n) := by
  refine ⟨⟨⟨⟨rfl, rfl⟩, rfl, by decide, by decide, by decide⟩, .inl rfl, rfl, by decide +kernel⟩,
    ⟨⟨⟨rfl, rfl⟩, rfl, by decide, by decide, by decide⟩, by decide +kernel, rfl⟩, by decide +kernel,
    ⟨⟨⟨rfl, rfl⟩, rfl, by decide, by decide, by decide⟩, by decide +kernel, .inr ?_, by decide +kernel, by decide +kernel,
      by decide +kernel⟩, ⟨rfl, rfl⟩, rfl, by decide, by decide, by decide +kernel, by decide⟩
  intro q c hq hc
  cases hq
  cases hc

/-- The side time of section 6.4 with two LATE records of one ETA, tags 412 and 413. -/
def twoLate : State :=
  withPriorities [(1, ⟨1, some ⟨413, 2, .inbound, .late, 13650, 13950, none⟩, none⟩),
    (4, ⟨1, some ⟨412, 2, .outbound, .late, 13650, 13950, none⟩, none⟩)] (sideTime 13400)
/-- An update of the record in the higher slot grants the one in the lower. -/
theorem test_early_green_tie : (after (.checkIn (checkInBytes 2 .outbound 412 .late 13650)) twoLate).priorities[1] =
    ⟨1, some ⟨413, 2, .inbound, .late, 13650, 13950, some (.early, 13400)⟩, none⟩ := by decide +kernel

/-- A LATE record beyond the reach is served at the side-time start: the old end moves from 990 to 890. -/
theorem test_early_green_at_close : cutAt2 (after (.greenEndCheck 2) (withBus 10499 990 0 .late 10630)) =
    some (890, 100, 2, true) := by decide +kernel

theorem mayShorten_sideTime (s : State) (hj : s.junctions[2]? = some (junctionIn (some 280) 300 (inCycle 12839 900 450 .side)))
    (ha : (s.attributes 2).noPriority = false) :
    MayShorten 2 (junctionIn (some 280) 300 (inCycle 12839 900 450 .side))
      ⟨12839, 0, some ⟨900, 13289, .side, 0, 0, 0, ⟨450, 150, 100, 20, 2⟩⟩⟩
      ⟨900, 13289, .side, 0, 0, 0, ⟨450, 150, 100, 20, 2⟩⟩ s :=
  ⟨hj, .inr rfl, rfl, rfl, rfl, rfl, ha, by decide⟩

/-- The early green of section 6.4: the three placings of a check-in, an evaluation with a tie and no LATE record, the
two outcomes of the four bounds, and the side-time start. -/
theorem witness_EarlyGreenServesLateRecord :
    let c : Cycle := ⟨900, 13289, .side, 0, 0, 0, ⟨450, 150, 100, 20, 2⟩⟩
    let w : Window := ⟨12839, 0, some c⟩
    let q := junctionIn (some 280) 300 (inCycle 12839 900 450 .side)
    (CheckedIn 2 412 (sideTime 13400) ∧ LatePlaced 2 .inbound 412 13650 (sideTime 13400) 0
      ⟨1, some ⟨412, 2, .inbound, .late, 13650, 13950, none⟩, none⟩ .none []) ∧
    (CheckedIn 2 412 twoLate ∧ LatePlaced 2 .outbound 412 13650 twoLate 4
      ⟨1, some ⟨412, 2, .outbound, .late, 13650, 13950, none⟩, none⟩ .updated []) ∧
    (CheckedIn 1 520 fullList ∧ LatePlaced 1 .inbound 520 40300 fullList 9
      ⟨7, some ⟨520, 1, .inbound, .late, 40300, 40600, none⟩, none⟩ .evicted [9, 6]) ∧
    (MayShorten 2 q w c twoLate ∧ EarliestLate 2 1 ⟨413, 2, .inbound, .late, 13650, 13950, none⟩ twoLate ∧
      MayShorten 2 q w c (sideTime 13400) ∧ ∀ e ∈ (sideTime 13400).livePriorities, ¬ WaitsLate 2 e.2) ∧
    (twoLate.time.ct = w.start + BitVec.ofNat 32 561 ∧ c.greenEnd = w.start + BitVec.ofNat 32 450 ∧
      (13650 : Ct) = w.start + BitVec.ofInt 32 811 ∧
      max (max (max ((450 : Int) + 300) (811 - 20)) 561) (900 - (100 - 0)) = 800 ∧
      max (max (max ((450 : Int) + 300) (931 - 20)) 561) (900 - (100 - 0)) = 911) ∧
    AtGreenEnd 2 (junctionIn (some 280) 300 (.seek (morningWindow 990 10499 0))) (morningWindow 990 10499 0)
        ⟨990, 10499, .green, 0, 0, 61, ⟨450, 150, 100, 20, 2⟩⟩ (withBus 10499 990 0 .late 10630) ∧
      Closes 2 (junctionIn (some 280) 300 (.seek (morningWindow 990 10499 0)))
        ⟨990, 10499, .green, 0, 0, 61, ⟨450, 150, 100, 20, 2⟩⟩ (withBus 10499 990 0 .late 10630) := by
  refine ⟨⟨⟨⟨rfl, rfl⟩, rfl, by decide, by decide, by decide⟩, ?_⟩,
    ⟨⟨⟨rfl, rfl⟩, rfl, by decide, by decide, by decide⟩, ?_⟩, ⟨⟨⟨rfl, rfl⟩, rfl, by decide, by decide, by decide⟩, ?_⟩,
    ⟨mayShorten_sideTime _ rfl rfl, ⟨by decide +kernel, ⟨rfl, rfl, rfl⟩, ?_⟩, mayShorten_sideTime _ rfl rfl, ?_⟩,
    ⟨by decide +kernel, by decide +kernel, by decide +kernel, by decide, by decide⟩,
    atGreenEnd_bus 10499 990 0 .late 10630, closes_beyond .late⟩
  · exact .created (by decide +kernel) rfl (by decide +kernel)
  · exact .updated ⟨412, 2, .outbound, .late, 13650, 13950, none⟩ (by decide +kernel) rfl rfl (by decide +kernel)
  · exact .evicting ⟨231, 1, .inbound, .regular, 40900, 41200, none⟩ (by decide +kernel) (by decide +kernel)
      (by decide +kernel) rfl (by decide +kernel)
  · unfold WaitsLate
    decide +kernel
  · unfold WaitsLate
    decide +kernel

theorem witness_PriorityRecordsLeave :
    let r : Priority := ⟨205, 1, .inbound, .regular, 13380, 13680, none⟩
    let s := withPriorities [(15, ⟨1, some r, none⟩)] (clear 13680)
    s.priorities[(15 : Fin 16)].live = some r ∧ Idle s ∧ 1 ≤ r.tag ∧ r.tag ≤ 65535 ∧ r.junction < s.n ∧ r.junction < 256 ∧
    (∀ x ∈ s.livePriorities, x.2.tag = r.tag → x.2.junction = r.junction → x.1 = 15) ∧ r.expiry = s.time.ct ∧
    s.priorities[(0 : Fin 16)].live = none ∧ s.priorities[(15 : Fin 16)].gen ≠ 2 ∧ 15 < (16 : Byte).toNat ∧
    s.n ≤ (4 : Byte).toNat ∧ (2 : Byte).toNat < s.n ∧
    (∀ x ∈ s.livePriorities, x.2.tag = 205 → x.2.junction ≠ (2 : Byte).toNat) := by
  unfold Idle
  decide +kernel

/-- The table of section 7.7 before its sequence, within it, and a corridor with no record. -/
theorem witness_ListsFollowKeyOrder :
    Idle (listed 20000) ∧ (3 : Byte).toNat < (listed 20000).n ∧ (2 : Byte).toNat ≤ 2 ∧
    Listed (.platoons none none) (listed 20000) 20100 4 ∧ KeyLess 20100 4 20100 9 ∧ KeyLess 20100 9 20300 2 ∧
    (∀ t slot, ¬ Listed (.platoons none none) (clear 20000) t slot) ∧
    ((listed 20110).setPort ⟨.idle, false, some ⟨.platoons none none, 20100, 4⟩, false, []⟩).port.sequence =
      some ⟨.platoons none none, 20100, 4⟩ ∧
    (listed 20000).port.sequence = none ∧ 24 ≤ (24 : Byte).toNat ∧ (listed 20000).n ≤ (23 : Byte).toNat := by
  refine ⟨⟨rfl, rfl⟩, by decide, by decide, ?_, ?_, ?_, ?_, rfl, rfl, by decide, by decide⟩
  · unfold Listed
    simp only [reduceCtorEq, false_implies, implies_true, true_and]
    decide +kernel
  · unfold KeyLess
    decide +kernel
  · unfold KeyLess
    decide +kernel
  · rintro t slot ⟨e, he, -⟩
    have h : (clear 20000).livePlatoons = [] := by decide +kernel
    rw [h] at he
    cases he

/-! ## Chapters 9 to 11 -/

/-- IN2 at its time, both ways, alone and beside another CORRIDOR_FREE input; and a forcing input. -/
def twoContacts : State :=
  (contact 70055 70015).setInputs ((contact 70055 70015).inputs.set 0 ⟨.corridorFree, .activeHigh, 2, 2, .high, none, true⟩)
def forcing (validated : Bool) : State :=
  (clear 70055).setInputs ((clear 70055).inputs.set 0
    ⟨.planForce 3, .activeHigh, 40, 40, if validated then .low else .high, some 70015, validated⟩)
theorem witness_InputsValidateAndAct :
    (Running endOfWeek ∧ NothingDue endOfWeek ∧ Running (contact 70055 70015) ∧ (contact 70055 70015).inputs[(2 : Fin 4)].runStart = some 70015 ∧
      activeUnder .activeLow .low = !false ∧ 40 ≤ ahead 70015 (contact 70055 70015).time.ct ∧
      (contact 70055 70015).inputs[(2 : Fin 4)].func = .corridorFree ∧
      (∀ m : Fin 4, m ≠ 2 → (contact 70055 70015).inputs[m].func = .corridorFree → (contact 70055 70015).inputs[m].validated = false)) ∧
    (∃ m : Fin 4, m ≠ 2 ∧ twoContacts.inputs[m].func = .corridorFree ∧ twoContacts.inputs[m].validated = true) ∧
    (forcing false).inputs[(0 : Fin 4)].runStart = some 70015 ∧ activeUnder .activeHigh .high = !false ∧
    (forcing false).inputs[(0 : Fin 4)].func = .planForce 3 ∧ (∀ m : Fin 4, m < 0 → (forcing false).inputs[m].forces = none) ∧
    (after (.inputValidation 0) (forcing false)).selector.requested = 3 ∧ (forcing false).selector.requested = 2 ∧
    failedCheck plan3 (forcing false).junctions = none ∧
    activeUnder .activeHigh .low = !true ∧ (∀ m : Fin 4, m ≠ 0 → (forcing true).inputs[m].forces = none) ∧
    ClockInRange (forcing true).time.clock ∧ (∀ i : Fin 24, EntryInRange (forcing true).selector.schedule[i]) ∧
    (after (.inputValidation 0) (forcing true)).selector.requested = 0 := by
  unfold NothingDue ClockInRange EntryInRange
  decide +kernel

/-- The schedule of section 4.4 after the release of a PLAN_FORCE input at Tuesday 07:00:20: entry 0 is the nearest. -/
theorem test_release_catches_up :
    let s := scheduled (forcing true)
    (after (.inputValidation 0) s).selector.lastEntry = some 0 ∧ (after (.inputValidation 0) s).selector.requested = 2 := by
  decide +kernel

/-- An input that was validated active under CORRIDOR_FREE is set anew; the bytes at their bounds. -/
theorem witness_SetInputStoresConfiguration :
    let s := after (.inputValidation 2) (contact 70055 70015)
    Idle s ∧ EditsOpen s ∧ (2 : Byte).toNat = (2 : Fin 4).val ∧ (3 : Byte).toNat ≤ 3 ∧ (8 : Byte).toNat ≤ 8 ∧ (1 : Byte).toNat ≤ 1 ∧
    s.inputs[(2 : Fin 4)].validated = true ∧ s.inputs[(2 : Fin 4)].func = .corridorFree ∧
    (∀ m : Fin 4, m ≠ 2 → s.inputs[m].func = .corridorFree → s.inputs[m].validated = false) ∧
    s.inputs[(0 : Fin 4)].validated = false ∧ 8 < (9 : Byte).toNat ∧ Idle (forcing true) ∧ EditsOpen (forcing true) ∧
    (forcing true).inputs[(0 : Fin 4)].validated = true ∧ (forcing true).inputs[(0 : Fin 4)].func = .planForce 3 := by
  unfold Idle EditsOpen
  decide +kernel

theorem witness_AlertRequestsAct : Idle busy ∧ (1 : Byte).toNat ≤ 1 ∧ 32 ≤ (32 : Byte).toNat ∧ 1 < (2 : Byte).toNat ∧
    AlertsOk answered ∧ answered.port.state = .result lockFrame ∧ AlertsOk busy ∧ (∀ f, busy.port.state ≠ .result f) :=
  ⟨⟨rfl, rfl⟩, by decide, by decide, by decide, ⟨by decide +kernel, by decide +kernel⟩, by decide +kernel,
    ⟨by decide +kernel, by decide +kernel⟩, fun f h => nomatch h⟩

end Sys2Proof.Tests
end

section
/-! SUPPORT. The carries of the day clock (R3), the SYNC step (R8), and the statement about the step to the
nearest whole minute. -/

namespace Sys2Proof.Machine

open Sys2Proof.Safety

/-! ## The week position and the position within the minute -/

/-- The week position by its parts, the last of them the position within the minute. -/
theorem DayClock.weekPosition_eq (k : DayClock) : k.weekPosition =
    (k.day - 1) * 864000 + k.hour * 36000 + k.minute * 600 + k.minutePosition := by
  simp only [DayClock.weekPosition, DayClock.tod, DayClock.minutePosition]
  omega

theorem DayClock.minutePosition_lt {k : DayClock} (h : ClockInRange k) : k.minutePosition < 600 := by
  obtain ⟨-, -, -, -, hs, ht⟩ := h
  simp only [DayClock.minutePosition]
  omega

theorem DayClock.tod_lt {k : DayClock} (h : ClockInRange k) : k.tod < 864000 := by
  obtain ⟨-, -, hh, hm, hs, ht⟩ := h
  simp only [DayClock.tod]
  omega

theorem DayClock.weekPosition_lt {k : DayClock} (h : ClockInRange k) : k.weekPosition < 6048000 := by
  have htod := tod_lt h
  obtain ⟨-, hd7, -⟩ := h
  rw [DayClock.weekPosition]
  omega

/-! ## The carries (R3)

Each carry leaves the finer fields as they are, keeps the clock in range, and moves the week position on by its
own unit, modulo the week. The unit is what makes one carry hand over to the next: setting a full field to 0
goes back by all but one of the units that the next carry goes forward. -/

@[simp] theorem DayClock.carryDay_second (k : DayClock) : k.carryDay.second = k.second := rfl
@[simp] theorem DayClock.carryDay_tenth (k : DayClock) : k.carryDay.tenth = k.tenth := rfl

@[simp] theorem DayClock.carryHour_second (k : DayClock) : k.carryHour.second = k.second := by
  simp [DayClock.carryHour, apply_ite DayClock.second]
@[simp] theorem DayClock.carryHour_tenth (k : DayClock) : k.carryHour.tenth = k.tenth := by
  simp [DayClock.carryHour, apply_ite DayClock.tenth]

@[simp] theorem DayClock.carryMinute_second (k : DayClock) : k.carryMinute.second = k.second := by
  simp [DayClock.carryMinute, apply_ite DayClock.second]
@[simp] theorem DayClock.carryMinute_tenth (k : DayClock) : k.carryMinute.tenth = k.tenth := by
  simp [DayClock.carryMinute, apply_ite DayClock.tenth]

theorem DayClock.carryDay_inRange {k : DayClock} (h : ClockInRange k) : ClockInRange k.carryDay := by
  obtain ⟨-, -, htime⟩ := h
  refine ⟨?_, ?_, htime⟩ <;> simp only [DayClock.carryDay] <;> split <;> omega

theorem DayClock.carryHour_inRange {k : DayClock} (h : ClockInRange k) : ClockInRange k.carryHour := by
  obtain ⟨hd1, hd7, hh, hrest⟩ := h
  rw [DayClock.carryHour]
  split
  next hlt => exact ⟨hd1, hd7, hlt, hrest⟩
  next => exact carryDay_inRange ⟨hd1, hd7, Nat.zero_le _, hrest⟩

theorem DayClock.carryMinute_inRange {k : DayClock} (h : ClockInRange k) : ClockInRange k.carryMinute := by
  obtain ⟨hd1, hd7, hh, hm, hrest⟩ := h
  rw [DayClock.carryMinute]
  split
  next hlt => exact ⟨hd1, hd7, hh, hlt, hrest⟩
  next => exact carryHour_inRange ⟨hd1, hd7, hh, Nat.zero_le _, hrest⟩

theorem DayClock.carryDay_weekPosition {k : DayClock} (h : ClockInRange k) :
    k.carryDay.weekPosition = (k.weekPosition + 864000) % 6048000 := by
  have htod := tod_lt h
  obtain ⟨hd1, hd7, -⟩ := h
  have hnext : k.carryDay.weekPosition = ((if k.day < 7 then k.day + 1 else 1) - 1) * 864000 + k.tod := rfl
  rw [hnext, DayClock.weekPosition]
  split <;> omega

theorem DayClock.carryHour_weekPosition {k : DayClock} (h : ClockInRange k) :
    k.carryHour.weekPosition = (k.weekPosition + 36000) % 6048000 := by
  obtain ⟨hd1, hd7, hh, hrest⟩ := h
  rw [DayClock.carryHour]
  split
  next hless =>
    have hlt := weekPosition_lt (k := { k with hour := k.hour + 1 }) ⟨hd1, hd7, hless, hrest⟩
    have hnext : ({ k with hour := k.hour + 1 } : DayClock).weekPosition = k.weekPosition + 36000 := by
      simp only [weekPosition_eq, DayClock.minutePosition]
      omega
    omega
  next hfull =>
    have hzero : ({ k with hour := 0 } : DayClock).weekPosition + 23 * 36000 = k.weekPosition := by
      simp only [weekPosition_eq, DayClock.minutePosition]
      omega
    have hcarry := carryDay_weekPosition (k := { k with hour := 0 }) ⟨hd1, hd7, Nat.zero_le _, hrest⟩
    omega

theorem DayClock.carryMinute_weekPosition {k : DayClock} (h : ClockInRange k) :
    k.carryMinute.weekPosition = (k.weekPosition + 600) % 6048000 := by
  obtain ⟨hd1, hd7, hh, hm, hrest⟩ := h
  rw [DayClock.carryMinute]
  split
  next hless =>
    have hlt := weekPosition_lt (k := { k with minute := k.minute + 1 }) ⟨hd1, hd7, hh, hless, hrest⟩
    have hnext : ({ k with minute := k.minute + 1 } : DayClock).weekPosition = k.weekPosition + 600 := by
      simp only [weekPosition_eq, DayClock.minutePosition]
      omega
    omega
  next hfull =>
    have hzero : ({ k with minute := 0 } : DayClock).weekPosition + 59 * 600 = k.weekPosition := by
      simp only [weekPosition_eq, DayClock.minutePosition]
      omega
    have hcarry := carryHour_weekPosition (k := { k with minute := 0 }) ⟨hd1, hd7, hh, Nat.zero_le _, hrest⟩
    omega

/-! ## The SYNC step (R8, R10) -/

theorem syncStep_of_le {r : Nat} (h : r ≤ 300) : syncStep r = -(r : Int) := if_pos h

theorem syncStep_of_gt {r : Nat} (h : 300 < r) : syncStep r = 600 - (r : Int) := if_neg (by omega)

theorem DayClock.stepTo_of_neg {d : Int} (h : d < 0) (k : DayClock) :
    k.stepTo d = { k with second := 0, tenth := 0 } := if_pos h

theorem DayClock.stepTo_of_nonneg {d : Int} (h : 0 ≤ d) (k : DayClock) :
    k.stepTo d = ({ k with second := 0, tenth := 0 } : DayClock).carryMinute := if_neg (by omega)

theorem pullClock_of_zero {s : State} (h : syncStep s.time.clock.minutePosition = 0) : pullClock s = s := if_pos h

/-- The start of the minute is in range, and lies back by the position within the minute. -/
theorem DayClock.minuteStart_inRange {k : DayClock} (h : ClockInRange k) :
    ClockInRange { k with second := 0, tenth := 0 } := by
  obtain ⟨hd1, hd7, hh, hm, -⟩ := h
  exact ⟨hd1, hd7, hh, hm, Nat.zero_le _, Nat.zero_le _⟩

theorem DayClock.minuteStart_weekPosition (k : DayClock) :
    ({ k with second := 0, tenth := 0 } : DayClock).weekPosition + k.minutePosition = k.weekPosition := by
  simp only [weekPosition_eq, DayClock.minutePosition]
  omega

/-- A forward step lands on the start of the next minute, with every carry. -/
theorem DayClock.stepTo_forward {k : DayClock} (h : ClockInRange k) {d : Int} (hd : 0 ≤ d) :
    ClockInRange (k.stepTo d) ∧ (k.stepTo d).second = 0 ∧ (k.stepTo d).tenth = 0 ∧
      (k.stepTo d).weekPosition = (k.weekPosition + (600 - k.minutePosition)) % 6048000 := by
  have hstart := minuteStart_inRange h
  rw [stepTo_of_nonneg hd]
  refine ⟨carryMinute_inRange hstart, carryMinute_second _, carryMinute_tenth _, ?_⟩
  have hback := minuteStart_weekPosition k
  have hr := minutePosition_lt h
  rw [carryMinute_weekPosition hstart]
  omega

end Sys2Proof.Machine

namespace Sys2Proof.Proofs

open Sys2Proof.Machine Sys2Proof.Safety

/-- Settles O24, by the three ranges of the position within the minute; the forward one goes through the carries. -/
theorem syncStepToNearestMinute : Obligations.SyncStepToNearestMinute := by
  intro k hk r
  have hrlt : r < 600 := DayClock.minutePosition_lt hk
  refine ⟨fun hzero => ?_, fun hpos hback => ?_, fun hfwd => ?_⟩
  · have hstep : syncStep k.minutePosition = 0 := congrArg syncStep hzero
    exact ⟨hstep, fun s hs => pullClock_of_zero (hs ▸ hstep)⟩
  · have hstep : syncStep k.minutePosition = -(r : Int) := syncStep_of_le hback
    exact ⟨hstep, DayClock.stepTo_of_neg (by omega) k⟩
  · have hstep : syncStep k.minutePosition = 600 - (r : Int) := syncStep_of_gt hfwd
    exact ⟨hstep, DayClock.stepTo_forward hk (by omega)⟩

end Sys2Proof.Proofs
end

section
/-! SUPPORT. The two steps of the offset computation (R41), and the statement about the outbound step. -/

namespace Sys2Proof.Machine

/-! ## The residues of the travel times (R41) -/

theorem inboundStep_nonneg {c : Nat} (hc : 0 < c) (tIn : Nat) : 0 ≤ inboundStep c tIn :=
  Int.emod_nonneg _ (by omega)

theorem inboundStep_lt {c : Nat} (hc : 0 < c) (tIn : Nat) : inboundStep c tIn < c :=
  Int.emod_lt_of_pos _ (by omega)

theorem outboundResidue_nonneg {c : Nat} (hc : 0 < c) (tOut : Nat) : 0 ≤ outboundResidue c tOut :=
  Int.emod_nonneg _ (by omega)

theorem outboundResidue_lt {c : Nat} (hc : 0 < c) (tOut : Nat) : outboundResidue c tOut < c :=
  Int.emod_lt_of_pos _ (by omega)

/-! ## The outbound step (R41) -/

theorem outboundStep_of_above {c : Nat} {a b0 : Int} (h : (c : Int) < 2 * (b0 - a)) :
    outboundStep c a b0 = b0 - c := if_pos h

theorem outboundStep_of_below {c : Nat} {a b0 : Int} (h : 2 * (b0 - a) ≤ -(c : Int)) :
    outboundStep c a b0 = b0 + c := by
  rw [outboundStep, if_neg (by omega), if_pos h]

theorem outboundStep_of_near {c : Nat} {a b0 : Int} (hlow : -(c : Int) < 2 * (b0 - a)) (hhigh : 2 * (b0 - a) ≤ c) :
    outboundStep c a b0 = b0 := by
  rw [outboundStep, if_neg (by omega), if_neg (by omega)]

/-- The three candidates, each with the range of 2·(b0 − a) that takes it. -/
theorem outboundStep_cases (c : Nat) (a b0 : Int) :
    ((c : Int) < 2 * (b0 - a) ∧ outboundStep c a b0 = b0 - c) ∨
    (2 * (b0 - a) ≤ -(c : Int) ∧ outboundStep c a b0 = b0 + c) ∨
    (-(c : Int) < 2 * (b0 - a) ∧ 2 * (b0 - a) ≤ c ∧ outboundStep c a b0 = b0) := by
  by_cases habove : (c : Int) < 2 * (b0 - a)
  · exact .inl ⟨habove, outboundStep_of_above habove⟩
  by_cases hbelow : 2 * (b0 - a) ≤ -(c : Int)
  · exact .inr (.inl ⟨hbelow, outboundStep_of_below hbelow⟩)
  · have hlow : -(c : Int) < 2 * (b0 - a) := Int.not_le.mp hbelow
    have hhigh : 2 * (b0 - a) ≤ c := Int.not_lt.mp habove
    exact .inr (.inr ⟨hlow, hhigh, outboundStep_of_near hlow hhigh⟩)

theorem dvd_outboundStep_sub (c : Nat) (a b0 : Int) : (c : Int) ∣ outboundStep c a b0 - b0 := by
  obtain ⟨-, h⟩ | ⟨-, h⟩ | ⟨-, -, h⟩ := outboundStep_cases c a b0
  · exact ⟨-1, by rw [h]; omega⟩
  · exact ⟨1, by rw [h]; omega⟩
  · exact ⟨0, by rw [h]; omega⟩

/-- One cycle is enough to come within half a cycle of a, because b0 and a lie less than a cycle apart. -/
theorem outboundStep_near {c : Nat} {a b0 : Int} (ha0 : 0 ≤ a) (hac : a < c) (hb0 : 0 ≤ b0) (hbc : b0 < c) :
    -(c : Int) < 2 * (outboundStep c a b0 - a) ∧ 2 * (outboundStep c a b0 - a) ≤ c := by
  obtain ⟨_, h⟩ | ⟨_, h⟩ | ⟨_, _, h⟩ := outboundStep_cases c a b0 <;> omega

/-- The window −C < 2·(x − a) ≤ C is one cycle wide in x, so it holds one value of each residue. -/
theorem eq_of_dvd_sub_of_near {c : Nat} {a x y : Int} (hdvd : (c : Int) ∣ x - y)
    (hxlow : -(c : Int) < 2 * (x - a)) (hxhigh : 2 * (x - a) ≤ c)
    (hylow : -(c : Int) < 2 * (y - a)) (hyhigh : 2 * (y - a) ≤ c) : x = y := by
  have habs : |x - y| < c := abs_lt.mpr ⟨by omega, by omega⟩
  exact Int.sub_eq_zero.mp (Int.eq_zero_of_abs_lt_dvd hdvd habs)

end Sys2Proof.Machine

namespace Sys2Proof.Proofs

open Sys2Proof.Machine

/-- Settles O33: the three candidates of the outbound step give its place and residue, and the window's width of
one cycle gives its uniqueness. -/
theorem outboundStepIsNearest : Obligations.OutboundStepIsNearest := by
  intro c tIn tOut hc a b0 b
  have ha0 : 0 ≤ a := inboundStep_nonneg hc tIn
  have hac : a < c := inboundStep_lt hc tIn
  have hb0 : 0 ≤ b0 := outboundResidue_nonneg hc tOut
  have hbc : b0 < c := outboundResidue_lt hc tOut
  have hdvd : (c : Int) ∣ b - b0 := dvd_outboundStep_sub c a b0
  obtain ⟨hlow, hhigh⟩ : -(c : Int) < 2 * (b - a) ∧ 2 * (b - a) ≤ c := outboundStep_near ha0 hac hb0 hbc
  have hunique (x : Int) (hx : (x - b0) % c = 0) (hxlow : -(c : Int) < 2 * (x - a)) (hxhigh : 2 * (x - a) ≤ c) :
      x = b := by
    have hxb : (c : Int) ∣ x - b := by
      simpa using Int.dvd_sub (Int.dvd_of_emod_eq_zero hx) hdvd
    exact eq_of_dvd_sub_of_near hxb hxlow hxhigh hlow hhigh
  exact ⟨⟨ha0, hac, rfl⟩, ⟨hb0, hbc, rfl⟩, ⟨Int.emod_eq_zero_of_dvd hdvd, hlow, hhigh⟩, hunique,
    fun hnear hle => outboundStep_of_near (by omega) hle, outboundStep_of_above, outboundStep_of_below⟩

end Sys2Proof.Proofs
end

section
/-! SUPPORT. Frames and the answer of an executed request, for any owner; a plan taking effect (R40); the equations
of an activation (R34 to R38); and the statement about ACTIVATE PLAN. -/

namespace Sys2Proof.Safety

open Sys2Proof.Machine

/-! ## Frames -/

theorem Block.same_refl (b : Block) (s : State) : b.same s s := by
  cases b <;> simp [Block.same]

theorem Block.same_trans {b : Block} {s t u : State} (hst : b.same s t) (htu : b.same t u) : b.same s u := by
  cases b with
  | port =>
    obtain ⟨h1, h2, h3⟩ := hst
    obtain ⟨k1, k2, k3⟩ := htu
    exact ⟨k1.trans h1, k2.trans h2, k3.trans h3⟩
  | alertConfig =>
    obtain ⟨h1, h2, h3, h4, h5⟩ := hst
    obtain ⟨k1, k2, k3, k4, k5⟩ := htu
    exact ⟨k1.trans h1, k2.trans h2, k3.trans h3, k4.trans h4, k5.trans h5⟩
  | _ => exact Eq.trans htu hst

theorem Frame.refl (l : List Block) (s : State) : Frame l s s := fun b _ => b.same_refl s

theorem Frame.trans {l : List Block} {s t u : State} (hst : Frame l s t) (htu : Frame l t u) : Frame l s u :=
  fun b hb => Block.same_trans (hst b hb) (htu b hb)

theorem Frame.mono {l m : List Block} {s t : State} (hlm : l ⊆ m) (h : Frame l s t) : Frame m s t :=
  fun b hb => h b fun hl => hb (hlm hl)

theorem frame_setSelector (s : State) (v : Selector) : Frame [.selector] s (s.setSelector v) := by
  intro b hb
  cases b with
  | selector => simp at hb
  | _ => simp [Block.same]

theorem frame_setJunctions (s : State) (v : List Junction) : Frame [.junctions] s (s.setJunctions v) := by
  intro b hb
  cases b with
  | junctions => simp at hb
  | _ => simp [Block.same]

theorem frame_latch (s : State) (a : AlertSource) : Frame [.latched] s (s.latch a) := by
  intro b hb
  cases b with
  | latched => simp at hb
  | _ => simp [Block.same, latch_eq]

theorem frame_settle (s t : State) : Frame [.pulseEnd] t (settle s t) := by
  intro b hb
  cases b with
  | pulseEnd => simp at hb
  | _ => simp [Block.same]

theorem frame_accepted (k : Nat) (s : State) : Frame [.port] s (accepted k s) := by
  intro b hb
  cases b with
  | port => simp at hb
  | _ => simp [Block.same, accepted]

end Sys2Proof.Safety

namespace Sys2Proof.Machine

open Sys2Proof.Safety

/-! ## The answer of an executed request (R156, R160, R161) -/

/-- The state in which the port executes a request whose owner left the state `u`, before the event ends. -/
def executing (code : Byte) (r : Reply) (u : State) : State :=
  u.setPort { u.port with state := .executing (frameOf code r u) false }

@[simp] theorem executing_selector (code : Byte) (r : Reply) (u : State) :
    (executing code r u).selector = u.selector := rfl
@[simp] theorem executing_junctions (code : Byte) (r : Reply) (u : State) :
    (executing code r u).junctions = u.junctions := rfl
@[simp] theorem executing_alerts (code : Byte) (r : Reply) (u : State) :
    (executing code r u).alerts = u.alerts := rfl

/-- A SEND at an IDLE port of a part that runs: the owner's answer, then the end of the event. -/
theorem run_send_of_serve {code : Byte} {ps : List Byte} {k : Nat} {req : Option Request} {s u : State} {r : Reply}
    (hs : Idle s) (h : serve req (accepted (2 + ps.length + k) s) = (r, u)) :
    run (send code ps k req) s = .next (settle s (executing code r u)) := by
  obtain ⟨hrunning, hidle⟩ := hs
  rw [run_of_running hrunning, send_of_idle hidle, acceptSend_eq, h]
  rfl

theorem frame_executing (code : Byte) (r : Reply) (u : State) : Frame [.port] u (executing code r u) := by
  intro b hb
  cases b with
  | port => simp at hb
  | _ => simp [Block.same, executing]

/-- The pending set is formed from the clock, the junctions, the port's RESULT and the latched set. -/
theorem pendingSet_congr {s t : State} (htime : t.time = s.time) (hjunctions : t.junctions = s.junctions)
    (hlatched : t.alerts.latched = s.alerts.latched) (hready : t.resultReady = s.resultReady) :
    t.pendingSet = s.pendingSet := by
  simp [State.pendingSet, State.levelSet, State.junctionFault, State.preemptActive, State.anyJunction,
    htime, hjunctions, hlatched, hready]

/-- An event that leaves the pending set and the configuration of the alert unit brings no source in. -/
theorem joined_of_pendingSet {s t : State} (hset : t.pendingSet = s.pendingSet) (hconf : Block.alertConfig.same s t) :
    joined s t = 0 := by
  obtain ⟨henable, hglobal, -⟩ := hconf
  simp [joined, State.activeSet, hset, henable, hglobal]

@[simp] theorem settle_pendingSet (s t : State) : (settle s t).pendingSet = t.pendingSet := by
  rw [settle_eq]
  rfl

/-- An execution is no RESULT, and neither is an IDLE port. -/
theorem executing_pendingSet {u : State} (hidle : u.port.state = .idle) (code : Byte) (r : Reply) :
    (executing code r u).pendingSet = u.pendingSet :=
  pendingSet_congr rfl rfl rfl (by simp [State.resultReady, executing, hidle])

section
variable {k : Nat} {s u : State} {l : List Block}

/-- An owner that leaves the port alone leaves it IDLE with REJECTED clear. -/
theorem port_of_owner (hs : s.port.state = .idle) (hu : Frame l (accepted k s) u) (hport : .port ∉ l) :
    u.port.state = .idle ∧ u.port.rejected = false := by
  obtain ⟨hstate, hrejected, -⟩ := hu .port hport
  exact ⟨hstate.trans hs, hrejected⟩

/-- W and F, formed before the port executes, are those of the state in which the event ends. -/
theorem answersList_executing (hs : s.port.state = .idle) (hu : Frame l (accepted k s) u) (hport : .port ∉ l)
    (code : Byte) (r : Reply) :
    AnswersList (settle s (executing code r u)) code r.cls r.reason r.payload r.more r.last := by
  obtain ⟨hidle, hrejected⟩ := port_of_owner hs hu hport
  refine ⟨?_, by simpa [executing] using hrejected⟩
  have hw : (settle s (executing code r u)).wFlag = u.wFlag := by
    simp [State.wFlag, executing_pendingSet hidle]
  have hf : (settle s (executing code r u)).fFlag = u.fFlag := by
    simp [State.fFlag, State.junctionFault, State.anyJunction, executing_pendingSet hidle]
  rw [hw, hf, settle_port]
  rfl

/-- Before the event ends, a request has changed what its owner changes and the port. -/
theorem frame_executing_of_owner (hu : Frame l (accepted k s) u) (code : Byte) (r : Reply) :
    Frame (.port :: l) s (executing code r u) :=
  ((frame_accepted k s).mono (by simp)).trans <|
    (hu.mono (List.subset_cons_self _ _)).trans ((frame_executing code r u).mono (by simp))

/-- A request changes what its owner changes, the port, and the pulse that a joining source starts. -/
theorem frame_executed (hu : Frame l (accepted k s) u) (code : Byte) (r : Reply) :
    Frame (.port :: .pulseEnd :: l) s (settle s (executing code r u)) :=
  ((frame_executing_of_owner hu code r).mono (List.cons_subset_cons _ (List.subset_cons_self _ _))).trans
    ((frame_settle s _).mono (by simp))

/-- An owner that changes nothing the pending set is formed from starts no pulse. -/
theorem frame_executed_of_quiet (hs : s.port.state = .idle) (hu : Frame l (accepted k s) u)
    (hquiet : ∀ b ∈ [Block.port, .time, .junctions, .latched, .alertConfig], b ∉ l) (code : Byte) (r : Reply) :
    Frame (.port :: l) s (settle s (executing code r u)) := by
  simp only [List.forall_mem_cons] at hquiet
  obtain ⟨hport, htime, hjunctions, hlatched, hconf, -⟩ := hquiet
  obtain ⟨hidle, -⟩ := port_of_owner hs hu hport
  have hset : (executing code r u).pendingSet = s.pendingSet :=
    (executing_pendingSet hidle code r).trans <|
      pendingSet_congr (hu .time htime) (hu .junctions hjunctions) (hu .latched hlatched)
        (by simp [State.resultReady, hidle, hs])
  rw [settle_of_subset (joined_of_pendingSet hset (hu .alertConfig hconf))]
  exact frame_executing_of_owner hu code r

end

end Sys2Proof.Machine

namespace Sys2Proof.Machine

open Sys2Proof.Safety

/-! ## A coordinated plan taking effect (R40) -/

theorem derivePRef_eq {p : Plan} (hc : 0 < p.c) (k : DayClock) :
    (derivePRef p k : Int) = ((k.tod : Int) - p.b) % p.c :=
  Int.toNat_of_nonneg (Int.emod_nonneg _ (by omega))

@[simp] theorem linkTimes_length (js : List Junction) (v : Nat) : (linkTimes js v).length = js.length - 1 := by
  simp [linkTimes]

/-- Every junction but the last has the travel time of its link. -/
theorem linkTimes_get {js : List Junction} {j len : Nat} {q : Junction} (hj : j + 1 < js.length)
    (hq : js[j]? = some q) (hlen : q.link = some len) (v : Nat) :
    (linkTimes js v)[j]? = some ((36 * len + v / 2) / v) := by
  have hlast : js.dropLast[j]? = some q := by
    rw [List.getElem?_dropLast, if_pos (by omega), hq]
  simp only [linkTimes, List.getElem?_map, hlast, Option.map_some, hlen, Option.getD_some, travelTime]

theorem offsetsAfter_length (c w prev : Nat) (links : List (Nat × Nat)) :
    (offsetsAfter c w prev links).length = links.length := by
  induction links generalizing prev with
  | nil => rfl
  | cons link links ih => simp [offsetsAfter, ih]

theorem planOffsets_length (p : Plan) {tIn tOut : List Nat} (h : tIn.length = tOut.length) :
    (planOffsets p tIn tOut).length = tIn.length + 1 := by
  simp [planOffsets, offsetsAfter_length, h]

/-- Of a corridor of two or more junctions, a plan's offsets are one for each junction. -/
theorem formActive_offsets {s : State} (hn : 2 ≤ s.n) (number : Nat) (p : Plan) :
    (formActive number p s).offsets = planOffsets p (formActive number p s).tIn (formActive number p s).tOut := by
  refine List.take_of_length_le ?_
  rw [planOffsets_length p (by simp), linkTimes_length]
  simp only [State.n] at hn ⊢
  omega

theorem planEffect_underNewPlan (now : Ct) (x free : Bool) (old : Junction) :
    UnderNewPlan now x free old (planEffect now x free old) := by
  cases hstate : old.state with
  | free cause => cases cause <;> cases x <;> simp [UnderNewPlan, planEffect, joinPlan, enterSeek, hstate]
  | seek w => simp [UnderNewPlan, planEffect, hstate]
  | inStep w => simp [UnderNewPlan, planEffect, hstate]
  | preempt start deadline ret => simp [UnderNewPlan, planEffect, returnUnderPlan, hstate]

theorem takeEffect_junctions_get (number : Nat) (p : Plan) (s : State) (j : Nat) :
    (takeEffect number p s).junctions[j]? =
      (s.junctions[j]?).map (planEffect s.now (s.attributes j).exclude s.corridorFree) := by
  simp [takeEffect, latch_eq, mapIndexed_get]

theorem takeEffect_junctions_length (number : Nat) (p : Plan) (s : State) :
    (takeEffect number p s).junctions.length = s.junctions.length := by
  simp [takeEffect, latch_eq]

theorem frame_takeEffect (number : Nat) (p : Plan) (s : State) :
    Frame [.selector, .junctions, .latched] s (takeEffect number p s) :=
  ((frame_setSelector s _).mono (by simp)).trans <|
    ((frame_setJunctions _ _).mono (by simp)).trans ((frame_latch _ _).mono (by simp))

/-- The six stages of R40, in any state that keeps the junctions and the latched set they leave. -/
theorem planInEffect_of_takeEffect {number : Nat} {p : Plan} {s t : State} (hc : 0 < p.c) (hn : 2 ≤ s.n)
    (hjunctions : t.junctions = (takeEffect number p s).junctions)
    (hlatched : t.alerts.latched = (takeEffect number p s).alerts.latched) :
    PlanInEffect (formActive number p s) number p s t where
  number := rfl
  pRef := derivePRef_eq hc s.time.clock
  links := by
    simp only [State.n] at hn ⊢
    simp only [formActive, linkTimes_length]
    omega
  times j q len hj hq hlen := ⟨linkTimes_get hj hq hlen p.vIn, linkTimes_get hj hq hlen p.vOut⟩
  entryIn := rfl
  entryOut := rfl
  offsets := formActive_offsets hn number p
  size := by rw [State.n, hjunctions, takeEffect_junctions_length, State.n]
  contexts j old q hold hq := by
    rw [hjunctions, takeEffect_junctions_get, hold] at hq
    obtain rfl := Option.some.inj hq
    exact planEffect_underNewPlan ..
  latched := hlatched

/-- A valid plan has a cycle and a corridor of two or more junctions (checks 2 and 3 of R36). -/
theorem size_and_cycle_of_valid {p : Plan} {js : List Junction} (h : failedCheck p js = none) :
    2 ≤ js.length ∧ p.b < p.c := by
  unfold failedCheck at h
  split_ifs at h
  omega

/-! ## The outcomes of an activation (R34 to R38) -/

section
variable {n : Nat} {s : State}

/-- Under the active plan's own number nothing is pending afterwards (R34). -/
theorem activate_of_active (h : n = s.activeNumber) : activate n s =
    (if s.selector.pendingPlan.isSome then .pendingCancelled else .noChange, cancelPending s) := by
  cases hp : s.selector.pendingPlan with
  | some q => simp [activate, h, hp]
  | none =>
    have hkeep : cancelPending s = s := by
      rw [cancelPending, ← hp]
      rfl
    simp [activate, h, hp, hkeep]

theorem activate_of_plan0 (h : n ≠ s.activeNumber) (h0 : n = 0) : activate n s = (.pending, makePending n s) := by
  subst h0
  simp [activate, h]

theorem activate_of_noClock (h : n ≠ s.activeNumber) (h0 : n ≠ 0) (hclock : s.time.clock.valid = false) :
    activate n s = (.noClock, s) := by
  simp [activate, h, h0, hclock]

theorem activate_of_empty (h : n ≠ s.activeNumber) (h0 : n ≠ 0) (hclock : s.time.clock.valid = true)
    (hrecord : s.planRecord n = none) : activate n s = (.invalid ⟨1, none⟩, s) := by
  simp [activate, h, h0, hclock, hrecord]

theorem activate_of_failed {p : Plan} {f : Failure} (h : n ≠ s.activeNumber) (h0 : n ≠ 0)
    (hclock : s.time.clock.valid = true) (hrecord : s.planRecord n = some p)
    (hcheck : failedCheck p s.junctions = some f) : activate n s = (.invalid f, s) := by
  simp [activate, h, h0, hclock, hrecord, hcheck]

/-- A valid plan takes effect at once from plan 0 (R37). -/
theorem activate_of_valid_from_plan0 {p : Plan} (hactive : s.selector.active = none) (h0 : n ≠ 0)
    (hclock : s.time.clock.valid = true) (hrecord : s.planRecord n = some p) (hcheck : failedCheck p s.junctions = none) :
    activate n s = (.tookEffect, takeEffect n p s) := by
  have h : n ≠ s.activeNumber := by simpa [State.activeNumber, hactive] using h0
  simp [activate, h, h0, hclock, hrecord, hcheck, activateValid, hactive]

/-- Under another coordinated plan a valid one becomes pending (R38). -/
theorem activate_of_valid_under_other (h : n ≠ s.activeNumber) (h0 : n ≠ 0)
    (hactive : s.selector.active.isSome = true) (hclock : s.time.clock.valid = true) (hvalid : ValidPlan n s) :
    activate n s = (.pending, makePending n s) := by
  obtain ⟨a, ha⟩ := Option.isSome_iff_exists.mp hactive
  obtain ⟨p, hrecord, hcheck⟩ := hvalid
  simp [activate, h, h0, hclock, hrecord, hcheck, activateValid, ha]

end

/-! ## ACTIVATE PLAN (R56, R57) -/

/-- The selector under a manual hold of plan `p`, with the requested plan (R57). -/
def Selector.held (v : Selector) (p requested : Nat) : Selector :=
  { v with holdOn := true, holdPlan := p, requested := requested }

theorem arbitrate_of_forced {s : State} (h : s.forced.isSome = true) (on : Bool) (p : Nat) :
    (setHold on p s).arbitrate = s.arbitrate := by
  obtain ⟨f, hf⟩ := Option.isSome_iff_exists.mp h
  have hforced : (setHold on p s).forced = some f := hf
  rw [State.arbitrate, hforced, State.arbitrate, hf]

/-- Where no input forces a plan the held plan is the requested one (R52). -/
theorem arbitrate_of_held {s : State} (h : s.forced = none) (p : Nat) : (setHold true p s).arbitrate = p := by
  have hforced : (setHold true p s).forced = none := h
  rw [State.arbitrate, hforced]
  rfl

section
variable {p : Nat} {s u : State}

theorem ownActivatePlan_of_outOfRange (hp : 8 < p) : ownActivatePlan p s = refuse .outOfRange s := if_pos hp

theorem ownActivatePlan_of_forced (hp : p ≤ 8) (hf : s.forced.isSome = true) :
    ownActivatePlan p s = done .overridden [] (s.setSelector (s.selector.held p s.arbitrate)) := by
  rw [ownActivatePlan, if_neg (Nat.not_lt.mpr hp), if_pos hf, reform, arbitrate_of_forced hf]
  rfl

variable {o : ActivationOutcome}

theorem ownActivatePlan_of_refused (hp : p ≤ 8) (hf : s.forced = none) (h : activate p s = (o, s))
    (ho : o.refused = true) : ownActivatePlan p s = (o.reply, s) := by
  rw [ownActivatePlan, if_neg (Nat.not_lt.mpr hp), hf, h]
  simp [ho]

/-- The hold and the requested plan are set after the activation has run (R57). -/
theorem ownActivatePlan_of_accepted (hp : p ≤ 8) (hf : s.forced = none) (h : activate p s = (o, u))
    (ho : o.refused = false) (hu : u.forced = s.forced) :
    ownActivatePlan p s = (o.reply, u.setSelector (u.selector.held p p)) := by
  rw [ownActivatePlan, if_neg (Nat.not_lt.mpr hp), hf, h]
  simp only [Option.isSome_none, Bool.false_eq_true, if_false, ho, reform, arbitrate_of_held (hu.trans hf)]
  rfl

theorem ownActivatePlan_of_active (hp : p ≤ 8) (hf : s.forced = none) (h : p = s.activeNumber) :
    ownActivatePlan p s =
      (doneReply (if s.selector.pendingPlan.isSome then .pendingCancelled else .noChange) [],
        s.setSelector (({ s.selector with pendingPlan := none } : Selector).held p p)) := by
  rw [ownActivatePlan_of_accepted hp hf (activate_of_active h) (by split <;> rfl) rfl]
  split <;> rfl

theorem ownActivatePlan_of_pending (hp : p ≤ 8) (hf : s.forced = none)
    (h : activate p s = (.pending, makePending p s)) :
    ownActivatePlan p s =
      (doneReply .pending [], s.setSelector (({ s.selector with pendingPlan := some p } : Selector).held p p)) :=
  ownActivatePlan_of_accepted hp hf h rfl rfl

end

theorem failure_payload (f : Failure) : f.payload =
    [BitVec.ofNat 8 f.junction.isSome.toNat, BitVec.ofNat 8 f.check, BitVec.ofNat 8 (f.junction.getD 0)] := by
  cases hj : f.junction <;>
    simp [Failure.payload, payloadOf, item, optByte, optItem, byteOf, presenceBytes, packBits, hj]

section
variable {b : Byte} {s u : State} {r : Reply}

theorem exec_activatePlan (ps : List Byte) (k : Nat) (s : State) :
    exec (.activatePlan ps k) s = execActivatePlan ps s k := rfl

theorem exec_activatePlan_of_owner (hs : Idle s) (h : ownActivatePlan b.toNat (accepted 3 s) = (r, u)) :
    exec (.activatePlan [b]) s = .next (settle s (executing 0x20 r u)) :=
  (exec_activatePlan [b] 0 s).trans (run_send_of_serve hs h)

theorem activatePlan_refuses {reason : Reason} {payload : List Byte} (hs : Idle s)
    (h : ownActivatePlan b.toNat (accepted 3 s) = (refusedReply reason payload, accepted 3 s)) :
    Refuses (.activatePlan [b]) s 0x20 reason payload :=
  have hframe : Frame [] (accepted 3 s) (accepted 3 s) := .refl _ _
  ⟨_, exec_activatePlan_of_owner hs h, answersList_executing hs.2 hframe (by simp) _ _,
    frame_executed_of_quiet hs.2 hframe (by simp) _ _⟩

/-- An outcome that changes the selector alone. -/
theorem activatePlan_selects {reason : Reason} {v : Selector} (hs : Idle s)
    (h : ownActivatePlan b.toNat (accepted 3 s) = (doneReply reason [], (accepted 3 s).setSelector v)) :
    ∃ t, exec (.activatePlan [b]) s = .next t ∧ Answers t 0x20 .done reason [] ∧ Frame [.selector, .port] s t ∧
      t.selector = v :=
  have hframe := frame_setSelector (accepted 3 s) v
  ⟨_, exec_activatePlan_of_owner hs h, answersList_executing hs.2 hframe (by simp) _ _,
    (frame_executed_of_quiet hs.2 hframe (by simp) _ _).mono (by simp), by simp⟩

/-- A plan that takes effect at once: its six stages, then the selector's. -/
theorem activatePlan_takes {p : Plan} {v : Selector} (hs : Idle s) (hcheck : failedCheck p s.junctions = none)
    (h : ownActivatePlan b.toNat (accepted 3 s) =
      (doneReply .none [], (takeEffect b.toNat p (accepted 3 s)).setSelector v)) :
    ∃ t, exec (.activatePlan [b]) s = .next t ∧ Answers t 0x20 .done .none [] ∧
      Frame [.selector, .junctions, .latched, .pulseEnd, .port] s t ∧ t.selector = v ∧
      PlanInEffect (formActive b.toNat p s) b.toNat p s t := by
  have hframe := (frame_takeEffect b.toNat p (accepted 3 s)).trans ((frame_setSelector _ v).mono (by simp))
  obtain ⟨hsize, hcycle⟩ := size_and_cycle_of_valid hcheck
  refine ⟨_, exec_activatePlan_of_owner hs h, answersList_executing hs.2 hframe (by simp) _ _,
    (frame_executed hframe _ _).mono (by simp), by simp, ?_⟩
  refine planInEffect_of_takeEffect (by omega) hsize ?_ ?_
  · rw [settle_junctions]
    rfl
  · rw [settle_latched]
    rfl

end

end Sys2Proof.Machine

namespace Sys2Proof.Proofs

open Sys2Proof.Machine Sys2Proof.Safety

/-- Settles O37, one outcome of the owner after the other. The owner acts in `accepted 3 s`, which differs from `s` in
the port alone, so what the statement says of `s` is what an activation finds there. -/
theorem activatePlanOutcomes : Obligations.ActivatePlanOutcomes := by
  intro b s hs
  refine ⟨fun hb => ?_, fun hb hf => ?_, fun hb hf => ⟨fun ha => ?_, fun ha hvalid => ?_, fun ha h0 hclock => ?_,
    fun ha h0 hclock hrecord => ?_, fun p f ha h0 hclock hrecord hcheck => ?_,
    fun p hplan0 h0 hclock hrecord hcheck => ?_⟩⟩
  · exact activatePlan_refuses hs (ownActivatePlan_of_outOfRange hb)
  · exact activatePlan_selects hs (ownActivatePlan_of_forced hb hf)
  · exact activatePlan_selects hs (ownActivatePlan_of_active hb hf ha)
  · refine activatePlan_selects hs (ownActivatePlan_of_pending hb hf ?_)
    by_cases h0 : b.toNat = 0
    · exact activate_of_plan0 ha h0
    · obtain ⟨hactive, hclock, hplan⟩ := hvalid.resolve_left h0
      exact activate_of_valid_under_other ha h0 hactive hclock hplan
  · have hrefused := activate_of_noClock (s := accepted 3 s) ha h0 hclock
    exact activatePlan_refuses hs (ownActivatePlan_of_refused (s := accepted 3 s) hb hf hrefused rfl)
  · have hrefused := activate_of_empty (s := accepted 3 s) ha h0 hclock hrecord
    exact activatePlan_refuses hs (ownActivatePlan_of_refused (s := accepted 3 s) hb hf hrefused rfl)
  · have hrefused := activate_of_failed (s := accepted 3 s) ha h0 hclock hrecord hcheck
    rw [← failure_payload]
    exact activatePlan_refuses hs (ownActivatePlan_of_refused (s := accepted 3 s) hb hf hrefused rfl)
  · have htakes := activate_of_valid_from_plan0 (s := accepted 3 s) hplan0 h0 hclock hrecord hcheck
    have howner := ownActivatePlan_of_accepted (s := accepted 3 s) hb hf htakes rfl rfl
    obtain ⟨t, hnext, heffect⟩ := activatePlan_takes hs hcheck howner
    exact ⟨t, formActive b.toNat p s, hnext, heffect⟩

end Sys2Proof.Proofs
end

section
/-! SUPPORT. When an event that replaces one junction brings no alert source in; the refusal of a request by its
owner. -/

namespace Sys2Proof.Machine

open Sys2Proof.Safety

/-! ## No joining source (R167, R169) -/

/-- A level source whose condition is no weaker than another's adds no bit to it. -/
theorem onlyIf_getLsbD_mono {x : AlertSource} {c d : Bool} (h : c = true → d = true) {i : Nat}
    (hi : (x.onlyIf c).getLsbD i = true) : (x.onlyIf d).getLsbD i = true := by
  cases c with
  | false => simp [AlertSource.onlyIf] at hi
  | true => rwa [h rfl]

/-- An event that changes junctions and the port alone makes no source pending that is not formed from them. -/
theorem pendingSet_getLsbD_mono {s t : State} (hframe : Frame [.junctions, .port] s t)
    (hready : t.resultReady = s.resultReady) (hfault : t.junctionFault = true → s.junctionFault = true)
    (hpreempt : t.preemptActive = true → s.preemptActive = true) {i : Nat} (hi : t.pendingSet.getLsbD i = true) :
    s.pendingSet.getLsbD i = true := by
  have htime : t.time = s.time := hframe .time (by simp)
  have hlatched : t.alerts.latched = s.alerts.latched := hframe .latched (by simp)
  simp only [State.pendingSet, State.levelSet, BitVec.getLsbD_or, Bool.or_eq_true, htime, hlatched, hready] at hi ⊢
  exact hi.imp_left <| Or.imp_left <|
    Or.imp (Or.imp_right (onlyIf_getLsbD_mono hfault)) (onlyIf_getLsbD_mono hpreempt)

/-- No source joins where the pending set only shrinks under one configuration of the alert unit. -/
theorem joined_of_pendingSet_mono {s t : State} (hconf : Block.alertConfig.same s t)
    (h : ∀ i, t.pendingSet.getLsbD i = true → s.pendingSet.getLsbD i = true) : joined s t = 0 := by
  obtain ⟨henable, hglobal, -⟩ := hconf
  cases hon : s.alerts.global with
  | false => simp [joined, State.activeSet, hglobal, hon]
  | true =>
    refine BitVec.eq_of_getLsbD_eq fun i hi => ?_
    cases ht : t.pendingSet.getLsbD i with
    | false => simp [joined, State.activeSet, hglobal, hon, ht]
    | true => simp [joined, State.activeSet, hglobal, hon, henable, ht, h i ht, hi]

/-- A test of the junction states holds nowhere new when it is no weaker on the junction replaced. -/
theorem anyJunction_of_replaced {s t : State} {j : Nat} {q q' : Junction} (hq : s.junctions[j]? = some q)
    (hjunctions : t.junctions = s.junctions.set j q') {test : Coordination → Bool}
    (hnew : test q'.state = true → test q.state = true) (h : t.anyJunction test = true) :
    s.anyJunction test = true := by
  obtain ⟨x, hx, htest⟩ := List.any_eq_true.mp h
  rw [hjunctions] at hx
  obtain hold | rfl := List.mem_or_eq_of_mem_set hx
  · exact List.any_eq_true.mpr ⟨x, hold, htest⟩
  · exact List.any_eq_true.mpr ⟨q, List.mem_of_getElem? hq, hnew htest⟩

/-- Replacing one junction by another that is not newly in FREE(FAULT) or in PREEMPT brings no source in. -/
theorem joined_of_replaced {s t : State} {j : Nat} {q q' : Junction} (hq : s.junctions[j]? = some q)
    (hjunctions : t.junctions = s.junctions.set j q') (hframe : Frame [.junctions, .port] s t)
    (hready : t.resultReady = s.resultReady) (hfault : q'.state.isFault = true → q.state.isFault = true)
    (hpreempt : q'.state.isPreempt = true → q.state.isPreempt = true) : joined s t = 0 :=
  joined_of_pendingSet_mono (hframe .alertConfig (by simp)) fun _ =>
    pendingSet_getLsbD_mono hframe hready (anyJunction_of_replaced hq hjunctions hfault)
      (anyJunction_of_replaced hq hjunctions hpreempt)

/-! ## A request refused by its owner -/

/-- A request that its owner refuses leaves the state in which the owner found it. -/
theorem refuses_of_serve {c : Instr} {code : Byte} {ps : List Byte} {req : Option Request} {s : State}
    {reason : Reason} {payload : List Byte} (hs : Idle s) (hexec : exec c s = run (send code ps 0 req) s)
    (h : serve req (accepted (2 + ps.length + 0) s) =
      (refusedReply reason payload, accepted (2 + ps.length + 0) s)) :
    Refuses c s code reason payload :=
  have hframe := Frame.refl [] (accepted (2 + ps.length + 0) s)
  ⟨_, hexec.trans (run_send_of_serve hs h), answersList_executing hs.2 hframe (by simp) _ _,
    frame_executed_of_quiet hs.2 hframe (by simp) _ _⟩

end Sys2Proof.Machine
end

section
/-! SUPPORT. The booking of a junction: its drift (R69), its judgement (R71) and its correction (R73); what the BOOKING
event does at a booking; and the two statements about it. -/

namespace Sys2Proof.Machine

open Sys2Proof.Safety

/-! ## The drift (R69) -/

theorem driftAt_of_le {c pRef o : Nat} (h : 2 * (((pRef : Int) - o) % c) ≤ c) :
    driftAt c pRef o = ((pRef : Int) - o) % c := if_pos h

theorem driftAt_of_gt {c pRef o : Nat} (h : (c : Int) < 2 * (((pRef : Int) - o) % c)) :
    driftAt c pRef o = ((pRef : Int) - o) % c - c := if_neg (by omega)

theorem dvd_driftAt_sub (c pRef o : Nat) : (c : Int) ∣ driftAt c pRef o - ((pRef : Int) - o) := by
  have hresidue : (c : Int) ∣ ((pRef : Int) - o) % c - ((pRef : Int) - o) := by
    rw [← Int.neg_sub]
    exact (Int.dvd_self_sub_emod (x := (pRef : Int) - o)).neg_right
  by_cases h : 2 * (((pRef : Int) - o) % c) ≤ c
  · rwa [driftAt_of_le h]
  · rw [driftAt_of_gt (by omega), sub_right_comm]
    exact Int.dvd_sub hresidue (Int.dvd_refl _)

/-- The drift lies in the half-open window of one cycle around 0. -/
theorem driftAt_near {c : Nat} (hc : 0 < c) (pRef o : Nat) :
    -(c : Int) < 2 * driftAt c pRef o ∧ 2 * driftAt c pRef o ≤ c := by
  have hnonneg : 0 ≤ ((pRef : Int) - o) % c := Int.emod_nonneg _ (by omega)
  have hlt : ((pRef : Int) - o) % c < c := Int.emod_lt_of_pos _ (by omega)
  by_cases h : 2 * (((pRef : Int) - o) % c) ≤ c
  · rw [driftAt_of_le h]
    omega
  · rw [driftAt_of_gt (by omega)]
    omega

/-- The window holds one value of the residue. -/
theorem eq_driftAt_of_near {c : Nat} (hc : 0 < c) {pRef o : Nat} {x : Int}
    (hdvd : (c : Int) ∣ x - ((pRef : Int) - o)) (hlow : -(c : Int) < 2 * x) (hhigh : 2 * x ≤ c) :
    x = driftAt c pRef o := by
  obtain ⟨helow, hehigh⟩ := driftAt_near hc pRef o
  have hxe : (c : Int) ∣ x - driftAt c pRef o := by
    simpa using Int.dvd_sub hdvd (dvd_driftAt_sub c pRef o)
  exact eq_of_dvd_sub_of_near (a := 0) hxe (by omega) (by omega) (by omega) (by omega)

theorem driftOfJunction_of_offset {a : ActivePlan} {j o : Nat} (h : a.offsets[j]? = some o) (p : Plan) :
    driftOfJunction a p j = driftAt p.c a.pRef o := by
  simp [driftOfJunction, List.getD_eq_getElem?_getD, h]

/-! ## The judgement (R71) -/

section
variable {p : Plan} {e : Int}

theorem judge_inStep_of_le (h : e.natAbs ≤ p.hOut) (n : Nat) : judge p e true n = .inStep := by
  simp [judge, h]

theorem judge_inStep_of_gt (h : p.hOut < e.natAbs) (n : Nat) : judge p e true n = .seek 0 := by
  simp [judge, Nat.not_le.mpr h]

theorem judge_seek_of_le (h : e.natAbs ≤ p.hIn) (n : Nat) : judge p e false n = .inStep := by
  simp [judge, h]

theorem judge_seek_of_gt (h : p.hIn < e.natAbs) {n : Nat} (hn : n + 1 < p.k) :
    judge p e false n = .seek (n + 1) := by
  simp [judge, Nat.not_le.mpr h, hn]

theorem judge_seek_of_last (h : p.hIn < e.natAbs) {n : Nat} (hn : n + 1 = p.k) : judge p e false n = .fault := by
  simp [judge, Nat.not_le.mpr h, hn]

end

/-! ## The correction (R73) -/

section
variable {p : Plan} {g smin : Nat} {e : Int}

theorem correctedLength_of_late (he : 0 < e) (hcap : 0 < p.c - g - smin) :
    correctedLength p g smin e = p.c - min e.natAbs (min p.s (p.c - g - smin)) := by
  rw [correctedLength, if_pos he, shortenCapacity, if_pos hcap]

theorem correctedLength_of_late_without_capacity (he : 0 < e) (hcap : p.c - g - smin = 0) :
    correctedLength p g smin e = p.c + min (p.c - e.natAbs) p.s := by
  rw [correctedLength, if_pos he, shortenCapacity, if_neg (by omega)]

theorem correctedLength_of_early (he : e < 0) : correctedLength p g smin e = p.c + min e.natAbs p.s := by
  rw [correctedLength, if_neg (by omega), if_pos he]

theorem correctedLength_of_in_time (he : e = 0) : correctedLength p g smin e = p.c := by
  rw [correctedLength, if_neg (by omega), if_neg (by omega)]

/-- A correction leaves room for the green and the side minimum, and holds back by no more than S. -/
theorem correctedLength_bounds (hroom : g + smin ≤ p.c) :
    g + smin ≤ correctedLength p g smin e ∧ correctedLength p g smin e ≤ p.c + p.s := by
  obtain hneg | hzero | hpos := lt_trichotomy e 0
  · rw [correctedLength_of_early hneg]
    omega
  · rw [correctedLength_of_in_time hzero]
    omega
  · by_cases hcap : p.c - g - smin = 0
    · rw [correctedLength_of_late_without_capacity hpos hcap]
      omega
    · rw [correctedLength_of_late hpos (by omega)]
      omega

end

/-! ## A junction at its booking (R71, R72, R75) -/

section
variable {now : Ct} {p : Plan} {j : Nat} {e : Int} {q : Junction} {w : Window}

/-- What a verdict makes of a coordinated junction (R72, R75). -/
def Verdict.outcome (v : Verdict) (now : Ct) (p : Plan) (j : Nat) (e : Int) (q : Junction) : Junction :=
  match v with
  | .inStep => bookInto now p j e true 0 q
  | .seek n => bookInto now p j e false n q
  | .fault => { q with state := .free .fault }

theorem bookJunction_in_seek (hw : q.state = .seek w) :
    bookJunction now p j e q = (judge p e false w.seekCount).outcome now p j e q := by
  cases hv : judge p e false w.seekCount <;> simp [bookJunction, hw, Coordination.isInStep, hv, Verdict.outcome]

theorem bookJunction_in_step (hw : q.state = .inStep w) :
    bookJunction now p j e q = (judge p e true w.seekCount).outcome now p j e q := by
  cases hv : judge p e true w.seekCount <;> simp [bookJunction, hw, Coordination.isInStep, hv, Verdict.outcome]

theorem Verdict.outcome_cases (v : Verdict) (now : Ct) (p : Plan) (j : Nat) (e : Int) (q : Junction) :
    (∃ inStep n, v.outcome now p j e q = bookInto now p j e inStep n q) ∨
      v.outcome now p j e q = { q with state := .free .fault } := by
  cases v with
  | inStep => exact .inl ⟨true, 0, rfl⟩
  | seek n => exact .inl ⟨false, n, rfl⟩
  | fault => exact .inr rfl

/-- Everything a booking can make of a coordinated junction: a new cycle, or FREE(FAULT). -/
theorem bookJunction_cases (now : Ct) (p : Plan) (j : Nat) (e : Int)
    (hw : q.state = .seek w ∨ q.state = .inStep w) :
    (∃ inStep n, bookJunction now p j e q = bookInto now p j e inStep n q) ∨
      bookJunction now p j e q = { q with state := .free .fault } := by
  obtain hseek | hstep := hw
  · rw [bookJunction_in_seek hseek]
    exact Verdict.outcome_cases ..
  · rw [bookJunction_in_step hstep]
    exact Verdict.outcome_cases ..

/-- A booking that sets up a cycle leaves the junction coordinated. -/
theorem bookInto_coordinated (now : Ct) (p : Plan) (j : Nat) (e : Int) (inStep : Bool) (n : Nat) (q : Junction) :
    (bookInto now p j e inStep n q).state.isFault = false ∧
      (bookInto now p j e inStep n q).state.isPreempt = false := by
  cases inStep <;> exact ⟨rfl, rfl⟩

theorem bookInto_cycle (now : Ct) (p : Plan) (j : Nat) (e : Int) (inStep : Bool) (n : Nat) (q : Junction) :
    (bookInto now p j e inStep n q).cycle? = some (bookedCycle now p j q.smin e) := by
  cases inStep <;> rfl

/-- The cycle of a booked junction, where it has one, records the drift of the booking. -/
theorem bookJunction_drift (hw : q.state = .seek w ∨ q.state = .inStep w) {c : Cycle}
    (hc : (bookJunction now p j e q).cycle? = some c) : c.drift = e := by
  obtain ⟨inStep, n, hbook⟩ | hfault := bookJunction_cases now p j e hw
  · rw [hbook, bookInto_cycle] at hc
    obtain rfl := Option.some.inj hc
    rfl
  · rw [hfault] at hc
    cases hc

end

/-! ## The BOOKING event at a booking (R70, R72, R75) -/

theorem exec_booking (j : Fin 24) (s : State) : exec (.booking j) s = run (takeEvent (.booking j)) s := rfl

section
variable {j : Fin 24} {a : ActivePlan} {p : Plan} {q q' : Junction} {w : Window} {s : State}

theorem window_of_atBooking (h : AtBooking j a p q w s) : q.state.window? = some w := by
  obtain hstate | hstate := h.window <;> rw [hstate] <;> rfl

theorem bookingTime_of_atBooking (h : AtBooking j a p q w s) : w.bookingTime = s.time.ct := by
  rw [h.time]
  cases hc : w.cycle <;> simp [Window.bookingTime, hc, plus]

theorem booking_due_of_atBooking (h : AtBooking j a p q w s) : (Event.booking j).due s = true := by
  have hbook : q.bookTime = some s.time.ct := by
    rw [Junction.bookTime, window_of_atBooking h, Option.map_some, bookingTime_of_atBooking h]
  have htime : (s.junctions[j.val]?).bind Junction.bookTime = some s.time.ct := by
    rw [h.junction, Option.bind_some, hbook]
  rw [Event.due, htime]
  exact atOrBefore_self _

theorem exec_booking_of_atBooking (h : AtBooking j a p q w s) :
    exec (.booking j) s = .next (settle s (book j.val s)) := by
  rw [exec_booking, run_of_running h.running, takeEvent_of_due (booking_due_of_atBooking h)]
  rfl

theorem isFault_of_atBooking (h : AtBooking j a p q w s) : q.state.isFault = false := by
  obtain hstate | hstate := h.window <;> rw [hstate] <;> rfl

/-- A booking replaces the junction, and sets SEEK_FAULT where the junction is faulted. -/
theorem book_of_atBooking (h : AtBooking j a p q w s)
    (hq' : bookJunction s.time.ct p j.val (driftOfJunction a p j.val) q = q') :
    book j.val s = (if q'.state.isFault then (s.setJunctions (s.junctions.set j.val q')).latch .seekFault
      else s.setJunctions (s.junctions.set j.val q')) := by
  simp only [book, h.plan, h.junction, State.now, hq', updateJunction_of_get h.junction, isFault_of_atBooking h,
    Bool.not_false, Bool.and_true]

/-- Every booking answers a next state with the one junction replaced. -/
theorem booking_replaces_junction (h : AtBooking j a p q w s) :
    ∃ t, exec (.booking j) s = .next t ∧
      t.junctions = s.junctions.set j.val (bookJunction s.time.ct p j.val (driftOfJunction a p j.val) q) := by
  refine ⟨_, exec_booking_of_atBooking h, ?_⟩
  rw [settle_junctions, book_of_atBooking h rfl]
  split <;> rfl

/-- A booking that faults nothing does nothing but replace the junction; no pulse starts. -/
theorem booking_of_bookInto (h : AtBooking j a p q w s) {inStep : Bool} {n : Nat}
    (hq' : bookJunction s.time.ct p j.val (driftOfJunction a p j.val) q =
      bookInto s.time.ct p j.val (driftOfJunction a p j.val) inStep n q) :
    exec (.booking j) s = .next (s.setJunctions (s.junctions.set j.val
      (bookInto s.time.ct p j.val (driftOfJunction a p j.val) inStep n q))) := by
  obtain ⟨hfault, hpreempt⟩ :=
    bookInto_coordinated s.time.ct p j.val (driftOfJunction a p j.val) inStep n q
  rw [exec_booking_of_atBooking h, book_of_atBooking h hq', hfault, if_neg Bool.false_ne_true]
  exact congrArg _ <| settle_of_subset <|
    joined_of_replaced h.junction (s.setJunctions_junctions _) ((frame_setJunctions s _).mono (by simp)) rfl
      (fun hf => nomatch hfault.symm.trans hf) (fun hp => nomatch hpreempt.symm.trans hp)

/-- A booking that faults the junction sets SEEK_FAULT, and may start a pulse. -/
theorem booking_of_fault (h : AtBooking j a p q w s)
    (hq' : bookJunction s.time.ct p j.val (driftOfJunction a p j.val) q = { q with state := .free .fault }) :
    exec (.booking j) s = .next (settle s
      ((s.setJunctions (s.junctions.set j.val { q with state := .free .fault })).latch .seekFault)) := by
  rw [exec_booking_of_atBooking h, book_of_atBooking h hq']
  rfl

end

end Sys2Proof.Machine

namespace Sys2Proof.Proofs

open Sys2Proof.Machine Sys2Proof.Safety

/-- Settles O42: the drift by the two ranges of its residue and the width of its window, the judgement by the five
equations of `judge`. -/
theorem bookingJudgesDrift : Obligations.BookingJudgesDrift := by
  refine ⟨?_, ?_⟩
  · intro j a p q w s o h hc ho r e
    obtain ⟨hlow, hhigh⟩ : -(p.c : Int) < 2 * e ∧ 2 * e ≤ p.c := driftAt_near hc a.pRef o
    obtain ⟨t, hnext, hjunctions⟩ := booking_replaces_junction h
    have hq' : t.junctions[j.val]? = some (bookJunction s.time.ct p j.val (driftOfJunction a p j.val) q) := by
      rw [hjunctions, List.getElem?_set_self (List.getElem?_eq_some_iff.mp h.junction).1]
    have hdrift (c : Machine.Cycle)
        (hc : (bookJunction s.time.ct p j.val (driftOfJunction a p j.val) q).cycle? = some c) : c.drift = e := by
      rw [bookJunction_drift h.window hc, driftOfJunction_of_offset ho]
    exact ⟨Int.emod_nonneg _ (by omega), Int.emod_lt_of_pos _ (by omega), driftAt_of_le, driftAt_of_gt, hlow, hhigh,
      Int.emod_eq_zero_of_dvd (dvd_driftAt_sub p.c a.pRef o),
      fun x hx => eq_driftAt_of_near hc (Int.dvd_of_emod_eq_zero hx), t, _, hnext, hq', hdrift⟩
  · intro j a p q w s h e
    obtain ⟨t, hnext, hjunctions⟩ := booking_replaces_junction h
    refine ⟨t, _, hnext, hjunctions, fun hw he => ?_, fun hw he => ?_, fun hw he => ?_, fun hw he hn => ?_,
      fun hw he hn => ?_⟩
    · rw [bookJunction_in_step hw, judge_inStep_of_gt he]
      exact ⟨_, rfl, rfl⟩
    · rw [bookJunction_in_step hw, judge_inStep_of_le he]
      exact ⟨_, rfl, rfl⟩
    · rw [bookJunction_in_seek hw, judge_seek_of_le he]
      exact ⟨_, rfl, rfl⟩
    · rw [bookJunction_in_seek hw, judge_seek_of_gt he hn]
      exact ⟨_, rfl, rfl⟩
    · rw [bookJunction_in_seek hw, judge_seek_of_last he hn]
      rfl

/-- Settles O43: the correction by the sign of the drift and the capacity, the booking by its two outcomes. -/
theorem bookingSetsUpCycle : Obligations.BookingSetsUpCycle := by
  refine ⟨?_, ?_⟩
  · intro p smin g e _ hroom _ _
    exact ⟨correctedLength_of_late, correctedLength_of_late_without_capacity, correctedLength_of_early,
      correctedLength_of_in_time, correctedLength_bounds hroom⟩
  · intro j a p q w s h e
    obtain ⟨inStep, n, hbook⟩ | hfault := bookJunction_cases s.time.ct p j.val e h.window
    · have hstands := (bookInto_coordinated s.time.ct p j.val e inStep n q).1
      refine ⟨_, _, booking_of_bookInto h hbook, rfl, fun _ => ⟨frame_setJunctions s _, ⟨n, ?_⟩, rfl⟩, fun hf => ?_⟩
      · cases inStep with
        | false => exact .inl rfl
        | true => exact .inr rfl
      · rw [hf] at hstands
        cases hstands
    · refine ⟨_, { q with state := .free .fault }, booking_of_fault h hfault, by simp [latch_eq],
        fun hne => absurd rfl hne, fun _ => ⟨?_, rfl, by simp [latch_eq]⟩⟩
      exact ((frame_setJunctions s _).mono (by simp)).trans <|
        ((frame_latch _ .seekFault).mono (by simp)).trans ((frame_settle s _).mono (by simp))

end Sys2Proof.Proofs
end

section
/-! SUPPORT. RESYNC JUNCTION at its owner (R77), and the statement about it. -/

namespace Sys2Proof.Machine

open Sys2Proof.Safety

/-- A faulted junction restarted: into SEEK, or FREE(CORRIDOR_FREE) while that function holds (R76, R77). -/
def Junction.resynced (q : Junction) (now : Ct) (corridorFree : Bool) : Junction :=
  { q with state := if corridorFree then .free .corridorFree else enterSeek now }

/-- A restarted junction is neither in FREE(FAULT) nor in PREEMPT. -/
theorem resynced_stands (q : Junction) (now : Ct) (corridorFree : Bool) :
    (q.resynced now corridorFree).state.isFault = false ∧ (q.resynced now corridorFree).state.isPreempt = false := by
  cases corridorFree <;> exact ⟨rfl, rfl⟩

section
variable {j : Nat} {q : Junction} {s : State}

theorem ownResyncJunction_of_unconfigured (h : s.junctions[j]? = none) :
    ownResyncJunction j s = refuse .notConfigured s := by
  simp [ownResyncJunction, h]

theorem ownResyncJunction_of_standing (h : s.junctions[j]? = some q) (hstate : q.state ≠ .free .fault) :
    ownResyncJunction j s = refuse .wrongState s := by
  simp [ownResyncJunction, h, Coordination.isFault, hstate]

theorem ownResyncJunction_of_faulted (h : s.junctions[j]? = some q) (hstate : q.state = .free .fault) :
    ownResyncJunction j s =
      done .none [] (s.setJunctions (s.junctions.set j (q.resynced s.now s.corridorFree))) := by
  simp [ownResyncJunction, h, Coordination.isFault, hstate, updateJunction_of_get h, Junction.resynced]

end

theorem exec_resyncJunction (ps : List Byte) (k : Nat) (s : State) :
    exec (.resyncJunction ps k) s = run (send 0x22 ps k (some (reqResyncJunction ps))) s := rfl

/-- RESYNC JUNCTION of one byte is no edit, so its owner always acts. -/
theorem serve_resyncJunction (b : Byte) (s : State) :
    serve (some (reqResyncJunction [b])) s = ownResyncJunction b.toNat s := rfl

/-- Of a faulted junction it replaces the junction, and no source joins, since one fault less is pending. -/
theorem resyncJunction_restarts {b : Byte} {q : Junction} {s : State} (hs : Idle s)
    (hq : s.junctions[b.toNat]? = some q) (hstate : q.state = .free .fault) :
    ∃ t, exec (.resyncJunction [b]) s = .next t ∧ Answers t 0x22 .done .none [] ∧ Frame [.junctions, .port] s t ∧
      t.junctions = s.junctions.set b.toNat (q.resynced s.time.ct s.corridorFree) := by
  have hserve : serve (some (reqResyncJunction [b])) (accepted 3 s) = _ :=
    ownResyncJunction_of_faulted (s := accepted 3 s) hq hstate
  have hframe := frame_setJunctions (accepted 3 s) (s.junctions.set b.toNat (q.resynced s.time.ct s.corridorFree))
  have hchanged := (frame_executing_of_owner hframe 0x22 (doneReply .none [])).mono (m := [.junctions, .port]) (by simp)
  obtain ⟨hfault, hpreempt⟩ := resynced_stands q s.time.ct s.corridorFree
  have hjoined := joined_of_replaced hq rfl hchanged (by simp [State.resultReady, executing, hs.2])
    (fun h => nomatch hfault.symm.trans h) (fun h => nomatch hpreempt.symm.trans h)
  refine ⟨_, (exec_resyncJunction [b] 0 s).trans (run_send_of_serve hs hserve),
    answersList_executing hs.2 hframe (by simp) _ _, ?_, ?_⟩
  · exact (settle_of_subset hjoined).symm ▸ hchanged
  · rw [settle_junctions]
    rfl

end Sys2Proof.Machine

namespace Sys2Proof.Proofs

open Sys2Proof.Machine Sys2Proof.Safety

/-- Settles O44, by the three things the owner finds at the junction: none, one that stands, a faulted one. -/
theorem resyncRestartsFaultedJunction : Obligations.ResyncRestartsFaultedJunction := by
  intro b s hs
  refine ⟨fun hn => ?_, fun q hq hstate => ?_, fun q hq hstate => resyncJunction_restarts hs hq hstate⟩
  · have hnone : s.junctions[b.toNat]? = none := List.getElem?_eq_none hn
    exact refuses_of_serve hs (exec_resyncJunction [b] 0 s) (ownResyncJunction_of_unconfigured hnone)
  · have hstands := ownResyncJunction_of_standing (s := accepted 3 s) hq hstate
    exact refuses_of_serve hs (exec_resyncJunction [b] 0 s) hstands

end Sys2Proof.Proofs
end

section
/-! SUPPORT. A request whose owner replaces one junction; SPILLBACK at its owner (R91), the expiry of a spillback flag
(R92), and the statement about both. -/

namespace Sys2Proof.Machine

open Sys2Proof.Safety

/-! ## A request that replaces one junction -/

/-- An owner that replaces one junction by another that is not newly in FREE(FAULT) or in PREEMPT changes nothing
else, and no pulse starts. -/
theorem answers_of_replaced {c : Instr} {code : Byte} {ps : List Byte} {req : Option Request} {s : State}
    {reason : Reason} {payload : List Byte} {j : Nat} {q q' : Junction} (hs : Idle s)
    (hexec : exec c s = run (send code ps 0 req) s)
    (h : serve req (accepted (2 + ps.length + 0) s) =
      done reason payload ((accepted (2 + ps.length + 0) s).setJunctions (s.junctions.set j q')))
    (hq : s.junctions[j]? = some q) (hfault : q'.state.isFault = true → q.state.isFault = true)
    (hpreempt : q'.state.isPreempt = true → q.state.isPreempt = true) :
    ∃ t, exec c s = .next t ∧ Answers t code .done reason payload ∧ Frame [.junctions, .port] s t ∧
      t.junctions = s.junctions.set j q' := by
  have hframe := frame_setJunctions (accepted (2 + ps.length + 0) s) (s.junctions.set j q')
  have hchanged :=
    (frame_executing_of_owner hframe code (doneReply reason payload)).mono (m := [.junctions, .port]) (by simp)
  have hjoined := joined_of_replaced hq rfl hchanged (by simp [State.resultReady, executing, hs.2]) hfault hpreempt
  refine ⟨_, hexec.trans (run_send_of_serve hs h), answersList_executing hs.2 hframe (by simp) _ _, ?_, ?_⟩
  · exact (settle_of_subset hjoined).symm ▸ hchanged
  · rw [settle_junctions]
    rfl

/-! ## The direction and the on / off byte (12.1) -/

theorem direction?_of_gt {n : Nat} (h : 1 < n) : direction? n = none := by
  rw [direction?, if_neg (by omega), if_neg (by omega)]

theorem flag?_of_gt {n : Nat} (h : 1 < n) : flag? n = none := by
  rw [flag?, if_neg (by omega), if_neg (by omega)]

/-- A byte that is at most 1 is 0 or 1. -/
theorem byte_cases_of_le_one {b : Byte} (h : b.toNat ≤ 1) : b = 0 ∨ b = 1 := by bv_omega

theorem direction?_of_le {d : Byte} (h : d.toNat ≤ 1) :
    direction? d.toNat = some (if d = 0 then .inbound else .outbound) := by
  obtain rfl | rfl := byte_cases_of_le_one h <;> rfl

theorem flag?_of_le {v : Byte} (h : v.toNat ≤ 1) : flag? v.toNat = some (decide (v = 1)) := by
  obtain rfl | rfl := byte_cases_of_le_one h <;> rfl

/-! ## The spillback flags of a junction (R90) -/

@[simp] theorem Junction.setSpill_state (q : Junction) (d : Direction) (e : Option Ct) :
    (q.setSpill d e).state = q.state := by
  cases d <;> rfl

theorem setSpill_of_byte (q : Junction) (d : Byte) (e : Option Ct) :
    q.setSpill (if d = 0 then .inbound else .outbound) e =
      if d = 0 then { q with spillIn := e } else { q with spillOut := e } := by
  split <;> rfl

/-- The flag after a SPILLBACK at now: its expiry 600 ds on when it is on, none when it is off (R91). -/
def spillAfter (on : Bool) (now : Ct) : Option Ct := if on then some (plus now 600) else none

theorem spillAfter_of_byte (v : Byte) (now : Ct) :
    spillAfter (decide (v = 1)) now = if v = 1 then some (now + 600) else none := by
  simp [spillAfter, plus]

/-- The presence byte of the expiry reads as the flag itself does (R91, log 11). -/
theorem spillbackPayload_eq (e : Option Ct) :
    spillbackPayload e =
      [BitVec.ofNat 8 e.isSome.toNat, BitVec.ofNat 8 e.isSome.toNat] ++ ctOf (e.getD 0) := by
  cases e <;> simp [spillbackPayload, payloadOf, item, optCt, optItem, flagOf, byteOf, presenceBytes, packBits, ctOf]

/-- So a SPILLBACK answers its on / off byte twice. -/
theorem spillbackPayload_of_byte {v : Byte} (h : v.toNat ≤ 1) (now : Ct) :
    spillbackPayload (spillAfter (decide (v = 1)) now) =
      [v, v] ++ ctOf ((spillAfter (decide (v = 1)) now).getD 0) := by
  rw [spillbackPayload_eq]
  obtain rfl | rfl := byte_cases_of_le_one h <;> rfl

/-! ## SPILLBACK at its owner (R91) -/

section
variable {f : SpillbackFields} {d : Direction} {on : Bool} {q : Junction} {s : State}

theorem ownSpillback_of_out_of_range (h : 1 < f.dir ∨ 1 < f.on) : ownSpillback f s = refuse .outOfRange s := by
  obtain hdir | hon := h
  · simp [ownSpillback, direction?_of_gt hdir]
  · simp [ownSpillback, flag?_of_gt hon]

theorem ownSpillback_of_unconfigured (hd : direction? f.dir = some d) (hon : flag? f.on = some on)
    (hn : s.n ≤ f.j) : ownSpillback f s = refuse .notConfigured s := by
  simp [ownSpillback, hd, hon, hn]

theorem ownSpillback_of_get (hd : direction? f.dir = some d) (hon : flag? f.on = some on)
    (hq : s.junctions[f.j]? = some q) :
    ownSpillback f s = done .none (spillbackPayload (spillAfter on s.now))
      (s.setJunctions (s.junctions.set f.j (q.setSpill d (spillAfter on s.now)))) := by
  have hn : ¬ s.n ≤ f.j := Nat.not_le.mpr (List.getElem?_eq_some_iff.mp hq).1
  simp only [ownSpillback, hd, hon, if_neg hn, updateJunction_of_get hq]
  rfl

end

theorem exec_spillback (ps : List Byte) (k : Nat) (s : State) :
    exec (.spillback ps k) s = run (send 0x29 ps k (some (reqSpillback ps))) s := rfl

/-- SPILLBACK of three bytes is no edit, so its owner always acts. -/
theorem serve_spillback (b d v : Byte) (s : State) :
    serve (some (reqSpillback [b, d, v])) s = ownSpillback ⟨b.toNat, d.toNat, v.toNat⟩ s := rfl

theorem spillback_refuses {b d v : Byte} {s : State} {reason : Reason} (hs : Idle s)
    (h : ownSpillback ⟨b.toNat, d.toNat, v.toNat⟩ (accepted 5 s) = refuse reason (accepted 5 s)) :
    Refuses (.spillback [b, d, v]) s 0x29 reason [] :=
  refuses_of_serve hs (exec_spillback [b, d, v] 0 s) ((serve_spillback b d v _).trans h)

/-- A flag does not bear on the state of its junction, so SPILLBACK brings no alert source in. -/
theorem spillback_sets_flag {b d v : Byte} {q : Junction} {s : State} (hs : Idle s) (hd : d.toNat ≤ 1)
    (hv : v.toNat ≤ 1) (hq : s.junctions[b.toNat]? = some q) :
    ∃ t, exec (.spillback [b, d, v]) s = .next t ∧
      Answers t 0x29 .done .none (spillbackPayload (spillAfter (decide (v = 1)) s.time.ct)) ∧
      Frame [.junctions, .port] s t ∧
      t.junctions = s.junctions.set b.toNat
        (q.setSpill (if d = 0 then .inbound else .outbound) (spillAfter (decide (v = 1)) s.time.ct)) := by
  have hown := ownSpillback_of_get (f := ⟨b.toNat, d.toNat, v.toNat⟩) (s := accepted 5 s)
    (direction?_of_le hd) (flag?_of_le hv) hq
  exact answers_of_replaced hs (exec_spillback [b, d, v] 0 s) ((serve_spillback b d v _).trans hown) hq
    (by simp) (by simp)

/-! ## The expiry of a spillback flag (R92) -/

theorem exec_spillbackExpiry (j : Fin 24) (d : Direction) (s : State) :
    exec (.spillbackExpiry j d) s = run (takeEvent (.spillExpiry j d)) s := rfl

section
variable {j : Fin 24} {d : Direction} {q : Junction} {s : State}

theorem spillExpiry_due_of_spill (hq : s.junctions[j.val]? = some q) (he : q.spill d = some s.time.ct) :
    (Event.spillExpiry j d).due s = true := by
  have htime : (s.junctions[j.val]?).bind (fun x => x.spill d) = some s.time.ct := by
    rw [hq, Option.bind_some, he]
  rw [Event.due, htime]
  exact atOrBefore_self _

theorem spillExpiry_effect_of_get (hq : s.junctions[j.val]? = some q) :
    (Event.spillExpiry j d).effect s = s.setJunctions (s.junctions.set j.val (q.setSpill d none)) :=
  updateJunction_of_get hq _

/-- At its expiry the flag of a direction is cleared, and nothing but its junction changes. -/
theorem spillbackExpiry_clears_flag (hs : Running s) (hq : s.junctions[j.val]? = some q)
    (he : q.spill d = some s.time.ct) :
    ∃ t, exec (.spillbackExpiry j d) s = .next t ∧ Frame [.junctions] s t ∧
      t.junctions = s.junctions.set j.val (q.setSpill d none) := by
  have hframe := frame_setJunctions s (s.junctions.set j.val (q.setSpill d none))
  have hjoined := joined_of_replaced hq rfl (hframe.mono (by simp)) rfl (by simp) (by simp)
  refine ⟨_, ?_, hframe, rfl⟩
  rw [exec_spillbackExpiry, run_of_running hs, takeEvent_of_due (spillExpiry_due_of_spill hq he),
    spillExpiry_effect_of_get hq, settle_of_subset hjoined]

end

end Sys2Proof.Machine

namespace Sys2Proof.Proofs

open Sys2Proof.Machine Sys2Proof.Safety

/-- Settles O48: the request by the order of its checks, the expiry by the one lemma for both directions. -/
theorem spillbackSetsAndExpires : Obligations.SpillbackSetsAndExpires := by
  refine ⟨?_, ?_⟩
  · intro b d v s hs
    refine ⟨fun hrange => ?_, fun hd hv hn => ?_, fun hd hv q hq => ?_⟩
    · exact spillback_refuses hs (ownSpillback_of_out_of_range hrange)
    · exact spillback_refuses hs (ownSpillback_of_unconfigured (direction?_of_le hd) (flag?_of_le hv) hn)
    · have hsets := spillback_sets_flag hs hd hv hq
      rwa [spillbackPayload_of_byte hv, setSpill_of_byte, spillAfter_of_byte] at hsets
  · intro j q s hs hq
    exact ⟨spillbackExpiry_clears_flag (d := .inbound) hs hq, spillbackExpiry_clears_flag (d := .outbound) hs hq⟩

end Sys2Proof.Proofs
end

section
/-! SUPPORT. A request or event that touches nothing the alert sources are formed from; identifiers as bytes and the
records they name (R103); the loss of a platoon, its two look-ups (R120, R122), and the statement about them. -/

namespace Sys2Proof.Safety

open Sys2Proof.Machine

theorem frame_setPlatoons (s : State) (v : Vector (Slot Platoon) Config.platoonSlots) :
    Frame [.platoons] s (s.setPlatoons v) := by
  intro b hb
  cases b with
  | platoons => simp at hb
  | _ => simp [Block.same]

end Sys2Proof.Safety

namespace Sys2Proof.Machine

open Sys2Proof.Safety

/-! ## Nothing that an alert source is formed from (R167, R169) -/

/-- The blocks that the pending set and the active set are formed from stand. -/
def Quiet (l : List Block) : Prop := ∀ b ∈ [Block.port, .time, .junctions, .latched, .alertConfig], b ∉ l

theorem joined_of_quiet {l : List Block} {s t : State} (hframe : Frame l s t) (hquiet : Quiet l) :
    joined s t = 0 := by
  simp only [Quiet, List.forall_mem_cons] at hquiet
  obtain ⟨hport, htime, hjunctions, hlatched, hconf, -⟩ := hquiet
  have hstate : t.port.state = s.port.state := (hframe .port hport).1
  exact joined_of_pendingSet
    (pendingSet_congr (hframe .time htime) (hframe .junctions hjunctions) (hframe .latched hlatched)
      (by simp [State.resultReady, hstate]))
    (hframe .alertConfig hconf)

/-- A due event whose effect is quiet ends as its effect left the part. -/
theorem takeEvent_of_quiet {e : Event} {l : List Block} {s : State} (hdue : e.due s = true)
    (hframe : Frame l s (e.effect s)) (hquiet : Quiet l) : takeEvent e s = e.effect s := by
  rw [takeEvent_of_due hdue, settle_of_subset (joined_of_quiet hframe hquiet)]

/-- A request that its owner carries out quietly leaves every block but the port and the pulse end as the owner did. -/
theorem answers_of_quiet {c : Instr} {code : Byte} {ps : List Byte} {req : Option Request} {s u : State}
    {reason : Reason} {payload : List Byte} {l : List Block} (hs : Idle s)
    (hexec : exec c s = run (send code ps 0 req) s)
    (h : serve req (accepted (2 + ps.length + 0) s) = done reason payload u)
    (hu : Frame l (accepted (2 + ps.length + 0) s) u) (hquiet : Quiet l) :
    ∃ t, exec c s = .next t ∧ Answers t code .done reason payload ∧ Frame (.port :: l) s t ∧
      Frame [.port, .pulseEnd] u t :=
  ⟨_, hexec.trans (run_send_of_serve hs h), answersList_executing hs.2 hu (hquiet .port (by simp)) _ _,
    frame_executed_of_quiet hs.2 hu hquiet _ _,
    ((frame_executing code _ u).mono (by simp)).trans ((frame_settle s _).mono (by simp))⟩

/-! ## Identifiers (R103, R127) -/

theorem byte_toNat_of_fin {n : Nat} (hn : n ≤ 256) (k : Fin n) : (BitVec.ofNat 8 k.val).toNat = k.val := by
  rw [BitVec.toNat_ofNat]
  omega

theorem stalePayload_none : stalePayload none = List.replicate 7 0 := rfl

theorem stalePayload_some (x : RetirementNote) :
    stalePayload (some x) = [1, BitVec.ofNat 8 x.gen.val] ++ retireCauseOf x.cause ++ ctOf x.time := rfl

section
variable {α : Type} {n : Nat} {v : Vector (Slot α) n} {k : Fin n} {gen : Fin 16}

theorem resolve_of_out_of_range {id : Identifier} (h : n ≤ id.slot ∨ 15 < id.gen) :
    resolve v id = .outOfRange := by
  obtain ⟨-, hresolve⟩ | ⟨k, hslot, hgen, -⟩ := resolve_cases v id
  · exact hresolve
  · omega

theorem resolve_of_live {r : α} (h : v[k].live = some r) : resolve v ⟨k.val, v[k].gen.val⟩ = .record k r := by
  have hnamed : named v k v[k].gen.val = some r := named_eq_some.mpr ⟨rfl, h⟩
  have hgen : ¬ 15 < v[k].gen.val := by omega
  simp only [resolve, index?_eq_some.mpr rfl, if_neg hgen, hnamed]

theorem named_eq_none_of_stale (h : v[k].live = none ∨ v[k].gen ≠ gen) : named v k gen.val = none := by
  obtain hlive | hgen := h
  · rw [named, hlive, ite_self]
  · exact if_neg (Fin.val_ne_of_ne hgen)

theorem resolve_of_stale (h : v[k].live = none ∨ v[k].gen ≠ gen) :
    resolve v ⟨k.val, gen.val⟩ = .stale (staleNote v k gen.val) := by
  have hgen : ¬ 15 < gen.val := by omega
  simp only [resolve, index?_eq_some.mpr rfl, if_neg hgen, named_eq_none_of_stale h]

/-- The payload of a STALE_ID refusal carries the note of the empty slot when its generation is the one asked for. -/
theorem stalePayload_staleNote (v : Vector (Slot α) n) (k : Fin n) (gen : Fin 16) :
    stalePayload (staleNote v k gen.val) = stalePayloadOf v[k] gen := by
  rw [staleNote]
  generalize v[k] = slot
  obtain ⟨-, _ | r, note⟩ := slot
  case some => exact stalePayload_none
  case none =>
    cases note with
    | none => exact stalePayload_none
    | some x =>
      by_cases hgen : x.gen = gen
      · simp [stalePayloadOf, Option.filter, hgen, stalePayload_some]
      · simp [stalePayloadOf, Option.filter, hgen, Fin.val_ne_of_ne hgen, stalePayload_none]

theorem retireAt_get_of_live {r : α} (h : v[k].live = some r) (c : RetireCause) (now : Ct) (i : Fin n) :
    (retireAt v k c now)[i] = if i = k then ⟨v[k].gen, none, some ⟨v[k].gen, c, now⟩⟩ else v[i] := by
  rw [retireAt_get, Slot.retire_of_live h]

end

/-! ## READ PLATOON and CANCEL PLATOON at their owner (R122) -/

theorem directionOf_eq (d : Direction) : directionOf d = [dirByte d] := by cases d <;> rfl

theorem platoonBytes_eq (k : Fin 32) (gen : Fin 16) (r : Platoon) :
    platoonBytes k.val gen.val r = platoonRecord k gen r := by
  simp [platoonBytes, platoonRecord, identifierOf, byteOf, directionOf_eq, packBits, Platoon.tail, plus]

section
variable {id : Identifier} {s : State}

theorem ownReadPlatoon_of_out_of_range (h : 32 ≤ id.slot ∨ 15 < id.gen) :
    ownReadPlatoon id s = refuse .outOfRange s := by
  simp only [ownReadPlatoon, resolve_of_out_of_range h]

theorem ownCancelPlatoon_of_out_of_range (h : 32 ≤ id.slot ∨ 15 < id.gen) :
    ownCancelPlatoon id s = refuse .outOfRange s := by
  simp only [ownCancelPlatoon, resolve_of_out_of_range h]

end

section
variable {k : Fin 32} {gen : Fin 16} {r : Platoon} {s : State}

theorem ownReadPlatoon_of_stale (h : s.platoons[k].live = none ∨ s.platoons[k].gen ≠ gen) :
    ownReadPlatoon ⟨k.val, gen.val⟩ s = (refusedReply .staleId (stalePayloadOf s.platoons[k] gen), s) := by
  simp only [ownReadPlatoon, resolve_of_stale h, refuseStale, stalePayload_staleNote]

theorem ownCancelPlatoon_of_stale (h : s.platoons[k].live = none ∨ s.platoons[k].gen ≠ gen) :
    ownCancelPlatoon ⟨k.val, gen.val⟩ s = (refusedReply .staleId (stalePayloadOf s.platoons[k] gen), s) := by
  simp only [ownCancelPlatoon, resolve_of_stale h, refuseStale, stalePayload_staleNote]

theorem ownCancelPlatoon_of_live (h : s.platoons[k].live = some r) :
    ownCancelPlatoon ⟨k.val, s.platoons[k].gen.val⟩ s =
      done .none (platoonRecord k s.platoons[k].gen r) (s.setPlatoons (retireAt s.platoons k .cancelled s.now)) := by
  simp only [ownCancelPlatoon, resolve_of_live h, platoonBytes_eq]

end

/-! ## READ PLATOON and CANCEL PLATOON at the port -/

theorem exec_readPlatoon (ps : List Byte) (k : Nat) (s : State) :
    exec (.readPlatoon ps k) s = run (send 0x32 ps k (some (reqReadPlatoon ps))) s := rfl

theorem exec_cancelPlatoon (ps : List Byte) (k : Nat) (s : State) :
    exec (.cancelPlatoon ps k) s = run (send 0x33 ps k (some (reqCancelPlatoon ps))) s := rfl

/-- Neither request is an edit, so on two bytes its owner always acts. -/
theorem serve_readPlatoon (b g : Byte) (s : State) :
    serve (some (reqReadPlatoon [b, g])) s = ownReadPlatoon ⟨b.toNat, g.toNat⟩ s := rfl

theorem serve_cancelPlatoon (b g : Byte) (s : State) :
    serve (some (reqCancelPlatoon [b, g])) s = ownCancelPlatoon ⟨b.toNat, g.toNat⟩ s := rfl

theorem serve_readPlatoon_of_fin (k : Fin 32) (gen : Fin 16) (s : State) :
    serve (some (reqReadPlatoon [BitVec.ofNat 8 k.val, BitVec.ofNat 8 gen.val])) s =
      ownReadPlatoon ⟨k.val, gen.val⟩ s := by
  rw [serve_readPlatoon, byte_toNat_of_fin (by decide), byte_toNat_of_fin (by decide)]

theorem serve_cancelPlatoon_of_fin (k : Fin 32) (gen : Fin 16) (s : State) :
    serve (some (reqCancelPlatoon [BitVec.ofNat 8 k.val, BitVec.ofNat 8 gen.val])) s =
      ownCancelPlatoon ⟨k.val, gen.val⟩ s := by
  rw [serve_cancelPlatoon, byte_toNat_of_fin (by decide), byte_toNat_of_fin (by decide)]

section
variable {k : Fin 32} {r : Platoon} {s : State}

/-- CANCEL PLATOON of a live record answers the record and retires it CANCELLED. -/
theorem cancelPlatoon_retires (hs : Idle s) (h : s.platoons[k].live = some r) :
    ∃ t, exec (.cancelPlatoon [BitVec.ofNat 8 k.val, BitVec.ofNat 8 s.platoons[k].gen.val]) s = .next t ∧
      Answers t 0x33 .done .none (platoonRecord k s.platoons[k].gen r) ∧ Frame [.platoons, .port] s t ∧
      t.platoons = retireAt s.platoons k .cancelled s.time.ct := by
  have hserve := (serve_cancelPlatoon_of_fin k s.platoons[k].gen (accepted 4 s)).trans
    (ownCancelPlatoon_of_live (s := accepted 4 s) h)
  obtain ⟨t, hnext, hanswers, hframe, howner⟩ :=
    answers_of_quiet hs (exec_cancelPlatoon _ 0 s) hserve (frame_setPlatoons _ _) (by simp [Quiet])
  exact ⟨t, hnext, hanswers, hframe.mono (by simp), howner .platoons (by simp)⟩

/-! ## The loss of a platoon (R120) -/

theorem exec_platoonLost (k : Fin 32) (s : State) :
    exec (.platoonLost k) s = run (takeEvent (.platoonLost k)) s := rfl

theorem platoonLost_due_of_lost (h : s.platoons[k].live = some r) (hlost : r.lost = s.time.ct) :
    (Event.platoonLost k).due s = true := by
  have htime : s.platoons[k].live.map Platoon.lost = some s.time.ct := by rw [h, Option.map_some, hlost]
  rw [Event.due, htime]
  exact atOrBefore_self _

/-- At its lost deadline a record is retired LOST, and nothing but the platoon table changes. -/
theorem platoonLost_retires (hs : Running s) (h : s.platoons[k].live = some r) (hlost : r.lost = s.time.ct) :
    exec (.platoonLost k) s = .next (s.setPlatoons (retireAt s.platoons k .lost s.time.ct)) := by
  rw [exec_platoonLost, run_of_running hs, takeEvent_of_quiet (platoonLost_due_of_lost h hlost)
    (frame_setPlatoons s (retireAt s.platoons k .lost s.time.ct)) (by simp [Quiet])]
  rfl

end

end Sys2Proof.Machine

namespace Sys2Proof.Proofs

open Sys2Proof.Machine Sys2Proof.Safety

/-- Settles O53: the two ways out of a live record as one retirement each, then the two refusals of an identifier by
what it resolves to. -/
theorem lostAndCancelledPlatoonsLeave : Obligations.LostAndCancelledPlatoonsLeave := by
  refine ⟨fun k r s hs hlive => ⟨fun hlost => ?_, fun hidle => ?_⟩, fun k gen s hs hstale => ⟨?_, ?_⟩,
    fun b g s hs hrange => ⟨?_, ?_⟩⟩
  · exact ⟨_, platoonLost_retires hs hlive hlost, frame_setPlatoons s _, retireAt_get_of_live hlive .lost s.time.ct⟩
  · obtain ⟨t, hnext, hanswers, hframe, hplatoons⟩ := cancelPlatoon_retires hidle hlive
    exact ⟨t, hnext, hanswers, hframe, hplatoons ▸ retireAt_get_of_live hlive .cancelled s.time.ct⟩
  · exact refuses_of_serve hs (exec_readPlatoon _ 0 s)
      ((serve_readPlatoon_of_fin k gen _).trans (ownReadPlatoon_of_stale (s := accepted 4 s) hstale))
  · exact refuses_of_serve hs (exec_cancelPlatoon _ 0 s)
      ((serve_cancelPlatoon_of_fin k gen _).trans (ownCancelPlatoon_of_stale (s := accepted 4 s) hstale))
  · exact refuses_of_serve hs (exec_readPlatoon _ 0 s)
      ((serve_readPlatoon b g _).trans (ownReadPlatoon_of_out_of_range hrange))
  · exact refuses_of_serve hs (exec_cancelPlatoon _ 0 s)
      ((serve_cancelPlatoon b g _).trans (ownCancelPlatoon_of_out_of_range hrange))

end Sys2Proof.Proofs
end

section
/-! SUPPORT. A selector event (R53): what it keeps, and its outcome by the requested plan it re-forms; the catch-up
and the entry it sets (R55). -/

namespace Sys2Proof.Machine

open Sys2Proof.Safety

/-! ## What a selector event keeps (R53) -/

theorem frame_activate (n : Nat) (s : State) : Frame [.selector, .junctions, .latched] s (activate n s).2 := by
  have hselector (v : Selector) : Frame [.selector, .junctions, .latched] s (s.setSelector v) :=
    (frame_setSelector s v).mono (by simp)
  obtain ⟨-, -, h⟩ | ⟨-, -, h⟩ | ⟨-, -, h⟩ | ⟨-, -, -, h⟩ | ⟨-, -, -, f, h, -⟩ |
    ⟨-, -, -, p, -, -, ⟨-, h⟩ | ⟨-, h⟩⟩ := activate_cases n s
  · exact h ▸ hselector _
  · exact h ▸ .refl _ s
  · exact h ▸ hselector _
  · exact h ▸ .refl _ s
  · exact h ▸ .refl _ s
  · exact h ▸ frame_takeEffect n p s
  · exact h ▸ hselector _

/-- Of the selector an activation writes the active and the pending plan alone. -/
theorem activate_selector (n : Nat) (s : State) :
    ∃ a q, (activate n s).2.selector = { s.selector with active := a, pendingPlan := q } := by
  obtain ⟨-, -, h⟩ | ⟨-, -, h⟩ | ⟨-, -, h⟩ | ⟨-, -, -, h⟩ | ⟨-, -, -, f, h, -⟩ |
    ⟨-, -, -, p, -, -, ⟨-, h⟩ | ⟨-, h⟩⟩ := activate_cases n s <;> exact h ▸ ⟨_, _, rfl⟩

theorem activateUnanswered_of_refused {n : Nat} {s : State} (h : (activate n s).1.refused = true) :
    activateUnanswered n s = (activate n s).2.latch .planRejected := if_pos h

theorem activateUnanswered_of_accepted {n : Nat} {s : State} (h : (activate n s).1.refused = false) :
    activateUnanswered n s = (activate n s).2 := if_neg (by simp [h])

theorem frame_activateUnanswered (n : Nat) (s : State) :
    Frame [.selector, .junctions, .latched] s (activateUnanswered n s) := by
  cases h : (activate n s).1.refused with
  | true =>
    rw [activateUnanswered_of_refused h]
    exact (frame_activate n s).trans ((frame_latch _ _).mono (by simp))
  | false =>
    rw [activateUnanswered_of_accepted h]
    exact frame_activate n s

theorem activateUnanswered_selector (n : Nat) (s : State) :
    (activateUnanswered n s).selector = (activate n s).2.selector := by
  cases h : (activate n s).1.refused with
  | true => rw [activateUnanswered_of_refused h, latch_eq, State.setAlerts_selector]
  | false => rw [activateUnanswered_of_accepted h]

section
variable {reconcile : Bool} {s : State}

theorem select_of_issued (h : s.arbitrate ≠ s.selector.requested ∨ (reconcile = true ∧ s.arbitrate ≠ s.target)) :
    select reconcile s = activateUnanswered s.arbitrate (reform s) := by
  obtain ⟨-, hselect⟩ | ⟨hsame, htarget, -⟩ := select_cases reconcile s
  · exact hselect
  · exact h.elim (absurd hsame) fun hreconcile => absurd (htarget hreconcile.1) hreconcile.2

theorem select_of_not_issued
    (h : ¬ (s.arbitrate ≠ s.selector.requested ∨ (reconcile = true ∧ s.arbitrate ≠ s.target))) :
    select reconcile s = reform s := by
  obtain ⟨hissued, -⟩ | ⟨-, -, hselect⟩ := select_cases reconcile s
  · exact absurd hissued h
  · exact hselect

end

theorem frame_select (reconcile : Bool) (s : State) :
    Frame [.selector, .junctions, .latched] s (select reconcile s) := by
  have hreform : Frame [.selector, .junctions, .latched] s (reform s) := (frame_setSelector s _).mono (by simp)
  obtain ⟨-, h⟩ | ⟨-, -, h⟩ := select_cases reconcile s
  · exact h ▸ hreform.trans (frame_activateUnanswered _ _)
  · exact h ▸ hreform

/-- Of the selector a selector event writes the requested plan, and an activation what it may. -/
theorem select_selector (reconcile : Bool) (s : State) : ∃ a q, (select reconcile s).selector =
    { s.selector with requested := s.arbitrate, active := a, pendingPlan := q } := by
  obtain ⟨-, h⟩ | ⟨-, -, h⟩ := select_cases reconcile s
  · rw [h, activateUnanswered_selector]
    exact activate_selector s.arbitrate (reform s)
  · exact h ▸ ⟨_, _, rfl⟩

theorem select_requested (reconcile : Bool) (s : State) :
    (select reconcile s).selector.requested = s.arbitrate := by
  obtain ⟨a, q, h⟩ := select_selector reconcile s
  rw [h]

theorem select_scheduled (reconcile : Bool) (s : State) :
    (select reconcile s).selector.scheduled = s.selector.scheduled := by
  obtain ⟨a, q, h⟩ := select_selector reconcile s
  rw [h]

theorem select_lastEntry (reconcile : Bool) (s : State) :
    (select reconcile s).selector.lastEntry = s.selector.lastEntry := by
  obtain ⟨a, q, h⟩ := select_selector reconcile s
  rw [h]

/-! ## The outcome of a selector event (R34 to R38, R53) -/

/-- An activation finds in `u` what it would find in `s`: the inputs and the selector may differ, but not in the
active plan, the pending plan or the combined CORRIDOR_FREE. -/
structure AlikeForPlans (s u : State) : Prop where
  frame : Frame [.inputs, .selector] s u
  active : u.selector.active = s.selector.active
  pending : u.selector.pendingPlan = s.selector.pendingPlan
  corridorFree : u.corridorFree = s.corridorFree

namespace AlikeForPlans

variable {s u : State} (h : AlikeForPlans s u)
include h

theorem setSelector {v : Selector} (hactive : v.active = u.selector.active)
    (hpending : v.pendingPlan = u.selector.pendingPlan) : AlikeForPlans s (u.setSelector v) where
  frame := h.frame.trans ((frame_setSelector u v).mono (by simp))
  active := hactive.trans h.active
  pending := hpending.trans h.pending
  corridorFree := h.corridorFree

theorem junctions : u.junctions = s.junctions := h.frame .junctions (by simp)
theorem time : u.time = s.time := h.frame .time (by simp)
theorem settings : u.settings = s.settings := h.frame .settings (by simp)
theorem groups : u.groups = s.groups := h.frame .groups (by simp)

theorem activeNumber : u.activeNumber = s.activeNumber := by
  simp only [State.activeNumber, h.active]

theorem target : u.target = s.target := by
  simp only [State.target, h.pending, h.activeNumber]

theorem planRecord (n : Nat) : u.planRecord n = s.planRecord n := by
  have hplans : u.plans = s.plans := h.frame .plans (by simp)
  simp only [State.planRecord, hplans]

theorem validPlan (n : Nat) : ValidPlan n u ↔ ValidPlan n s := by
  simp only [ValidPlan, h.planRecord, h.junctions]

theorem formActive (n : Nat) (p : Plan) : formActive n p u = formActive n p s := by
  simp only [Machine.formActive, State.n, h.junctions, h.time, h.settings]

theorem takeEffect_junctions (n : Nat) (p : Plan) :
    (takeEffect n p u).junctions = (takeEffect n p s).junctions := by
  simp [takeEffect, latch_eq, State.now, State.attributes, h.junctions, h.time, h.groups, h.corridorFree]

theorem latch_latched (a : AlertSource) : (u.latch a).alerts.latched = s.alerts.latched ||| a.only := by
  have hlatched : u.alerts.latched = s.alerts.latched := h.frame .latched (by simp)
  simp [latch_eq, hlatched]

/-- An event that leaves the part in `u`, with another pending plan, starts no pulse. -/
theorem onlyPends_setSelector {v : Selector} (hactive : v.active = u.selector.active) :
    OnlyPends v.pendingPlan s (settle s (u.setSelector v)) := by
  have hframe : Frame [.inputs, .selector] s (u.setSelector v) :=
    h.frame.trans ((frame_setSelector u v).mono (by simp))
  rw [settle_of_subset (joined_of_quiet hframe (by simp [Quiet]))]
  obtain ⟨henable, hglobal, hmode, hwMask, hfMask⟩ := hframe .alertConfig (by simp)
  have halerts : u.alerts = s.alerts := by
    have hlatched := hframe .latched (by simp)
    have hpulse := hframe .pulseEnd (by simp)
    cases hs : s.alerts
    cases hu : u.alerts
    simp_all [Block.same]
  exact ⟨hactive.trans h.active, rfl, h.junctions, halerts⟩

end AlikeForPlans

/-- An activation of a coordinated plan without a valid clock or a valid record is refused (R35, R36). -/
theorem activate_of_not_valid {n : Nat} {s : State} (h : n ≠ s.activeNumber) (h0 : n ≠ 0)
    (hbad : s.time.clock.valid = false ∨ ¬ ValidPlan n s) :
    ∃ o : ActivationOutcome, o.refused = true ∧ activate n s = (o, s) := by
  cases hclock : s.time.clock.valid with
  | false => exact ⟨_, rfl, activate_of_noClock h h0 hclock⟩
  | true =>
    have hinvalid := hbad.resolve_left (by simp [hclock])
    cases hrecord : s.planRecord n with
    | none => exact ⟨_, rfl, activate_of_empty h h0 hclock hrecord⟩
    | some p =>
      cases hcheck : failedCheck p s.junctions with
      | none => exact absurd ⟨p, hrecord, hcheck⟩ hinvalid
      | some f => exact ⟨_, rfl, activate_of_failed h h0 hclock hrecord hcheck⟩

section
variable {n : Nat} {s u : State} {o : ActivationOutcome}

theorem activateUnanswered_eq_of_accepted (h : activate n s = (o, u)) (ho : o.refused = false) :
    activateUnanswered n s = u := by
  rw [activateUnanswered_of_accepted (by rw [h]; exact ho), h]

theorem activateUnanswered_eq_of_refused (h : activate n s = (o, u)) (ho : o.refused = true) :
    activateUnanswered n s = u.latch .planRejected := by
  rw [activateUnanswered_of_refused (by rw [h]; exact ho), h]

end

/-- A selector event in `u`, where an activation finds what it would find in `s`, acts as R53 says of `s`. -/
theorem AlikeForPlans.selectorActs {s u : State} (h : AlikeForPlans s u) (reconcile : Bool) :
    SelectorActs (u.arbitrate ≠ u.selector.requested ∨ (reconcile = true ∧ u.arbitrate ≠ u.target)) s
      (settle s (select reconcile u)) := by
  have hrequested : (settle s (select reconcile u)).selector.requested = u.arbitrate := by
    rw [settle_selector, select_requested]
  have hreform : AlikeForPlans s (reform u) := h.setSelector rfl rfl
  constructor
  case quiet =>
    intro hquiet
    rw [select_of_not_issued hquiet, ← h.pending]
    exact h.onlyPends_setSelector rfl
  all_goals rw [hrequested]
  case same =>
    intro hissued hnumber
    rw [select_of_issued hissued, activateUnanswered_eq_of_accepted
      (activate_of_active (hnumber.trans hreform.activeNumber.symm)) (by split <;> rfl)]
    exact hreform.onlyPends_setSelector rfl
  case plan0 =>
    intro hissued hnumber hzero
    rw [select_of_issued hissued, activateUnanswered_eq_of_accepted
      (activate_of_plan0 (hreform.activeNumber ▸ hnumber) hzero) rfl, hzero]
    exact hreform.onlyPends_setSelector (v := { (reform u).selector with pendingPlan := some 0 }) rfl
  case rejected =>
    intro hissued hnumber hzero hbad
    rw [← hreform.validPlan, ← hreform.time] at hbad
    obtain ⟨o, ho, hactivate⟩ := activate_of_not_valid (hreform.activeNumber ▸ hnumber) hzero hbad
    rw [select_of_issued hissued, activateUnanswered_eq_of_refused hactivate ho]
    refine ⟨?_, ?_, ?_, ?_⟩
    · rw [settle_selector]; exact hreform.active
    · rw [settle_selector]; exact hreform.pending
    · rw [settle_junctions]; exact hreform.junctions
    · rw [settle_latched]; exact hreform.latch_latched _
  case pends =>
    intro hissued hnumber hzero hclock hactive hvalid
    rw [select_of_issued hissued, activateUnanswered_eq_of_accepted
      (activate_of_valid_under_other (hreform.activeNumber ▸ hnumber) hzero (hreform.active ▸ hactive)
        (hreform.time ▸ hclock) ((hreform.validPlan _).mpr hvalid)) rfl]
    exact hreform.onlyPends_setSelector (v := { (reform u).selector with pendingPlan := some u.arbitrate }) rfl
  case takes =>
    intro p hissued hzero hclock hactive hrecord hcheck
    rw [select_of_issued hissued, activateUnanswered_eq_of_accepted
      (activate_of_valid_from_plan0 (hreform.active.trans hactive) hzero (hreform.time ▸ hclock)
        ((hreform.planRecord _).trans hrecord) (hreform.junctions ▸ hcheck)) rfl]
    obtain ⟨hsize, hcycle⟩ := size_and_cycle_of_valid hcheck
    refine ⟨Machine.formActive u.arbitrate p s, ?_, ?_, planInEffect_of_takeEffect (by omega) hsize ?_ ?_⟩
    · rw [settle_selector, ← hreform.formActive]; rfl
    · rw [settle_selector]; rfl
    · rw [settle_junctions, hreform.takeEffect_junctions]
    · rw [settle_latched]
      exact hreform.latch_latched _

end Sys2Proof.Machine
end

section
/-! SUPPORT. The catch-up (R55): the first of the least in a list, how far back in the week an entry lies, and the
entry that the catch-up sets. -/

namespace Sys2Proof.Machine

open Sys2Proof.Safety

/-! ## The best of a list under a key -/

section
variable {α : Type} {key : α → Nat} {x : α}

theorem foldl_least_of_le {l : List α} (h : ∀ y ∈ l, key x ≤ key y) :
    l.foldl (fun b y => if key y < key b then y else b) x = x := by
  induction l with
  | nil => rfl
  | cons y ys ih =>
    obtain ⟨hy, hys⟩ := List.forall_mem_cons.mp h
    rw [List.foldl_cons, if_neg (Nat.not_lt.mpr hy)]
    exact ih hys

theorem foldl_least_of_first {pre post : List α} {b : α} (hb : key x < key b) (hpre : ∀ y ∈ pre, key x < key y)
    (hpost : ∀ y ∈ post, key x ≤ key y) :
    (pre ++ x :: post).foldl (fun b y => if key y < key b then y else b) b = x := by
  induction pre generalizing b with
  | nil =>
    rw [List.nil_append, List.foldl_cons, if_pos hb]
    exact foldl_least_of_le hpost
  | cons y ys ih =>
    obtain ⟨hy, hys⟩ := List.forall_mem_cons.mp hpre
    rw [List.cons_append, List.foldl_cons]
    exact ih (by split <;> assumption) hys

/-- The best of a list under a key is its first element of the least key. -/
theorem best_of_first {pre post : List α} (hpre : ∀ y ∈ pre, key x < key y) (hpost : ∀ y ∈ post, key x ≤ key y) :
    best (fun a b => key a < key b) (pre ++ x :: post) = some x := by
  cases pre with
  | nil => simpa [best] using foldl_least_of_le hpost
  | cons y ys =>
    obtain ⟨hy, hys⟩ := List.forall_mem_cons.mp hpre
    simpa [best] using foldl_least_of_first hy hys hpost

end

theorem best_lt_of_least {l : List Nat} {x : Nat} (hx : x ∈ l) (h : ∀ y ∈ l, x ≤ y) :
    best (fun a b => a < b) l = some x := by
  obtain ⟨pre, post, rfl, hfirst⟩ := List.eq_append_cons_of_mem hx
  refine best_of_first (key := id) (fun y hy => ?_) fun y hy => h y (by simp [hy])
  exact lt_of_le_of_ne (h y (by simp [hy])) fun heq : x = y => hfirst (heq ▸ hy)

theorem best_mem {α : Type} {beats : α → α → Bool} {l : List α} {x : α} (h : best beats l = some x) : x ∈ l := by
  have hfold (l : List α) (b : α) : l.foldl (fun b y => if beats y b then y else b) b ∈ b :: l := by
    induction l generalizing b with
    | nil => simp
    | cons y ys ih =>
      have hmem := ih (if beats y b then y else b)
      rw [List.foldl_cons]
      split at hmem <;> grind
  cases l with
  | nil => simp [best] at h
  | cons y ys => exact Option.some.inj h ▸ hfold ys y

/-! ## The distance of an entry (R55) -/

section
variable {e : ScheduleEntry} {now : Nat}

/-- The distances of an entry on the days of its mask. -/
theorem mem_distances {d : Nat} :
    d ∈ (([1, 2, 3, 4, 5, 6, 7] : List Nat).filter fun d => e.onDay d).map (fun d => e.distanceOn now d) ↔
      ∃ day : Fin 7, e.days.getLsbD day.val = true ∧ e.distanceOn now (day.val + 1) = d := by
  simp only [List.mem_map, List.mem_filter, ScheduleEntry.onDay]
  constructor
  · rintro ⟨n, ⟨hn, hday⟩, hd⟩
    obtain ⟨hn1, hn7⟩ : 1 ≤ n ∧ n ≤ 7 := by simp at hn; omega
    exact ⟨⟨n - 1, by omega⟩, hday, by rwa [Nat.sub_add_cancel hn1]⟩
  · rintro ⟨day, hday, hd⟩
    have hlt := day.isLt
    exact ⟨day.val + 1, ⟨by simp; omega, hday⟩, hd⟩

theorem distance_of_least {day : Fin 7} (henabled : e.enabled = true) (hday : e.days.getLsbD day.val = true)
    (hleast : ∀ other : Fin 7, e.days.getLsbD other.val = true →
      e.distanceOn now (day.val + 1) ≤ e.distanceOn now (other.val + 1)) :
    e.distance now = some (e.distanceOn now (day.val + 1)) := by
  rw [ScheduleEntry.distance, if_pos henabled]
  refine best_lt_of_least (mem_distances.mpr ⟨day, hday, rfl⟩) fun y hy => ?_
  obtain ⟨other, hother, rfl⟩ := mem_distances.mp hy
  exact hleast other hother

/-- A present distance is that of an enabled entry on a day of its mask. -/
theorem distance_eq_some {d : Nat} (h : e.distance now = some d) :
    e.enabled = true ∧ ∃ day : Fin 7, e.days.getLsbD day.val = true ∧ e.distanceOn now (day.val + 1) = d := by
  rw [ScheduleEntry.distance] at h
  split at h
  next henabled => exact ⟨henabled, mem_distances.mp (best_mem h)⟩
  next => cases h

theorem distance_eq_none (h : e.enabled = true → e.days = 0) : e.distance now = none := by
  refine Option.eq_none_iff_forall_ne_some.mpr fun d hd => ?_
  obtain ⟨henabled, day, hday, -⟩ := distance_eq_some hd
  simp [h henabled] at hday

/-- The distance as the statements give it, as an integer. -/
theorem distanceOn_eq (he : EntryInRange e) (k : DayClock) (day : Fin 7) :
    (e.distanceOn k.weekPosition (day.val + 1) : Int) = distanceBack k e (day.val + 1) := by
  obtain ⟨hhour, hminute, -⟩ := he
  have hlt := day.isLt
  simp only [ScheduleEntry.distanceOn, distanceBack]
  omega

end

/-! ## The entry that a catch-up sets (R55) -/

/-- The entries that have a distance, as (distance, index, plan), in rising order of the index. -/
def scheduleDistances (schedule : List ScheduleEntry) (now : Nat) : List (Nat × Nat × Nat) :=
  schedule.zipIdx.filterMap fun e => (e.1.distance now).map fun d => (d, e.2, e.1.plan)

theorem nearestEntry_eq (schedule : List ScheduleEntry) (now : Nat) :
    nearestEntry schedule now = best (fun a b => a.1 < b.1) (scheduleDistances schedule now) := rfl

theorem mem_scheduleDistances {schedule : Vector ScheduleEntry Config.scheduleCount} {now : Nat}
    {x : Nat × Nat × Nat} : x ∈ scheduleDistances schedule.toList now ↔
      ∃ i : Fin 24, schedule[i].distance now = some x.1 ∧ x.2 = (i.val, schedule[i].plan) := by
  simp only [scheduleDistances, List.mem_filterMap, Option.map_eq_some_iff]
  constructor
  · rintro ⟨⟨e, i⟩, hmem, d, hd, rfl⟩
    have hget : schedule.toList[i]? = some e := List.mem_zipIdx_iff_getElem?.mp hmem
    obtain ⟨hi, rfl⟩ := List.getElem?_eq_some_iff.mp hget
    have hlt : i < 24 := by simpa using hi
    exact ⟨⟨i, hlt⟩, by simpa using hd, by simp⟩
  · rintro ⟨i, hd, hx⟩
    exact ⟨(schedule[i], i.val), List.mem_zipIdx_iff_getElem?.mpr (by simp), x.1, hd, by rw [← hx]⟩

theorem scheduleDistances_sorted (schedule : List ScheduleEntry) (now : Nat) :
    (scheduleDistances schedule now).Pairwise fun x y => x.2.1 < y.2.1 := by
  have hindex : schedule.zipIdx.Pairwise fun x y => x.2 < y.2 := by
    rw [← List.pairwise_map, List.zipIdx_map_snd]
    exact List.pairwise_lt_range'
  refine hindex.filterMap _ fun x y hxy a ha b hb => ?_
  obtain ⟨_, -, rfl⟩ := Option.map_eq_some_iff.mp ha
  obtain ⟨_, -, rfl⟩ := Option.map_eq_some_iff.mp hb
  exact hxy

/-- Of entries at one distance the lowest index wins, because the list holds them in rising order. -/
theorem nearestEntry_of_least {schedule : List ScheduleEntry} {now : Nat} {x : Nat × Nat × Nat}
    (hx : x ∈ scheduleDistances schedule now)
    (h : ∀ y ∈ scheduleDistances schedule now, x.1 < y.1 ∨ (x.1 = y.1 ∧ x.2.1 ≤ y.2.1)) :
    nearestEntry schedule now = some x := by
  have hsorted := scheduleDistances_sorted schedule now
  rw [nearestEntry_eq]
  obtain ⟨pre, post, hsplit⟩ := List.append_of_mem hx
  rw [hsplit] at h hsorted ⊢
  refine best_of_first (key := Prod.fst) (fun y hy => ?_) fun y hy => ?_
  · have hlt : y.2.1 < x.2.1 := (List.pairwise_append.mp hsorted).2.2 y hy x (by simp)
    have hleast := h y (by simp [hy])
    omega
  · have hleast := h y (by simp [hy])
    omega

section
variable {s : State}

theorem catchUpSchedule_of_invalid (h : s.time.clock.valid = false) :
    catchUpSchedule s = setScheduled 0 none s := if_neg (by simp [h])

theorem catchUpSchedule_of_empty (h : s.time.clock.valid = true)
    (hempty : ∀ i : Fin 24, s.selector.schedule[i].enabled = true → s.selector.schedule[i].days = 0) :
    catchUpSchedule s = setScheduled 0 none s := by
  have hnone : scheduleDistances s.selector.schedule.toList s.time.clock.weekPosition = [] := by
    refine List.eq_nil_iff_forall_not_mem.mpr fun x hx => ?_
    obtain ⟨i, hi, -⟩ := mem_scheduleDistances.mp hx
    rw [distance_eq_none (hempty i)] at hi
    cases hi
  rw [catchUpSchedule, if_pos h, nearestEntry_eq, hnone]
  rfl

theorem catchUpSchedule_of_nearest {d : Nat} {i : Nat} {plan : Nat} (h : s.time.clock.valid = true)
    (hnearest : nearestEntry s.selector.schedule.toList s.time.clock.weekPosition = some (d, i, plan)) :
    catchUpSchedule s = setScheduled plan (some i) s := by
  rw [catchUpSchedule, if_pos h, hnearest]

/-- Of the selector a catch-up writes the scheduled plan and the last setting entry, before the selector event. -/
theorem catchUpSchedule_eq (s : State) : ∃ plan entry, catchUpSchedule s = setScheduled plan entry s := by
  rw [catchUpSchedule]
  split
  · split <;> exact ⟨_, _, rfl⟩
  · exact ⟨_, _, rfl⟩

/-- The catch-up sets what the statements say, whatever else the event leaves in `t`. -/
theorem catchesUp_of_catchUpSchedule {t : State} (hentries : ∀ i : Fin 24, EntryInRange s.selector.schedule[i])
    (hscheduled : t.selector.scheduled = (catchUpSchedule s).selector.scheduled)
    (hentry : t.selector.lastEntry = (catchUpSchedule s).selector.lastEntry) :
    CatchesUp s.time.clock s.selector.schedule t := by
  constructor <;> rw [hscheduled, hentry]
  case invalid =>
    intro hclock
    rw [catchUpSchedule_of_invalid hclock]
    exact ⟨rfl, rfl⟩
  case empty =>
    intro hclock hempty
    rw [catchUpSchedule_of_empty hclock hempty]
    exact ⟨rfl, rfl⟩
  case nearest =>
    intro hclock i day henabled hday hleast
    simp only [← distanceOn_eq (hentries _), Nat.cast_lt, Nat.cast_inj] at hleast
    have hdistance := distance_of_least (now := s.time.clock.weekPosition) henabled hday fun other hother => by
      have hle := hleast i other henabled hother
      omega
    have hmem := mem_scheduleDistances (x := (_, i.val, s.selector.schedule[i].plan)).mpr ⟨i, hdistance, rfl⟩
    have hnearest := nearestEntry_of_least hmem fun y hy => by
      obtain ⟨m, hm, hy2⟩ := mem_scheduleDistances.mp hy
      obtain ⟨hmenabled, other, hother, hd⟩ := distance_eq_some hm
      rw [hy2, ← hd]
      exact hleast m other hmenabled hother
    rw [catchUpSchedule_of_nearest hclock hnearest]
    exact ⟨rfl, rfl⟩

end

end Sys2Proof.Machine
end

section
/-! SUPPORT. The discrete inputs: sampling and validation (R145), the change handed to the owner of the function
(R52, R148, R149), and the statement about them. -/

namespace Sys2Proof.Safety

open Sys2Proof.Machine

theorem frame_setInputs (s : State) (v : Vector Input Config.inputCount) : Frame [.inputs] s (s.setInputs v) := by
  intro b hb
  cases b with
  | inputs => simp at hb
  | _ => simp [Block.same]

end Sys2Proof.Safety

namespace Sys2Proof.Machine

open Sys2Proof.Safety

/-! ## Sampling (R145) -/

theorem Input.rawActive_eq (i : Input) : i.rawActive = activeUnder i.polarity i.raw := by
  rw [Input.rawActive]
  cases i.polarity <;> cases i.raw <;> rfl

/-- A sample that agrees with the validated state ends the run; one that disagrees starts it or lets it run on. -/
theorem Input.sample_eq (i : Input) (l : Level) (now : Ct) : i.sample l now =
    { i with
      raw := l
      runStart := if activeUnder i.polarity l = i.validated then none else some (i.runStart.getD now) } := by
  by_cases h : activeUnder i.polarity l = i.validated <;> simp [Input.sample, Input.disagrees, Input.rawActive_eq, h]

theorem sampleInputs_get (now : Ct) (l : Vector Level 4) (v : Vector Input Config.inputCount) (k : Fin 4) :
    (sampleInputs now #v[l[0], l[1], l[2], l[3]] v)[k] = v[k].sample l[k] now := by
  fin_cases k <;> rfl

@[simp] theorem countPRef_inputs (s : State) : (countPRef s).inputs = s.inputs := by
  rw [countPRef]
  split
  · split <;> rfl
  · rfl

theorem exec_ctCount (y l0 l1 l2 l3 : Level) (s : State) :
    exec (.ctCount y l0 l1 l2 l3) s = run (fun t => countOnce y #v[l0, l1, l2, l3] (takeDue t)) s := rfl

theorem exec_ctCount_of_nothing_due {s : State} (hs : Running s) (hdue : NothingDue s) (y l0 l1 l2 l3 : Level) :
    exec (.ctCount y l0 l1 l2 l3) s = .next (countOnce y #v[l0, l1, l2, l3] s) := by
  rw [exec_ctCount, run_of_running hs, takeDue_of_nothing_due hdue]

/-- The inputs are sampled at the new count. -/
theorem countOnce_input (y : Level) (l : Vector Level 4) (s : State) (k : Fin 4) :
    (countOnce y #v[l[0], l[1], l[2], l[3]] s).inputs[k] =
      s.inputs[k].sample l[k] (countOnce y #v[l[0], l[1], l[2], l[3]] s).time.ct := by
  simp only [countOnce, State.setInputs_inputs, State.setTime_inputs, countPRef_inputs, sampleInputs_get]
  rfl

/-! ## The validated states (R52, R145, R148) -/

theorem corridorFree_eq_true {s : State} : s.corridorFree = true ↔
    ∃ m : Fin 4, s.inputs[m].func = .corridorFree ∧ s.inputs[m].validated = true := by
  simp only [State.corridorFree, Input.asserts, List.any_eq_true, Bool.and_eq_true, beq_iff_eq,
    Vector.mem_toList_iff, Vector.mem_iff_getElem]
  constructor
  · rintro ⟨_, ⟨m, hm, rfl⟩, hvalidated, hfunc⟩
    exact ⟨⟨m, hm⟩, hfunc, hvalidated⟩
  · rintro ⟨m, hfunc, hvalidated⟩
    exact ⟨s.inputs[m], ⟨m.val, m.isLt, rfl⟩, hvalidated, hfunc⟩

theorem corridorFree_eq_false {s : State} : s.corridorFree = false ↔
    ∀ m : Fin 4, s.inputs[m].func = .corridorFree → s.inputs[m].validated = false := by
  simp [← Bool.not_eq_true, corridorFree_eq_true]

theorem forces_of_released {i : Input} (h : i.validated = false) : i.forces = none := by
  rw [Input.forces]
  split
  · rw [h]; rfl
  all_goals rfl

theorem forced_eq_none {s : State} (h : ∀ m : Fin 4, s.inputs[m].forces = none) : s.forced = none := by
  refine List.findSome?_eq_none_iff.mpr fun m _ => ?_
  rw [h m, Option.map_none]

/-- The lowest forcing input is found before any later one. -/
theorem forced_of_lowest {s : State} {k : Fin 4} {p : Nat} (hk : s.inputs[k].forces = some p)
    (hlower : ∀ m : Fin 4, m < k → s.inputs[m].forces = none) : s.forced = some (k.val, p) := by
  obtain ⟨pre, post, hsplit⟩ := List.append_of_mem (List.mem_finRange k)
  have hsorted := List.pairwise_lt_finRange 4
  rw [hsplit] at hsorted
  refine List.findSome?_eq_some_iff.mpr ⟨pre, k, post, hsplit, by rw [hk, Option.map_some], fun m hm => ?_⟩
  rw [hlower m ((List.pairwise_append.mp hsorted).2.2 m hm k (by simp)), Option.map_none]

section
variable {k : Fin 4} {v : Bool} {s : State}

theorem frame_setValidated (k : Fin 4) (v : Bool) (s : State) : Frame [.inputs] s (setValidated k v s) :=
  frame_setInputs s _

theorem setValidated_get (k : Fin 4) (v : Bool) (s : State) (m : Fin 4) : (setValidated k v s).inputs[m] =
    if m = k then { s.inputs[k] with validated := v, runStart := none } else s.inputs[m] :=
  put_get ..

theorem setValidated_get_self (k : Fin 4) (v : Bool) (s : State) :
    (setValidated k v s).inputs[k] = { s.inputs[k] with validated := v, runStart := none } := by
  rw [setValidated_get, if_pos rfl]

theorem setValidated_get_of_ne {m : Fin 4} (h : m ≠ k) (v : Bool) (s : State) :
    (setValidated k v s).inputs[m] = s.inputs[m] := by
  rw [setValidated_get, if_neg h]

/-- An input that has another function has no part in the combined CORRIDOR_FREE. -/
theorem setValidated_corridorFree_of_func (h : s.inputs[k].func ≠ .corridorFree) (v : Bool) :
    (setValidated k v s).corridorFree = s.corridorFree := by
  rw [Bool.eq_iff_iff, corridorFree_eq_true, corridorFree_eq_true]
  refine exists_congr fun m => ?_
  by_cases hm : m = k
  · subst hm
    rw [setValidated_get_self]
    exact iff_of_false (fun hself => h hself.1) fun hself => h hself.1
  · rw [setValidated_get_of_ne hm]

/-- Another CORRIDOR_FREE input that is validated active keeps the combined one active. -/
theorem setValidated_corridorFree_of_other {m : Fin 4} (hm : m ≠ k) (hfunc : s.inputs[m].func = .corridorFree)
    (hvalidated : s.inputs[m].validated = true) (v : Bool) : (setValidated k v s).corridorFree = true := by
  refine corridorFree_eq_true.mpr ⟨m, ?_⟩
  rw [setValidated_get_of_ne hm]
  exact ⟨hfunc, hvalidated⟩

/-- Without another one, the combined CORRIDOR_FREE is that of the input. -/
theorem corridorFree_of_alone (hfunc : s.inputs[k].func = .corridorFree)
    (halone : ∀ m : Fin 4, m ≠ k → s.inputs[m].func = .corridorFree → s.inputs[m].validated = false) :
    s.corridorFree = s.inputs[k].validated := by
  cases hvalidated : s.inputs[k].validated with
  | true => exact corridorFree_eq_true.mpr ⟨k, hfunc, hvalidated⟩
  | false =>
    refine corridorFree_eq_false.mpr fun m hm => ?_
    by_cases hmk : m = k
    · exact hmk ▸ hvalidated
    · exact halone m hmk hm

theorem setValidated_corridorFree_of_alone (hfunc : s.inputs[k].func = .corridorFree)
    (halone : ∀ m : Fin 4, m ≠ k → s.inputs[m].func = .corridorFree → s.inputs[m].validated = false) :
    (setValidated k v s).corridorFree = v := by
  have hself := setValidated_get_self k v s
  refine (corridorFree_of_alone (k := k) ?_ fun m hm => ?_).trans ?_
  · rw [hself]; exact hfunc
  · rw [setValidated_get_of_ne hm]; exact halone m hm
  · rw [hself]

theorem alikeForPlans_setValidated (h : s.inputs[k].func ≠ .corridorFree) (v : Bool) :
    AlikeForPlans s (setValidated k v s) where
  frame := (frame_setValidated k v s).mono (by simp)
  active := rfl
  pending := rfl
  corridorFree := setValidated_corridorFree_of_func h v

end

/-! ## CORRIDOR_FREE (R148, R149) -/

theorem freeByCorridor_moves (now : Ct) (q : Junction) : CorridorFreeMoves now true q (freeByCorridor q) := by
  obtain ⟨link, smin, state, lockout, granted, spillIn, spillOut⟩ := q
  cases state with
  | free cause => simp [CorridorFreeMoves, freeByCorridor, Coordination.isSeek, Coordination.isInStep]
  | seek w => simp [CorridorFreeMoves, freeByCorridor, Coordination.isSeek]
  | inStep w => simp [CorridorFreeMoves, freeByCorridor, Coordination.isInStep]
  | preempt start deadline ret =>
    cases ret <;> simp [CorridorFreeMoves, freeByCorridor, Coordination.isSeek, Coordination.isInStep]

theorem rejoinCorridor_moves (now : Ct) (q : Junction) : CorridorFreeMoves now false q (rejoinCorridor now q) := by
  obtain ⟨link, smin, state, lockout, granted, spillIn, spillOut⟩ := q
  cases state with
  | free cause =>
    cases cause <;>
      simp +contextual [CorridorFreeMoves, rejoinCorridor, enterSeek, Coordination.isSeek, Coordination.isInStep,
        eq_comm]
  | seek w => simp [CorridorFreeMoves, rejoinCorridor]
  | inStep w => simp [CorridorFreeMoves, rejoinCorridor]
  | preempt start deadline ret =>
    cases ret <;> simp [CorridorFreeMoves, rejoinCorridor, Coordination.isSeek, Coordination.isInStep]

/-- A function of a junction that takes it neither into nor out of FREE(FAULT) and PREEMPT. -/
def KeepsAlertStates (f : Junction → Junction) : Prop :=
  ∀ q, (f q).state.isFault = q.state.isFault ∧ (f q).state.isPreempt = q.state.isPreempt

theorem keepsAlertStates_freeByCorridor : KeepsAlertStates freeByCorridor := by
  intro q
  rw [freeByCorridor]
  split <;> simp_all [Coordination.isFault, Coordination.isPreempt]

theorem keepsAlertStates_rejoinCorridor (now : Ct) : KeepsAlertStates (rejoinCorridor now) := by
  intro q
  rw [rejoinCorridor]
  split <;> simp_all [Coordination.isFault, Coordination.isPreempt, enterSeek]

/-- Such a function, applied to every junction, changes no source of the pending set. -/
theorem pendingSet_of_keepsAlertStates {f : Junction → Junction} (hf : KeepsAlertStates f) (s : State) :
    (s.setJunctions (s.junctions.map f)).pendingSet = s.pendingSet := by
  have hfault (q : Junction) : (f q).state.isFault = q.state.isFault := (hf q).1
  have hpreempt (q : Junction) : (f q).state.isPreempt = q.state.isPreempt := (hf q).2
  simp [State.pendingSet, State.levelSet, State.junctionFault, State.preemptActive, State.anyJunction,
    State.resultReady, List.any_map, Function.comp_def, hfault, hpreempt]

section
variable {was : Bool} {s : State}

theorem corridorFreeChange_of_same (h : s.corridorFree = was) : corridorFreeChange was s = s := by
  cases was <;> simp [corridorFreeChange, h]

theorem corridorFreeChange_of_validated (h : s.corridorFree = true) :
    corridorFreeChange false s = s.setJunctions (s.junctions.map freeByCorridor) := by
  simp [corridorFreeChange, h, corridorFreeValidated]

theorem corridorFreeChange_of_released (h : s.corridorFree = false) :
    corridorFreeChange true s = s.setJunctions (s.junctions.map (rejoinCorridor s.now)) := by
  simp [corridorFreeChange, h, corridorFreeReleased]

/-- Whatever becomes of the combined CORRIDOR_FREE, every junction moves by one function. -/
theorem corridorFreeChange_eq_map (was : Bool) (s : State) : ∃ f, KeepsAlertStates f ∧
    corridorFreeChange was s = s.setJunctions (s.junctions.map f) := by
  cases hnow : s.corridorFree <;> cases was
  · exact ⟨id, fun _ => ⟨rfl, rfl⟩, by rw [corridorFreeChange_of_same hnow, List.map_id]; rfl⟩
  · exact ⟨_, keepsAlertStates_rejoinCorridor s.now, corridorFreeChange_of_released hnow⟩
  · exact ⟨_, keepsAlertStates_freeByCorridor, corridorFreeChange_of_validated hnow⟩
  · exact ⟨id, fun _ => ⟨rfl, rfl⟩, by rw [corridorFreeChange_of_same hnow, List.map_id]; rfl⟩

end

/-! ## The change handed to the owner of the function (R145) -/

section
variable {k : Fin 4} {v : Bool} {s : State}

theorem changeInput_of_free (h : s.inputs[k].func = .none ∨ s.inputs[k].func = .editEnable) :
    changeInput k v s = setValidated k v s := by
  obtain hfunc | hfunc := h <;> rw [changeInput, hfunc]

theorem changeInput_of_corridorFree (h : s.inputs[k].func = .corridorFree) :
    changeInput k v s = corridorFreeChange s.corridorFree (setValidated k v s) := by
  rw [changeInput, h]

theorem changeInput_of_asserted {p : Nat} (h : s.inputs[k].func = .planForce p) :
    changeInput k true s = select false (setValidated k true s) := by
  rw [changeInput, h]
  rfl

theorem changeInput_of_released {p : Nat} (h : s.inputs[k].func = .planForce p) :
    changeInput k false s = catchUp (setValidated k false s) := by
  rw [changeInput, h]
  rfl

theorem frame_catchUp (s : State) : Frame [.selector, .junctions, .latched] s (catchUp s) := by
  obtain ⟨plan, entry, h⟩ := catchUpSchedule_eq s
  rw [catchUp, h]
  exact ((frame_setSelector s _).mono (by simp)).trans (frame_select true _)

theorem frame_changeInput_of_planForce {p : Nat} (h : s.inputs[k].func = .planForce p) (v : Bool) :
    Frame [.selector, .junctions, .latched] (setValidated k v s) (changeInput k v s) := by
  cases v with
  | true => exact changeInput_of_asserted h ▸ frame_select false _
  | false => exact changeInput_of_released h ▸ frame_catchUp _

/-- Whatever the function, the inputs read as validation leaves them. -/
theorem changeInput_inputs (k : Fin 4) (v : Bool) (s : State) :
    (changeInput k v s).inputs = (setValidated k v s).inputs := by
  cases hfunc : s.inputs[k].func with
  | none => rw [changeInput_of_free (.inl hfunc)]
  | editEnable => rw [changeInput_of_free (.inr hfunc)]
  | corridorFree =>
    obtain ⟨f, -, hmap⟩ := corridorFreeChange_eq_map s.corridorFree (setValidated k v s)
    rw [changeInput_of_corridorFree hfunc, hmap, State.setJunctions_inputs]
  | planForce p => exact frame_changeInput_of_planForce hfunc v .inputs (by simp)

/-- The change of a CORRIDOR_FREE input moves the junctions by one function and starts no pulse. -/
theorem settle_changeInput_of_corridorFree (h : s.inputs[k].func = .corridorFree) : ∃ f,
    changeInput k v s = (setValidated k v s).setJunctions (s.junctions.map f) ∧
      settle s (changeInput k v s) = changeInput k v s := by
  obtain ⟨f, hkeeps, hmap⟩ := corridorFreeChange_eq_map s.corridorFree (setValidated k v s)
  have hchange := (changeInput_of_corridorFree h).trans hmap
  refine ⟨f, hchange, settle_of_subset (joined_of_pendingSet ?_ ?_)⟩
  · rw [hchange, pendingSet_of_keepsAlertStates hkeeps]
    exact pendingSet_congr rfl rfl rfl rfl
  · rw [hchange]
    simp [Block.same, setValidated]

/-- The junctions after the change of the only CORRIDOR_FREE input. -/
theorem changeInput_moves (hfunc : s.inputs[k].func = .corridorFree) (hchange : v = !s.inputs[k].validated)
    (halone : ∀ m : Fin 4, m ≠ k → s.inputs[m].func = .corridorFree → s.inputs[m].validated = false) {j : Nat}
    {old q : Junction} (hold : s.junctions[j]? = some old) (hq : (changeInput k v s).junctions[j]? = some q) :
    CorridorFreeMoves s.time.ct v old q := by
  have hnow := setValidated_corridorFree_of_alone (v := v) hfunc halone
  have hwas := corridorFree_of_alone hfunc halone
  have hjunctions : (setValidated k v s).junctions = s.junctions := rfl
  rw [changeInput_of_corridorFree hfunc, hwas] at hq
  cases hvalidated : s.inputs[k].validated with
  | false =>
    obtain rfl : v = true := by rw [hchange, hvalidated]; rfl
    rw [hvalidated, corridorFreeChange_of_validated hnow, State.setJunctions_junctions, List.getElem?_map,
      hjunctions, hold] at hq
    exact Option.some.inj hq ▸ freeByCorridor_moves _ old
  | true =>
    obtain rfl : v = false := by rw [hchange, hvalidated]; rfl
    rw [hvalidated, corridorFreeChange_of_released hnow, State.setJunctions_junctions, List.getElem?_map,
      hjunctions, hold] at hq
    exact Option.some.inj hq ▸ rejoinCorridor_moves _ old

theorem not_corridorFree_of_planForce {p : Nat} (h : s.inputs[k].func = .planForce p) :
    s.inputs[k].func ≠ .corridorFree := by
  rw [h]
  nofun

/-- The assertion of a PLAN_FORCE input is a selector event without a catch-up. -/
theorem changeInput_asserts {p : Nat} (h : s.inputs[k].func = .planForce p) (hv : v = true) {t : State}
    (ht : t = settle s (changeInput k v s)) :
    t.selector.scheduled = s.selector.scheduled ∧ t.selector.lastEntry = s.selector.lastEntry ∧
      ((∀ m : Fin 4, m < k → s.inputs[m].forces = none) → t.selector.requested = p) ∧
      SelectorActs (t.selector.requested ≠ s.selector.requested) s t := by
  subst hv
  have hacts := (alikeForPlans_setValidated (not_corridorFree_of_planForce h) true).selectorActs false
  rw [changeInput_of_asserted h] at ht
  rw [← ht] at hacts
  have hrequested : t.selector.requested = (setValidated k true s).arbitrate := by
    rw [ht, settle_selector, select_requested]
  refine ⟨?_, ?_, fun hlower => ?_, ?_⟩
  · rw [ht, settle_selector, select_scheduled]; rfl
  · rw [ht, settle_selector, select_lastEntry]; rfl
  · have hforces : (setValidated k true s).inputs[k].forces = some p := by
      rw [setValidated_get_self, Input.forces, h]
      rfl
    have hforced := forced_of_lowest hforces fun m hm => by
      rw [setValidated_get_of_ne hm.ne]
      exact hlower m hm
    rw [hrequested, State.arbitrate, hforced]
  · have hbefore : (setValidated k true s).selector.requested = s.selector.requested := rfl
    rw [hrequested]
    simpa [hbefore] using hacts

/-- The release of a PLAN_FORCE input is a selector event with a catch-up. -/
theorem changeInput_releases {p : Nat} (h : s.inputs[k].func = .planForce p) (hv : v = false) {t : State}
    (ht : t = settle s (changeInput k v s)) : ForceReleased k s t := by
  subst hv
  have halike := alikeForPlans_setValidated (not_corridorFree_of_planForce h) false
  obtain ⟨plan, entry, hcatch⟩ := catchUpSchedule_eq (setValidated k false s)
  have hcaught : AlikeForPlans s (catchUpSchedule (setValidated k false s)) := hcatch ▸ halike.setSelector rfl rfl
  have hacts := hcaught.selectorActs true
  rw [changeInput_of_released h, catchUp] at ht
  rw [← ht] at hacts
  have hrequested : t.selector.requested = (catchUpSchedule (setValidated k false s)).arbitrate := by
    rw [ht, settle_selector, select_requested]
  have hscheduled : t.selector.scheduled = (catchUpSchedule (setValidated k false s)).selector.scheduled := by
    rw [ht, settle_selector, select_scheduled]
  constructor
  case caught =>
    intro _ hentries
    exact catchesUp_of_catchUpSchedule (s := setValidated k false s) hentries hscheduled
      (by rw [ht, settle_selector, select_lastEntry])
  case requested =>
    intro hothers
    have hforced : (catchUpSchedule (setValidated k false s)).forced = none := by
      refine forced_eq_none fun m => ?_
      rw [hcatch]
      change (setValidated k false s).inputs[m].forces = none
      by_cases hm : m = k
      · subst hm
        exact forces_of_released (by rw [setValidated_get_self])
      · rw [setValidated_get_of_ne hm]
        exact hothers m hm
    rw [hrequested, hscheduled, State.arbitrate, hforced, hcatch]
    rfl
  case acts =>
    rw [hrequested, ← hcaught.target]
    have hbefore : (catchUpSchedule (setValidated k false s)).selector.requested = s.selector.requested := by
      rw [hcatch]; rfl
    rw [← hbefore]
    simpa using hacts

/-! ## INPUT_VALIDATION (R145) -/

theorem exec_inputValidation (k : Fin 4) (s : State) :
    exec (.inputValidation k) s = run (takeEvent (.validation k)) s := rfl

/-- A run that has reached its time flips the validated state. -/
theorem exec_inputValidation_of_flips {x : Ct} (hs : Running s) (hrun : s.inputs[k].runStart = some x)
    (hraw : activeUnder s.inputs[k].polarity s.inputs[k].raw = !s.inputs[k].validated)
    (htime : (if s.inputs[k].validated then s.inputs[k].releaseTime else s.inputs[k].assertTime) ≤ ahead x s.time.ct) :
    exec (.inputValidation k) s = .next (settle s (changeInput k (!s.inputs[k].validated) s)) := by
  have hactive : s.inputs[k].rawActive = !s.inputs[k].validated := (Input.rawActive_eq _).trans hraw
  have hdisagrees : s.inputs[k].disagrees = true := by
    rw [Input.disagrees, hactive, bne_iff_ne]
    exact Bool.not_ne_self _
  have hdue : (Event.validation k).due s = true := by
    rw [Event.due, Input.flips, hrun]
    exact Bool.and_eq_true_iff.mpr ⟨hdisagrees, decide_eq_true htime⟩
  rw [exec_inputValidation, run_of_running hs, takeEvent_of_due hdue, Event.effect, validateInput, hactive]

end

end Sys2Proof.Machine

namespace Sys2Proof.Proofs

open Sys2Proof.Machine Sys2Proof.Safety

/-- Settles O58: the samples one by one; then a validation as the change handed to the owner of each function. -/
theorem inputsValidateAndAct : Obligations.InputsValidateAndAct := by
  refine ⟨fun y l s hs hdue => ?_, ?_⟩
  · refine ⟨_, exec_ctCount_of_nothing_due hs hdue y _ _ _ _, fun k => ?_⟩
    rw [countOnce_input, Input.sample_eq]
  · intro k x s i v hs hrun hraw htime
    refine ⟨_, exec_inputValidation_of_flips hs hrun hraw htime, fun m => ?_, fun hfunc => ?_, fun hfunc => ?_,
      fun p hfunc => ?_⟩
    · rw [settle_inputs, changeInput_inputs, setValidated_get]
    · have hframe := frame_setValidated k v s
      rwa [changeInput_of_free hfunc, settle_of_subset (joined_of_quiet hframe (by simp [Quiet]))]
    · obtain ⟨f, hchange, hsettle⟩ := settle_changeInput_of_corridorFree (v := v) hfunc
      rw [hsettle]
      refine ⟨?_, ?_, fun ⟨m, hm, hmfunc, hmvalidated⟩ => ?_, fun halone j old q hold hq => ?_⟩
      · rw [hchange]
        exact ((frame_setValidated k v s).mono (by simp)).trans ((frame_setJunctions _ _).mono (by simp))
      · rw [hchange]
        simp [State.n]
      · have hnow := setValidated_corridorFree_of_other hm hmfunc hmvalidated v
        have hwas := corridorFree_eq_true.mpr ⟨m, hmfunc, hmvalidated⟩
        rw [changeInput_of_corridorFree hfunc, corridorFreeChange_of_same (hnow.trans hwas.symm)]
        rfl
      · exact changeInput_moves hfunc rfl halone hold hq
    · refine ⟨?_, fun hv => ?_, fun hv => ?_⟩
      · exact ((frame_setValidated k v s).mono (by simp)).trans <|
          ((frame_changeInput_of_planForce hfunc v).mono (by simp)).trans ((frame_settle s _).mono (by simp))
      · exact changeInput_asserts hfunc hv rfl
      · exact changeInput_releases hfunc hv rfl

end Sys2Proof.Proofs
end

section
/-! SUPPORT. The transactions that execute nothing: a discarded SEND (R154, R155), a void transaction (R153) and
PORT_RESET (R159); and the statement about them. -/

namespace Sys2Proof.Safety

open Sys2Proof.Machine

theorem frame_setPort {s : State} {v : Port} (hlock : v.editLock = s.port.editLock) :
    Frame [.port, .sequence] s (s.setPort v) := by
  intro b hb
  cases b with
  | port | sequence => simp at hb
  | editLock => exact hlock
  | _ => simp [Block.same]

theorem frame_setPort_of_sequence {s : State} {v : Port} (hlock : v.editLock = s.port.editLock)
    (hsequence : v.sequence = s.port.sequence) : Frame [.port] s (s.setPort v) := by
  intro b hb
  by_cases h : b = .sequence
  · exact h ▸ hsequence
  · exact frame_setPort hlock b (by simpa [h] using hb)

end Sys2Proof.Safety

namespace Sys2Proof.Machine

open Sys2Proof.Safety

/-! ## Discarded SENDs (R154, R155) -/

theorem exec_sendDiscarded (frame : List Byte) (s : State) :
    exec (.sendDiscarded frame) s = run (sendFrame frame) s := rfl

/-- A frame without a code or a length count, or shorter than its length count says, is not whole. -/
theorem wholeFrame_eq_none_iff (frame : List Byte) :
    wholeFrame frame = none ↔ frame.length < 2 ∨ frame.length < 2 + (frame.getD 1 0).toNat := by
  match frame with
  | [] => simp [wholeFrame]
  | [_] => simp [wholeFrame]
  | code :: len :: rest =>
    have hrest : rest.length < len.toNat ↔ rest.length + 2 < 2 + len.toNat := by omega
    simpa [wholeFrame] using hrest

theorem sendFrame_of_busy {s : State} (h : s.port.state ≠ .idle) (frame : List Byte) :
    sendFrame frame s = discardSend frame.length s := by
  cases hstate : s.port.state with
  | idle => exact absurd hstate h
  | executing f d => simp [sendFrame, hstate]
  | result f => simp [sendFrame, hstate]

theorem sendFrame_of_not_whole {frame : List Byte} (h : wholeFrame frame = none) (s : State) :
    sendFrame frame s = discardSend frame.length s := by
  by_cases hstate : s.port.state = .idle
  · simp [sendFrame, hstate, h]
  · exact sendFrame_of_busy hstate frame

theorem frame_discardSend (k : Nat) (s : State) : Frame [.port] s (discardSend k s) :=
  frame_setPort_of_sequence rfl rfl

/-! ## Void transactions (R153) -/

theorem exec_voidTransaction (bytes : List Byte) (s : State) :
    exec (.voidTransaction bytes) s = run (voidTransaction bytes) s := rfl

theorem frame_voidTransaction (bytes : List Byte) (s : State) : Frame [.port] s (voidTransaction bytes s) :=
  frame_setPort_of_sequence rfl rfl

/-- The status byte is clocked out with the type byte, and a fill byte with each byte after it. -/
theorem voidTransaction_cons_sdo (b : Byte) (rest : List Byte) (s : State) :
    (voidTransaction (b :: rest) s).port.sdo = s.statusByte :: List.replicate rest.length 0x00 := by
  simp [voidTransaction, fillByte, List.take_replicate]

/-! ## PORT_RESET (R159) -/

theorem exec_portReset (n : Nat) (s : State) : exec (.portReset n) s = run (portReset n) s := rfl

/-- An event that changes the port alone and does not bring it into RESULT brings no source in (R167). -/
theorem joined_of_port {s t : State} (hframe : Frame [.port, .sequence] s t)
    (hready : t.resultReady = true → s.resultReady = true) : joined s t = 0 := by
  have htime : t.time = s.time := hframe .time (by simp)
  have hjunctions : t.junctions = s.junctions := hframe .junctions (by simp)
  have hlatched : t.alerts.latched = s.alerts.latched := hframe .latched (by simp)
  refine joined_of_pendingSet_mono (hframe .alertConfig (by simp)) fun i hi => ?_
  simp only [State.pendingSet, State.levelSet, State.junctionFault, State.preemptActive, State.anyJunction,
    BitVec.getLsbD_or, Bool.or_eq_true, htime, hjunctions, hlatched] at hi ⊢
  exact hi.imp_left (Or.imp_right (onlyIf_getLsbD_mono hready))

theorem PortState.afterReset_ne_result (p : PortState) (f : ResultFrame) : p.afterReset ≠ .result f := by
  cases p <;> nofun

/-- A PORT_RESET changes the port alone: no port it leaves is in RESULT, so it starts no pulse. -/
theorem portReset_eq (n : Nat) (s : State) :
    portReset n s = s.setPort { s.port with
      state := s.port.state.afterReset, rejected := false, sequence := none, sdo := sendOut s n } := by
  refine settle_of_subset (joined_of_port (frame_setPort rfl) fun hready => ?_)
  cases hstate : s.port.state.afterReset with
  | result f => exact absurd hstate (s.port.state.afterReset_ne_result f)
  | _ => simp [State.resultReady, hstate] at hready

end Sys2Proof.Machine

namespace Sys2Proof.Proofs

open Sys2Proof.Machine Sys2Proof.Safety

/-- Settles O20: each transaction as one update of the port; the two reasons to discard a SEND taken apart. -/
theorem discardedAndResetTransactions : Obligations.DiscardedAndResetTransactions := by
  refine ⟨fun frame s hs hdiscard => ?_, fun b rest s hs _ => ?_, fun s hs => ?_, fun n s hs => ?_⟩
  · have hsend : sendFrame frame s = discardSend frame.length s :=
      hdiscard.elim (sendFrame_of_busy · frame)
        fun hshort => sendFrame_of_not_whole ((wholeFrame_eq_none_iff frame).mpr hshort) s
    rw [exec_sendDiscarded, run_of_running hs, hsend]
    exact ⟨_, rfl, frame_discardSend _ s, rfl, rfl, rfl⟩
  · rw [exec_voidTransaction, run_of_running hs]
    exact ⟨_, rfl, frame_voidTransaction _ s, rfl, rfl, voidTransaction_cons_sdo b rest s⟩
  · rw [exec_voidTransaction, run_of_running hs]
    exact ⟨_, rfl, frame_voidTransaction _ s, rfl, rfl, rfl⟩
  · rw [exec_portReset, run_of_running hs, portReset_eq]
    refine ⟨_, rfl, frame_setPort rfl, rfl, rfl, fun h => ?_, fun f h => ?_, fun f d h => ?_, rfl⟩
    all_goals simp [PortState.afterReset, h]

end Sys2Proof.Proofs
end

section
/-! SUPPORT. The frame of each update of the state. What a command can do, said once: the elementary changes that events and requests are made of, each with
what its owner has checked before it. -/

namespace Sys2Proof.Safety

open Sys2Proof.Machine

/-! ## The frame of each update -/

theorem frame_setTime (s : State) (v : TimeBase) :
    Frame [.time] s (s.setTime v) := by
  intro b hb
  cases b with
  | time => simp at hb
  | _ => simp [Block.same]

theorem frame_setSettings (s : State) (v : Settings) :
    Frame [.settings] s (s.setSettings v) := by
  intro b hb
  cases b with
  | settings => simp at hb
  | _ => simp [Block.same]

theorem frame_setGroups (s : State) (v : Vector GroupRange Config.groupCount) :
    Frame [.groups] s (s.setGroups v) := by
  intro b hb
  cases b with
  | groups => simp at hb
  | _ => simp [Block.same]

theorem frame_setPlans (s : State) (v : Vector (Option Plan) Config.planCount) :
    Frame [.plans] s (s.setPlans v) := by
  intro b hb
  cases b with
  | plans => simp at hb
  | _ => simp [Block.same]

theorem frame_setPriorities (s : State) (v : Vector (Slot Priority) Config.prioritySlots) :
    Frame [.priorities] s (s.setPriorities v) := by
  intro b hb
  cases b with
  | priorities => simp at hb
  | _ => simp [Block.same]

theorem frame_setBlink (s : State) (v : Fin 8) :
    Frame [.blink] s (s.setBlink v) := by
  intro b hb
  cases b with
  | blink => simp at hb
  | _ => simp [Block.same]

theorem frame_setPending (s : State) (v : List Instr) :
    Frame [.queue] s (s.setPending v) := by
  intro b hb
  cases b with
  | queue => simp at hb
  | _ => simp [Block.same]

/-- Any update of the port. -/
theorem frame_setPort_any (s : State) (v : Port) : Frame [.port, .sequence, .editLock] s (s.setPort v) := by
  intro b hb
  cases b with
  | port | sequence | editLock => simp at hb
  | _ => simp [Block.same]

/-- Any update of the alert unit. -/
theorem frame_setAlerts (s : State) (v : Alerts) : Frame [.latched, .alertConfig, .pulseEnd] s (s.setAlerts v) := by
  intro b hb
  cases b with
  | latched | alertConfig | pulseEnd => simp at hb
  | _ => simp [Block.same]

theorem frame_setLatched (s : State) (v : SourceSet) :
    Frame [.latched] s (s.setAlerts { s.alerts with latched := v }) := by
  intro b hb
  cases b with
  | latched => simp at hb
  | _ => simp [Block.same]

theorem frame_setPulseEnd (s : State) (v : Option Ct) :
    Frame [.pulseEnd] s (s.setAlerts { s.alerts with pulseEnd := v }) := by
  intro b hb
  cases b with
  | pulseEnd => simp at hb
  | _ => simp [Block.same]

end Sys2Proof.Safety

namespace Sys2Proof.Machine

open Sys2Proof.Safety

/-! ## The elementary changes -/

/-- What a plan does at an activation or at the reference boundary (R34 to R40, R47). -/
inductive PlanMove (s : State) : State → Prop where
  | cancelled : PlanMove s (cancelPending s)
  | pends {n : Nat} (hn : n ≠ s.activeNumber) (hactive : s.selector.active.isSome = true)
      (hvalid : n = 0 ∨ ValidPlan n s) : PlanMove s (makePending n s)
  | takes {n : Nat} {p : Plan} (hactive : s.selector.active = none) (hclock : s.time.clock.valid = true)
      (hrecord : s.planRecord n = some p) (hcheck : failedCheck p s.junctions = none) : PlanMove s (takeEffect n p s)
  | boundary {n : Nat} {p : Plan} (hpending : s.selector.pendingPlan = some n) (hn : n ≠ 0)
      (hrecord : s.planRecord n = some p) : PlanMove s (takeEffect n p s)
  | plan0 (hpending : s.selector.pendingPlan = some 0) : PlanMove s (takeEffectPlan0 s)

/-- What an accepted edit request writes (R165), once an input it reconfigures has been released. -/
inductive EditMove (s : State) : State → Prop where
  | corridor {v : Settings} {n : Nat} (hactive : s.selector.active = none) (hn : n = 0 ∨ (2 ≤ n ∧ n ≤ 24))
      (hv : SettingsInRange v) : EditMove s (applyCorridor v n s)
  | junction {j smin len : Nat} {link : Option Nat} (hactive : s.selector.active = none)
      (hpending : s.selector.pendingPlan = none) (hlow : 50 ≤ smin) (hhigh : smin ≤ 1200)
      (hlink : linkFor j s.n len = some link) :
      EditMove s (s.updateJunction j fun q => { q with link := link, smin := smin })
  | group {k : Fin Config.groupCount} {g : GroupRange} (hg : GroupInRange g) : EditMove s (applyGroup k g s)
  | plan {k : Fin Config.planCount} {p : Plan} (hp : p.inRange = true) (hactive : k.val + 1 ≠ s.activeNumber)
      (hpending : s.selector.pendingPlan ≠ some (k.val + 1)) : EditMove s (s.setPlans (put s.plans k (some p)))
  | entry {k : Fin Config.scheduleCount} {e : ScheduleEntry} (he : EntryInRange e) :
      EditMove s (s.setSelector { s.selector with schedule := put s.selector.schedule k e })
  | input {k : Fin Config.inputCount} {f : InputFunction} {p : Polarity} {a r : Nat} (hf : inputPlan f ≤ 8)
      (hreleased : s.inputs[k].validated = false) : EditMove s (configureInput k f p a r s)

/-- What an event or a request does to junction `j`, from `q` to the junction that takes its place. -/
inductive JunctionMove (s : State) (j : Nat) (q : Junction) : Junction → Prop where
  | resync (hfault : q.state = .free .fault) : JunctionMove s j q (q.resynced s.now s.corridorFree)
  | spill (d : Direction) (e : Option Ct) : JunctionMove s j q (q.setSpill d e)
  | begins : JunctionMove s j q (beginPreempt s.now s.settings.pmax s.corridorFree q)
  | ends : JunctionMove s j q (endPreempt s.now q)
  | books {a : ActivePlan} {p : Plan} (hplan : s.activeRecord = some (a, p)) :
      JunctionMove s j q (bookJunction s.now p j (driftOfJunction a p j) q)
  | closes {c : Cycle} (hc : q.cycle? = some c) : JunctionMove s j q (q.setCycle { c with phase := .side })
  | stretches {w : Window} {c : Cycle} {newEnd : Ct} (hw : q.state.window? = some w) (hc : q.cycle? = some c)
      (hreach : c.held.xMax ≤ 300 → ahead s.now newEnd ≤ c.held.xMax - c.x) :
      JunctionMove s j q (q.setCycle (extendCycle w.start q.smin s.now newEnd c))
  | shortens {w : Window} {c : Cycle} {newEnd : Ct} (hw : q.state.window? = some w) (hc : q.cycle? = some c)
      (hroom : c.held.eMax ≤ 300 → ahead newEnd (plus w.start c.lc) ≤ c.held.eMax - c.y) :
      JunctionMove s j q (q.setCycle (shortenCycle w.start newEnd c))
  | grants {c : Cycle} (hc : q.cycle? = some c) : JunctionMove s j q (q.grantWith c.held.r)

/-- What an event or a request does to the priority list. -/
inductive PriorityMove (s : State) : Vector (Slot Priority) Config.prioritySlots → Prop where
  | granted (accept : Priority → Bool) (kind : GrantKind) (now : Ct) :
      PriorityMove s (grantRecords accept kind now s.priorities)
  | rewritten {k : Fin Config.prioritySlots} {r r' : Priority} (hlive : s.priorities[k].live = some r)
      (htag : r'.tag = r.tag) (hjunction : r'.junction = r.junction) : PriorityMove s (rewrite s.priorities k r')
  | placed {k : Fin Config.prioritySlots} {r : Priority} (hempty : s.priorities[k].live = none)
      (hactive : s.selector.active.isSome = true) (hrange : PriorityInRange s.n r)
      (hnew : ∀ e ∈ s.livePriorities, e.2.tag = r.tag → e.2.junction ≠ r.junction) :
      PriorityMove s (put s.priorities k (s.priorities[k].place r))
  | retired (k : Fin Config.prioritySlots) (cause : RetireCause) :
      PriorityMove s (retireAt s.priorities k cause s.now)
  | cleared : PriorityMove s (retireAll s.priorities .cleared s.now)

/-- The heads of other records in the direction and at the junction of `r` lie at least Gm away from its own. -/
def HeadClear (s : State) (k : Fin Config.platoonSlots) (r : Platoon) : Prop :=
  ∀ e ∈ s.livePlatoons, e.1 ≠ k → e.2.dir = r.dir → e.2.cur = r.cur → s.settings.gm ≤ apart e.2.head r.head

/-- What an event or a request does to the platoon table. -/
inductive PlatoonMove (s : State) : Vector (Slot Platoon) Config.platoonSlots → Prop where
  | rewritten {k : Fin Config.platoonSlots} {r r' : Platoon} (hlive : s.platoons[k].live = some r)
      (hrange : PlatoonInRange s.n s.settings.dl r → PlatoonInRange s.n s.settings.dl r')
      (hclear : PlatoonsApart s → HeadClear s k r') : PlatoonMove s (rewrite s.platoons k r')
  | placed {k : Fin Config.platoonSlots} {r : Platoon} (hempty : s.platoons[k].live = none)
      (hactive : s.selector.active.isSome = true) (hrange : 2 ≤ s.n → PlatoonInRange s.n s.settings.dl r)
      (hclear : HeadClear s k r) : PlatoonMove s (put s.platoons k (s.platoons[k].place r))
  | retired (k : Fin Config.platoonSlots) (cause : RetireCause) : PlatoonMove s (retireAt s.platoons k cause s.now)
  | cleared : PlatoonMove s (retireAll s.platoons .cleared s.now)

/-- One elementary change. The moves of the day clock, the counts, the pulse end and SET ALERT CONFIG stand apart. -/
inductive Change (s : State) : State → Prop where
  | outside {t : State} (hframe : Frame [.port, .sequence, .editLock, .blink, .latched] s t)
      (hlock : s.port.editLock = true → t.port.editLock = true)
      (hlatched : s.alerts.latched &&& ~~~latchedSources = 0 → t.alerts.latched &&& ~~~latchedSources = 0)
      (hfits : FrameFits s.port.state → FrameFits t.port.state) : Change s t
  | flags {v : TimeBase} (hct : v.ct = s.time.ct) (hclock : v.clock = s.time.clock)
      (hsync : v.syncLost = true → s.time.syncLost = true ∨ s.settings.syncEnable = true) : Change s (s.setTime v)
  | numbers {v : Selector} (hschedule : v.schedule = s.selector.schedule) (hactive : v.active = s.selector.active)
      (hpending : v.pendingPlan = s.selector.pendingPlan) (hstore : StoreOk s → StoreOk (s.setSelector v)) :
      Change s (s.setSelector v)
  | plan {t : State} (h : PlanMove s t) : Change s t
  | edit {t : State} (hopen : s.port.editLock = false) (h : EditMove s t) : Change s t
  | validated {k : Fin Config.inputCount} {v : Bool} (hfunc : s.inputs[k].func ≠ .corridorFree) :
      Change s (setValidated k v s)
  | corridorFree {k : Fin Config.inputCount} {v : Bool} (hfunc : s.inputs[k].func = .corridorFree) :
      Change s (corridorFreeChange s.corridorFree (setValidated k v s))
  | junction {j : Nat} {q q' : Junction} (hq : s.junctions[j]? = some q) (h : JunctionMove s j q q') :
      Change s (s.setJunctions (s.junctions.set j q'))
  | priorities {v : Vector (Slot Priority) Config.prioritySlots} (h : PriorityMove s v) : Change s (s.setPriorities v)
  | platoons {v : Vector (Slot Platoon) Config.platoonSlots} (h : PlatoonMove s v) : Change s (s.setPlatoons v)

/-- A chain of elementary changes. -/
abbrev Changes : State → State → Prop := Relation.ReflTransGen Change

theorem Change.changes {s t : State} (h : Change s t) : Changes s t := .single h

/-! ## Single changes as chains -/

theorem changes_latch {a : AlertSource} (ha : a.only &&& ~~~latchedSources = 0) (s : State) : Changes s (s.latch a) := by
  refine Change.changes (.outside ((frame_latch s a).mono (by simp)) id (fun h => ?_) id)
  rw [latch_eq, State.setAlerts_alerts, BitVec.and_or_distrib_right, h, ha]
  rfl

theorem changes_updateJunction {s : State} {j : Nat} {f : Junction → Junction}
    (h : ∀ q, s.junctions[j]? = some q → JunctionMove s j q (f q)) : Changes s (s.updateJunction j f) := by
  cases hq : s.junctions[j]? with
  | none =>
    have hsame : s.updateJunction j f = s := by
      rw [State.updateJunction, List.modify_eq_self (List.getElem?_eq_none_iff.mp hq)]
      rfl
    rw [hsame]
  | some q =>
    rw [updateJunction_of_get hq]
    exact Change.changes (.junction hq (h q hq))

theorem changes_updateJunction_const {s : State} {j : Nat} {q q' : Junction} (hq : s.junctions[j]? = some q)
    (h : JunctionMove s j q q') : Changes s (s.updateJunction j fun _ => q') := by
  rw [updateJunction_of_get hq]
  exact Change.changes (.junction hq h)

end Sys2Proof.Machine
end

section
/-! SUPPORT. The plan selector, the discrete inputs, the junction contexts and the green windows as chains of
elementary changes. -/

namespace Sys2Proof.Machine

open Sys2Proof.Safety

/-! ## The plan selector (R34 to R39, R52 to R55) -/

theorem forced_mem {s : State} {k p : Nat} (h : s.forced = some (k, p)) :
    ∃ m : Fin Config.inputCount, m.val = k ∧ s.inputs[m].forces = some p := by
  obtain ⟨m, -, hm⟩ := List.exists_of_findSome?_eq_some h
  obtain ⟨q, hq, heq⟩ := Option.map_eq_some_iff.mp hm
  obtain ⟨rfl, rfl⟩ := Prod.mk.inj heq
  exact ⟨m, rfl, hq⟩

theorem inputPlan_of_forces {i : Input} {p : Nat} (h : i.forces = some p) : inputPlan i.func = p := by
  unfold Input.forces at h
  split at h
  · next hfunc => split at h <;> simp_all [inputPlan]
  all_goals simp at h

theorem arbitrate_le {s : State} (h : StoreOk s) : s.arbitrate ≤ 8 := by
  unfold State.arbitrate
  split
  · next k p hforced =>
    obtain ⟨m, -, hm⟩ := forced_mem hforced
    exact inputPlan_of_forces hm ▸ h.forced m
  · split
    · exact h.hold
    · exact h.scheduled

theorem change_reform (s : State) : Change s (reform s) :=
  .numbers rfl rfl rfl fun h =>
    ⟨h.plans, h.schedule, h.scheduled, h.hold, arbitrate_le h, h.lastEntry, h.forced⟩

theorem change_setHold {p : Nat} (hp : p ≤ 8) (on : Bool) (s : State) : Change s (setHold on p s) :=
  .numbers rfl rfl rfl fun h => ⟨h.plans, h.schedule, h.scheduled, hp, h.requested, h.lastEntry, h.forced⟩

theorem change_unscheduled (s : State) : Change s (setScheduled 0 none s) :=
  .numbers rfl rfl rfl fun h => ⟨h.plans, h.schedule, Nat.zero_le _, h.hold, h.requested, nofun, h.forced⟩

theorem change_setScheduled (i : Fin Config.scheduleCount) (s : State) :
    Change s (setScheduled s.selector.schedule[i].plan (some i.val) s) :=
  .numbers rfl rfl rfl fun h =>
    ⟨h.plans, h.schedule, (h.schedule i).2.2, h.hold, h.requested, fun _ e => Option.some.inj e ▸ i.isLt, h.forced⟩

theorem activeNumber_of_none {s : State} (h : s.selector.active = none) : s.activeNumber = 0 := by
  simp [State.activeNumber, h]

theorem active_of_activeNumber_ne {s : State} {n : Nat} (h : n ≠ s.activeNumber) (h0 : n = 0) :
    s.selector.active.isSome = true :=
  Option.isSome_iff_ne_none.mpr fun hnone => h (h0.trans (activeNumber_of_none hnone).symm)

theorem changes_activate (n : Nat) (s : State) : Changes s (activate n s).2 := by
  rcases activate_cases n s with ⟨-, -, e⟩ | ⟨-, -, e⟩ | ⟨hn, h0, e⟩ | ⟨-, -, -, e⟩ | ⟨-, -, -, f, e, -⟩ |
    ⟨hn, h0, hclock, p, hrecord, hcheck, ⟨hactive, e⟩ | ⟨hactive, e⟩⟩ <;> rw [e]
  · exact Change.changes (.plan .cancelled)
  · exact Change.changes (.plan (.pends (h0 ▸ hn) (active_of_activeNumber_ne hn h0) (.inl rfl)))
  · exact Change.changes (.plan (.takes hactive hclock hrecord hcheck))
  · exact Change.changes (.plan (.pends hn hactive (.inr ⟨p, hrecord, hcheck⟩)))

theorem changes_activateUnanswered (n : Nat) (s : State) : Changes s (activateUnanswered n s) := by
  cases h : (activate n s).1.refused with
  | true =>
    rw [activateUnanswered_of_refused h]
    exact (changes_activate n s).trans (changes_latch rfl _)
  | false =>
    rw [activateUnanswered_of_accepted h]
    exact changes_activate n s

theorem changes_select (reconcile : Bool) (s : State) : Changes s (select reconcile s) := by
  rcases select_cases reconcile s with ⟨-, e⟩ | ⟨-, -, e⟩ <;> rw [e]
  · exact (change_reform s).changes.trans (changes_activateUnanswered _ _)
  · exact (change_reform s).changes

theorem changes_scheduleMatch (s : State) : Changes s (scheduleMatch s) := by
  unfold scheduleMatch
  split
  · next e i hfind =>
    have hmem := List.mem_of_find?_eq_some hfind
    obtain ⟨-, hi, he⟩ := List.mem_zipIdx hmem
    have hlt : i < Config.scheduleCount := by simpa using hi
    have hplan : e.plan = s.selector.schedule[(⟨i, hlt⟩ : Fin Config.scheduleCount)].plan := by simp [he]
    rw [hplan]
    exact (change_setScheduled ⟨i, hlt⟩ s).changes
  · exact .refl

theorem changes_catchUpSchedule (s : State) : Changes s (catchUpSchedule s) := by
  unfold catchUpSchedule
  split
  · split
    · next i plan hnearest =>
      rw [nearestEntry_eq] at hnearest
      obtain ⟨k, -, hk⟩ := mem_scheduleDistances.mp (best_mem hnearest)
      obtain ⟨rfl, rfl⟩ := Prod.mk.inj hk
      exact (change_setScheduled k s).changes
    · exact (change_unscheduled s).changes
  · exact (change_unscheduled s).changes

theorem changes_catchUp (s : State) : Changes s (catchUp s) :=
  (changes_catchUpSchedule s).trans (changes_select true _)

theorem changes_minuteMark (s : State) : Changes s (minuteMark s) :=
  (changes_scheduleMatch s).trans (changes_select false _)

theorem changes_takeBoundary (s : State) : Changes s (takeBoundary s) := by
  unfold takeBoundary
  split
  · exact .refl
  · next hpending => exact Change.changes (.plan (.plan0 hpending))
  · next k hpending =>
    split
    · next p hrecord => exact Change.changes (.plan (.boundary hpending (Nat.succ_ne_zero k) hrecord))
    · exact Change.changes (.plan .cancelled)

theorem changes_ownActivatePlan (p : Nat) (s : State) : Changes s (ownActivatePlan p s).2 := by
  by_cases hp : 8 < p
  · rw [ownActivatePlan_of_outOfRange hp]
    exact .refl
  · have hle : p ≤ 8 := by omega
    unfold ownActivatePlan
    rw [if_neg hp]
    split
    · exact (change_setHold hle true s).changes.trans (change_reform _).changes
    · dsimp only
      split
      · exact changes_activate p s
      · exact (changes_activate p s).trans
          ((change_setHold hle true _).changes.trans (change_reform _).changes)

theorem changes_ownResumeSchedule (s : State) : Changes s (ownResumeSchedule () s).2 :=
  (change_setHold (Nat.zero_le 8) false s).changes.trans (changes_catchUp _)

/-! ## The discrete inputs (R145, R146) -/

theorem changes_changeInput (k : Fin Config.inputCount) (v : Bool) (s : State) : Changes s (changeInput k v s) := by
  cases hfunc : s.inputs[k].func with
  | none =>
    rw [changeInput_of_free (.inl hfunc)]
    exact Change.changes (.validated (by rw [hfunc]; nofun))
  | editEnable =>
    rw [changeInput_of_free (.inr hfunc)]
    exact Change.changes (.validated (by rw [hfunc]; nofun))
  | corridorFree =>
    rw [changeInput_of_corridorFree hfunc]
    exact Change.changes (.corridorFree hfunc)
  | planForce p =>
    have hvalidated : Changes s (setValidated k v s) := Change.changes (.validated (by rw [hfunc]; nofun))
    cases v with
    | true =>
      rw [changeInput_of_asserted hfunc]
      exact hvalidated.trans (changes_select false _)
    | false =>
      rw [changeInput_of_released hfunc]
      exact hvalidated.trans (changes_catchUp _)

theorem changes_releaseInput (k : Fin Config.inputCount) (s : State) : Changes s (releaseInput k s) := by
  unfold releaseInput
  split
  · exact changes_changeInput k false s
  · exact .refl

theorem releaseInput_released (k : Fin Config.inputCount) (s : State) :
    (releaseInput k s).inputs[k].validated = false := by
  unfold releaseInput
  split
  · simp only [changeInput_inputs, setValidated_get_self]
  · next h => simpa using h

theorem inputFunction?_plan {n plan : Nat} {f : InputFunction} (h : inputFunction? n plan = some f)
    (hplan : plan ≤ 8) : inputPlan f ≤ 8 := by
  unfold inputFunction? at h
  split_ifs at h <;> cases h <;> simp [inputPlan, hplan]

theorem frame_changeInput (k : Fin Config.inputCount) (v : Bool) (s : State) :
    Frame [.inputs, .selector, .junctions, .latched] s (changeInput k v s) := by
  have hvalidated : Frame [.inputs, .selector, .junctions, .latched] s (setValidated k v s) :=
    (frame_setValidated k v s).mono (by simp)
  cases hfunc : s.inputs[k].func with
  | none => rwa [changeInput_of_free (.inl hfunc)]
  | editEnable => rwa [changeInput_of_free (.inr hfunc)]
  | corridorFree =>
    obtain ⟨f, -, hmap⟩ := corridorFreeChange_eq_map s.corridorFree (setValidated k v s)
    rw [changeInput_of_corridorFree hfunc, hmap]
    exact hvalidated.trans ((frame_setJunctions _ _).mono (by simp))
  | planForce p => exact hvalidated.trans ((frame_changeInput_of_planForce hfunc v).mono (by simp))

theorem frame_releaseInput (k : Fin Config.inputCount) (s : State) :
    Frame [.inputs, .selector, .junctions, .latched] s (releaseInput k s) := by
  unfold releaseInput
  split
  · exact frame_changeInput k false s
  · exact .refl _ _

theorem changes_ownSetInput (q : InputFields) (s : State) (hopen : s.port.editLock = false) :
    Changes s (ownSetInput q s).2 := by
  unfold ownSetInput
  split
  · next k f p hk hconfig =>
    have hplan : inputPlan f ≤ 8 := by
      unfold InputFields.config at hconfig
      split at hconfig
      · next hrange =>
        split at hconfig
        · next hfunc hpol =>
          simp only [Option.some.injEq, Prod.mk.injEq] at hconfig
          obtain ⟨rfl, rfl⟩ := hconfig
          simp only [Bool.and_eq_true, decide_eq_true_eq] at hrange
          exact inputFunction?_plan hfunc hrange.1.1
        · simp at hconfig
      · simp at hconfig
    exact (changes_releaseInput k s).trans
      (Change.changes (.edit ((frame_releaseInput k s .editLock (by simp)).trans hopen) (.input hplan (releaseInput_released k s))))
  · exact .refl

/-! ## The junction contexts (R70, R77, R91, R92, R139 to R142) -/

theorem changes_ownResyncJunction (j : Nat) (s : State) : Changes s (ownResyncJunction j s).2 := by
  cases hq : s.junctions[j]? with
  | none => rw [ownResyncJunction_of_unconfigured hq]; exact .refl
  | some q =>
    by_cases hstate : q.state = .free .fault
    · rw [ownResyncJunction_of_faulted hq hstate]
      exact Change.changes (.junction hq (.resync hstate))
    · rw [ownResyncJunction_of_standing hq hstate]; exact .refl

theorem changes_ownSpillback (f : SpillbackFields) (s : State) : Changes s (ownSpillback f s).2 := by
  unfold ownSpillback
  split
  · next d on hd hon =>
    split
    · exact .refl
    · exact changes_updateJunction fun q _ => .spill d _
  · exact .refl

theorem changes_ownPreemptBegin (j : Nat) (s : State) : Changes s (ownPreemptBegin j s).2 := by
  unfold ownPreemptBegin
  split
  · exact .refl
  · next q hq => exact changes_updateJunction_const hq .begins

theorem changes_ownPreemptEnd (j : Nat) (s : State) : Changes s (ownPreemptEnd j s).2 := by
  unfold ownPreemptEnd
  split
  · exact .refl
  · next q hq =>
    split
    · exact changes_updateJunction_const hq .ends
    · exact .refl

theorem changes_preemptTimeout (j : Nat) (s : State) : Changes s (preemptTimeout j s) :=
  (changes_updateJunction fun _ _ => .ends).trans (changes_latch rfl _)

theorem changes_expireSpill (j : Nat) (d : Direction) (s : State) : Changes s (expireSpill j d s) :=
  changes_updateJunction fun _ _ => .spill d none

theorem changes_book (j : Nat) (s : State) : Changes s (book j s) := by
  rcases book_cases j s with ⟨-, e⟩ | ⟨a, p, q, hplan, hq, e⟩ <;> rw [e]
  have hbooked : Changes s (s.updateJunction j fun _ => bookJunction s.now p j (driftOfJunction a p j) q) :=
    changes_updateJunction_const hq (.books hplan)
  split
  · exact hbooked.trans (changes_latch rfl _)
  · exact hbooked

/-! ## The green windows (R83 to R96) -/

theorem later_cases (a b : Ct) : later a b = a ∨ later a b = b := by
  unfold later
  split <;> simp

theorem foldl_later_mem (t : Ct) (ts : List Ct) : ts.foldl later t ∈ t :: ts := by
  induction ts generalizing t with
  | nil => simp
  | cons u us ih =>
    have hmem := ih (later t u)
    rw [List.foldl_cons]
    rcases later_cases t u with h | h <;> rw [h] at hmem ⊢ <;> simp only [List.mem_cons] at hmem ⊢ <;> tauto

theorem before_iff {a b : Ct} : before a b = true ↔ 1 ≤ ahead a b ∧ ahead a b ≤ 2147483647 := by
  simp [before]

theorem atOrBefore_iff {a b : Ct} : atOrBefore a b = true ↔ ahead a b ≤ 2147483647 := by
  simp [atOrBefore]

/-- A time after now that lies no later than a limit ahead lies within that many deciseconds. -/
theorem ahead_le_of_atOrBefore {now t : Ct} {n : Nat} (hn : n ≤ 300) (hafter : before now t = true)
    (hlimit : atOrBefore t (plus now n) = true) : ahead now t ≤ n := by
  rw [before_iff] at hafter
  rw [atOrBefore_iff] at hlimit
  simp only [ahead, plus] at *
  bv_omega

theorem ahead_earlier_le {now t : Ct} {n : Nat} (hn : n ≤ 300) (hafter : before now t = true) :
    ahead now (earlier t (plus now n)) ≤ n := by
  unfold earlier
  split
  · rw [ahead_add _ _ (by omega)]
  · next hbefore =>
    rw [before_iff] at hafter hbefore
    simp only [ahead, plus] at *
    bv_omega

/-- Every target of a check lies within the remaining reach (R84, R85). -/
theorem targets_within_reach {v : CheckView} {s : State} {t : Ct} (hmax : v.cycle.held.xMax ≤ 300)
    (ht : t ∈ v.targets s) : ahead v.now t ≤ v.reach := by
  have hreach : v.reach ≤ 300 := (Nat.sub_le _ _).trans hmax
  simp only [CheckView.targets, List.mem_append, List.mem_map, List.mem_filter] at ht
  rcases ht with ⟨⟨k, p⟩, ⟨-, hp⟩, rfl⟩ | ⟨⟨k, r⟩, ⟨-, hr⟩, rfl⟩
  · simp only [CheckView.platoonCandidate, Bool.and_eq_true] at hp
    exact ahead_earlier_le hreach hp.2
  · simp only [CheckView.priorityCandidate, Bool.and_eq_true] at hr
    exact ahead_le_of_atOrBefore hreach hr.1.2 hr.2

/-- The new end of an early green shortens the cycle by no more than is left of E_max (R95, R96). -/
theorem ahead_earlyEnd_le {start : Ct} {c : Cycle} {smin : Nat} {now eta : Ct} (hmax : c.held.eMax ≤ 300)
    (hbefore : before (earlyEnd start c smin now eta) (plus start c.lc) = true) :
    ahead (earlyEnd start c smin now eta) (plus start c.lc) ≤ c.held.eMax - c.y := by
  have hroom : c.held.eMax - c.y ≤ 300 := (Nat.sub_le _ _).trans hmax
  unfold earlyEnd at hbefore ⊢
  generalize plus start c.lc = stop at *
  generalize later (later (plus c.greenEnd smin) (minus eta c.held.m)) now = x at *
  generalize c.held.eMax - c.y = room at *
  unfold later at hbefore ⊢
  split
  · simp only [ahead, minus]
    bv_omega
  · next h =>
    rw [if_neg h, before_iff] at hbefore
    rw [before_iff] at h
    simp only [ahead, minus] at *
    bv_omega

theorem cycle?_setCycle {q : Junction} {w : Window} (hw : q.state.window? = some w) (c : Cycle) :
    (q.setCycle c).cycle? = some c := by
  unfold Junction.setCycle
  rw [hw]
  cases hstate : q.state <;> simp_all [Coordination.window?, Junction.cycle?, Coordination.setWindow]

theorem window_of_cycle {q : Junction} {c : Cycle} (hc : q.cycle? = some c) :
    ∃ w, q.state.window? = some w ∧ w.cycle = some c :=
  Option.bind_eq_some_iff.mp hc

/-- A green window given another cycle and then the grant of that cycle (R88, R96, R98). -/
theorem changes_granted {s : State} {j : Nat} {q : Junction} {w : Window} {c : Cycle}
    (hq : s.junctions[j]? = some q) (hw : q.state.window? = some w) (h : JunctionMove s j q (q.setCycle c)) :
    Changes s (s.updateJunction j fun _ => (q.setCycle c).grantWith c.held.r) := by
  have hset : (s.junctions.set j (q.setCycle c))[j]? = some (q.setCycle c) :=
    List.getElem?_set_self (List.getElem?_eq_some_iff.mp hq).1
  have hgrant : Change (s.setJunctions (s.junctions.set j (q.setCycle c)))
      (s.setJunctions ((s.junctions.set j (q.setCycle c)).set j ((q.setCycle c).grantWith c.held.r))) :=
    .junction hset (.grants (cycle?_setCycle hw c))
  rw [List.set_set] at hgrant
  rw [updateJunction_of_get hq]
  exact (Change.changes (.junction hq h)).trans hgrant.changes

theorem changes_grantEarly {j : Nat} {q : Junction} {w : Window} {c : Cycle} {k : Fin Config.prioritySlots}
    {r : Priority} {newEnd : Ct} {s : State} (hq : s.junctions[j]? = some q) (hw : q.state.window? = some w)
    (hc : q.cycle? = some c) (hlive : s.priorities[k].live = some r)
    (hroom : c.held.eMax ≤ 300 → ahead newEnd (plus w.start c.lc) ≤ c.held.eMax - c.y) :
    Changes s (grantEarly j q w c k r newEnd s) :=
  (changes_granted hq hw (.shortens hw hc hroom)).tail (.priorities (.rewritten hlive rfl rfl))

theorem earliestLate_live {j : Nat} {s : State} {k : Fin Config.prioritySlots} {r : Priority}
    (h : earliestLate j s = some (k, r)) : s.priorities[k].live = some r :=
  mem_lives.mp (List.mem_of_mem_filter (best_mem h))

theorem changes_evaluateEarly (j : Nat) (s : State) : Changes s (evaluateEarly j s) := by
  rcases evaluateEarly_cases j s with e | ⟨q, w, c, k, r, hq, hw, hc, -, hlate, hbefore, e⟩ <;> rw [e]
  exact changes_grantEarly hq hw hc (earliestLate_live hlate) fun hmax => ahead_earlyEnd_le hmax hbefore

theorem changes_greenEnd (j : Nat) (s : State) : Changes s (greenEnd j s) := by
  unfold greenEnd
  split
  · exact .refl
  · next q hq =>
    split
    · next w c hw hc =>
      have hclose : Changes s (closeGreen ⟨j, q, s.attributes j, c, s.now⟩ s) :=
        (changes_updateJunction_const hq (.closes hc)).trans (changes_evaluateEarly j _)
      unfold checkGreen
      split
      · exact hclose
      · next t ts htargets =>
        split
        · exact hclose
        · have hmove : JunctionMove s j q (q.setCycle (extendCycle w.start q.smin s.now (ts.foldl later t) c)) :=
            .stretches hw hc fun hmax => targets_within_reach hmax (htargets ▸ foldl_later_mem t ts)
          refine Relation.ReflTransGen.tail ?_ (.priorities (.granted _ _ _))
          split
          · exact changes_granted hq hw hmove
          · exact changes_updateJunction_const hq hmove
    · exact .refl

end Sys2Proof.Machine
end

section
/-! SUPPORT. The edit requests, the day clock, the priority list and the platoon table as chains of elementary
changes. -/

namespace Sys2Proof.Machine

open Sys2Proof.Safety

/-! ## The edit requests (R17, R22, R26, R32, R50) -/

theorem settings_inRange {q : CorridorFields} {v : Settings} (h : q.settings = some v) :
    SettingsInRange v ∧ (q.n = 0 ∨ (2 ≤ q.n ∧ q.n ≤ 24)) := by
  unfold CorridorFields.settings at h
  split at h
  · simp at h
  · split at h
    · next hrange =>
      cases h
      simp only [Bool.and_eq_true, decide_eq_true_eq, nInRange, Bool.or_eq_true, beq_iff_eq, Config.maxJunctions] at hrange
      simp only [SettingsInRange]
      omega
    · simp at h

theorem changes_ownSetCorridor (q : CorridorFields) {s : State} (hopen : s.port.editLock = false) :
    Changes s (ownSetCorridor q s).2 := by
  unfold ownSetCorridor
  split
  · exact .refl
  · next hactive =>
    split
    · exact .refl
    · next v hv =>
      split
      · exact .refl
      · obtain ⟨hrange, hn⟩ := settings_inRange hv
        exact Change.changes (.edit hopen (.corridor (by simpa using hactive) hn hrange))

theorem changes_ownSetJunction (q : JunctionFields) {s : State} (hopen : s.port.editLock = false) :
    Changes s (ownSetJunction q s).2 := by
  unfold ownSetJunction
  split
  · exact .refl
  · next hplans =>
    split
    · exact .refl
    · split
      · next hsmin =>
        split
        · exact .refl
        · next link hlink =>
          simp only [Bool.or_eq_true, not_or, Bool.not_eq_true, Option.isSome_eq_false_iff,
            Option.isNone_iff_eq_none] at hplans
          simp only [Bool.and_eq_true, decide_eq_true_eq] at hsmin
          exact Change.changes (.edit hopen (.junction hplans.1 hplans.2 hsmin.1 hsmin.2 hlink))
      · exact .refl

theorem groupEntry_inRange {q : GroupFields} {g : GroupRange} (h : q.entry = some g) : GroupInRange g := by
  unfold GroupFields.entry at h
  split at h
  · simp at h
  · split at h
    · next hrange =>
      simp only [Bool.and_eq_true, decide_eq_true_eq] at hrange
      cases h
      split
      · exact ⟨by simp, by simp, fun _ => rfl⟩
      · next hcount => exact ⟨hrange.1.1, hrange.2, fun h => absurd h hcount⟩
    · simp at h

theorem changes_ownSetGroup (q : GroupFields) {s : State} (hopen : s.port.editLock = false) :
    Changes s (ownSetGroup q s).2 := by
  unfold ownSetGroup
  split
  · next k g hk hg => exact Change.changes (.edit hopen (.group (groupEntry_inRange hg)))
  · exact .refl

theorem planIndex_eq_some {n : Nat} {k : Fin Config.planCount} : planIndex n = some k ↔ n = k.val + 1 := by
  unfold planIndex
  split
  · simp only [reduceCtorEq, false_iff]; omega
  · rw [index?_eq_some]; omega

theorem changes_ownSetPlan (q : Nat × Plan) {s : State} (hopen : s.port.editLock = false) :
    Changes s (ownSetPlan q s).2 := by
  unfold ownSetPlan
  split
  · exact .refl
  · next k hk =>
    rw [planIndex_eq_some.mp hk]
    split
    · exact .refl
    · next hfree =>
      split
      · next hrange =>
        simp only [Bool.or_eq_true, decide_eq_true_eq, not_or] at hfree
        exact Change.changes (.edit hopen (.plan hrange hfree.1 hfree.2))
      · exact .refl

theorem scheduleEntry_inRange {q : ScheduleFields} {e : ScheduleEntry} (h : q.entry = some e) : EntryInRange e := by
  unfold ScheduleFields.entry at h
  split at h
  · split at h
    · next hrange =>
      cases h
      simp only [Bool.and_eq_true, decide_eq_true_eq] at hrange
      exact ⟨hrange.1.1, hrange.1.2, hrange.2⟩
    · simp at h
  · simp at h

theorem changes_ownSetScheduleEntry (q : ScheduleFields) {s : State} (hopen : s.port.editLock = false) :
    Changes s (ownSetScheduleEntry q s).2 := by
  unfold ownSetScheduleEntry
  split
  · next k e hk he => exact Change.changes (.edit hopen (.entry (scheduleEntry_inRange he)))
  · exact .refl

/-! ## The day clock (R4, R5, R7 to R11) -/

/-- A SYNC pulse steps the clock by `d`: the clock is valid, off the minute, and within Ts of it (R8, R9). -/
structure ClockSteps (d : Int) (s : State) : Prop where
  valid : s.time.clock.valid = true
  step : d = syncStep s.time.clock.minutePosition
  nonzero : d ≠ 0

/-- A clock that SET CLOCK can carry: valid and in range (R4, R5). -/
def Settable (k : DayClock) : Prop := k.valid = true ∧ ClockInRange k

theorem clock_settable {q : ClockFields} {k : DayClock} (h : q.clock = some k) : Settable k := by
  unfold ClockFields.clock at h
  split at h
  · split at h
    · next hrange =>
      cases h
      simp only [Bool.and_eq_true, decide_eq_true_eq] at hrange
      exact ⟨rfl, by simp only [ClockInRange]; omega⟩
    · simp at h
  · simp at h

/-- A rising edge makes elementary changes, after which it may step the clock. -/
theorem takeEdge_changes (s : State) :
    Changes s (takeEdge s) ∨ ∃ u d, Changes s u ∧ ClockSteps d u ∧ takeEdge s = applyStep d u := by
  have hsampled : Changes s (s.setTime { s.time with syncHeld := .high, edgeDue := false }) :=
    Change.changes (.flags rfl rfl .inl)
  unfold takeEdge
  dsimp only
  split
  · have hpulse := hsampled.tail (.flags (v := { s.time with
      syncHeld := .high, edgeDue := false, lastPulse := s.now, syncLost := false }) rfl rfl (by simp))
    split
    · next hvalid =>
      unfold pullClock
      dsimp only
      split
      · exact .inl hpulse
      · next hzero =>
        split
        · exact .inl (hpulse.trans (changes_latch rfl _))
        · exact .inr ⟨_, _, hpulse, ⟨hvalid, rfl, hzero⟩, rfl⟩
    · exact .inl hpulse
  · exact .inl hsampled

/-! ## The priority list (R128 to R138) -/

theorem changes_placedPriority {s : State} {k : Fin Config.prioritySlots} {r : Priority}
    (hempty : s.priorities[k].live = none) (hactive : s.selector.active.isSome = true) (hrange : PriorityInRange s.n r)
    (hnew : ∀ e ∈ s.livePriorities, e.2.tag = r.tag → e.2.junction ≠ r.junction) :
    Changes s (createPriority k r s) :=
  Change.changes (.priorities (.placed hempty hactive hrange hnew))

theorem checkInReply_state (reason : Reason) (k : Fin Config.prioritySlots) (extra : List Byte) (q : CheckIn)
    (t : State) : (checkInReply reason k extra q t).2 = t := by
  unfold checkInReply
  split <;> rfl

theorem changes_afterCheckIn (q : CheckIn) (s : State) : Changes s (afterCheckIn q s) := by
  unfold afterCheckIn
  split
  · exact changes_evaluateEarly q.j s
  · exact .refl

theorem recordOf_eq_some {tag j : Nat} {s : State} {k : Fin Config.prioritySlots} {r : Priority}
    (h : recordOf tag j s = some (k, r)) : s.priorities[k].live = some r ∧ r.tag = tag ∧ r.junction = j := by
  have hlive := mem_lives.mp (List.mem_of_find?_eq_some h)
  have htest := List.find?_some h
  simp only [Bool.and_eq_true, beq_iff_eq] at htest
  exact ⟨hlive, htest.1, htest.2⟩

theorem recordOf_eq_none {tag j : Nat} {s : State} (h : recordOf tag j s = none) :
    ∀ e ∈ s.livePriorities, e.2.tag = tag → e.2.junction ≠ j := by
  intro e he htag hj
  have htest := List.find?_eq_none.mp h e he
  simp [htag, hj] at htest

theorem changes_checkInCreate {q : CheckIn} {s : State} (hactive : s.selector.active.isSome = true)
    (hrange : PriorityInRange s.n (newPriority q s.settings.lm)) (hnone : recordOf q.tag q.j s = none) :
    Changes s (checkInCreate q s).2 := by
  have hnew := recordOf_eq_none hnone
  unfold checkInCreate
  split
  · next k hk =>
    rw [checkInReply_state]
    exact (changes_placedPriority (lowestEmpty_live hk) hactive hrange hnew).trans (changes_afterCheckIn q _)
  · split
    · next k _ _ _ =>
      rw [checkInReply_state]
      have hevicted : Change s (s.setPriorities (retireAt s.priorities k .evicted s.now)) := .priorities (.retired k _)
      refine (hevicted.changes.trans (changes_placedPriority ?_ hactive hrange ?_)).trans (changes_afterCheckIn q _)
      · rw [State.setPriorities_priorities, retireAt_get, if_pos rfl]
        exact (Slot.retire_spec _ _ _).1
      · rintro ⟨i, r⟩ he
        have hlive := mem_lives.mp he
        rw [State.setPriorities_priorities, retireAt_get] at hlive
        split at hlive
        · rw [(Slot.retire_spec _ _ _).1] at hlive
          simp at hlive
        · exact hnew (i, r) (mem_lives.mpr hlive)
    all_goals exact .refl

theorem changes_checkIn {q : CheckIn} {s : State} (hactive : s.selector.active.isSome = true)
    (hrange : PriorityInRange s.n (newPriority q s.settings.lm)) : Changes s (checkIn q s).2 := by
  unfold checkIn
  split
  · next k r hrecord =>
    rw [checkInReply_state]
    have hupdated : Change s (s.setPriorities (rewrite s.priorities k (updatePriority q s.settings.lm r))) :=
      .priorities (.rewritten (recordOf_eq_some hrecord).1 rfl rfl)
    exact hupdated.changes.trans (changes_afterCheckIn q _)
  · next hnone => exact changes_checkInCreate hactive hrange hnone

theorem changes_ownCheckIn {q : CheckInFields} (htag : q.tag ≤ 65535) (s : State) : Changes s (ownCheckIn q s).2 := by
  unfold ownCheckIn
  split
  · exact .refl
  · next hactive =>
    split
    · split
      · exact .refl
      · next hzero =>
        split
        · exact .refl
        · next hj =>
          split
          · exact .refl
          · exact changes_checkIn (by simpa [Option.isSome_iff_ne_none] using hactive)
              ⟨Nat.pos_of_ne_zero hzero, htag, Nat.lt_of_not_le hj⟩
    · exact .refl

theorem changes_retiredPriority (k : Fin Config.prioritySlots) (cause : RetireCause) (s : State) :
    Changes s (s.setPriorities (retireAt s.priorities k cause s.now)) :=
  Change.changes (.priorities (.retired k cause))

theorem changes_ownCheckOut (q : CheckOutForm) (s : State) : Changes s (ownCheckOut q s).2 := by
  unfold ownCheckOut
  split
  · split
    · exact .refl
    · exact .refl
    · next k r _ => exact changes_retiredPriority k _ s
  · split
    · exact .refl
    · split
      · exact .refl
      · split
        · next k r _ => exact changes_retiredPriority k _ s
        · exact .refl

theorem changes_expirePriority (k : Fin Config.prioritySlots) (s : State) : Changes s (expirePriority k s) := by
  unfold expirePriority
  dsimp only
  split
  · split
    · exact (changes_retiredPriority k _ s).trans (changes_latch rfl _)
    · exact changes_retiredPriority k _ s
  · exact changes_retiredPriority k _ s

theorem changes_ownClearRecords (s : State) : Changes s (ownClearRecords () s).2 :=
  (Change.changes (.platoons .cleared)).tail (.priorities .cleared)

end Sys2Proof.Machine
end

section
/-! SUPPORT. The platoon table as a chain of elementary changes: what a merge partner is, and why no merge, no new
record and no passage brings two heads closer than Gm (R111, R119). -/

namespace Sys2Proof.Machine

open Sys2Proof.Safety

/-! ## The best of a list -/

/-- Where the comparison is that of a key, no element of the list has a smaller key than its best. -/
theorem best_least {α : Type} {beats : α → α → Bool} {key : α → Nat} {l : List α} {x : α}
    (h : best beats l = some x) (hkey : ∀ a ∈ l, ∀ b ∈ l, beats a b = true ↔ key a < key b) :
    ∀ y ∈ l, key x ≤ key y := by
  cases l with
  | nil => simp
  | cons b l =>
    obtain rfl := Option.some.inj h
    clear h
    induction l generalizing b with
    | nil => simp
    | cons z l ih =>
      rw [List.foldl_cons]
      have hzb := hkey z (by simp) b (by simp)
      by_cases hbeats : beats z b = true
      · rw [if_pos hbeats]
        have hleast := ih z fun a ha c hc => hkey a (List.mem_cons_of_mem _ ha) c (List.mem_cons_of_mem _ hc)
        intro y hy
        rcases List.mem_cons.mp hy with rfl | hy
        · exact (hleast z (by simp)).trans (hzb.mp hbeats).le
        · exact hleast y hy
      · rw [if_neg hbeats]
        have hsub : b :: l ⊆ b :: z :: l := List.cons_subset_cons _ (List.subset_cons_self _ _)
        have hleast := ih b fun a ha c hc => hkey a (hsub ha) c (hsub hc)
        intro y hy
        rcases List.mem_cons.mp hy with rfl | hy
        · exact hleast y (by simp)
        · rcases List.mem_cons.mp hy with rfl | hy
          · exact (hleast b (by simp)).trans (Nat.le_of_not_lt fun hlt => hbeats (hzb.mpr hlt))
          · exact hleast y (List.mem_cons_of_mem _ hy)

/-! ## Partners (R111) -/

theorem isPartner_iff {gm : Nat} {formed r : Platoon} :
    isPartner gm formed r = true ↔ r.dir = formed.dir ∧ r.cur = formed.cur ∧ apart r.head formed.head < gm := by
  simp [isPartner, and_assoc]

/-- How far a time lies after the point 300 ds before another; a key for times within 300 ds of that other. -/
def nearKey (f t : Ct) : Nat := ahead (minus f 300) t

/-- Durations between two times, counted from a third (R2). -/
theorem ahead_from (f a b : Ct) : ahead a b = (ahead f b + (4294967296 - ahead f a)) % 4294967296 := by
  simp only [ahead]
  bv_omega

theorem ahead_lt (a b : Ct) : ahead a b < 4294967296 := (b - a).isLt

theorem nearKey_eq (f t : Ct) : nearKey f t = (ahead f t + 300) % 4294967296 := by
  simp only [nearKey, ahead, minus]
  bv_omega

theorem apart_from (f t : Ct) : apart t f = min ((4294967296 - ahead f t) % 4294967296) (ahead f t) := by
  rw [apart, ahead_from f t f, ahead_self, Nat.zero_add]

theorem nearKey_lt_iff {f a b : Ct} (ha : apart a f < 300) (hb : apart b f < 300) :
    before a b = true ↔ nearKey f a < nearKey f b := by
  rw [before_iff, ahead_from f a b, nearKey_eq, nearKey_eq]
  rw [apart_from] at ha hb
  have hla := ahead_lt f a
  have hlb := ahead_lt f b
  omega

/-- The merge partner is live, is a partner, and has the earliest head of all partners. -/
theorem mergePartner_spec {gm : Nat} {formed partner : Platoon} {skip : Option (Fin Config.platoonSlots)}
    {v : Vector (Slot Platoon) Config.platoonSlots} {m : Fin Config.platoonSlots} (hgm : gm ≤ 300)
    (h : mergePartner gm formed skip v = some (m, partner)) :
    ∀ e ∈ lives v, skip ≠ some e.1 → isPartner gm formed e.2 = true →
      nearKey formed.head partner.head ≤ nearKey formed.head e.2.head := by
  intro e he hskip hpartner
  refine best_least (key := fun e => nearKey formed.head e.2.head) h (fun a ha b hb => ?_) e
    (List.mem_filter.mpr ⟨he, by simp [hpartner, hskip]⟩)
  have hnear : ∀ c ∈ (lives v).filter (fun r => isPartner gm formed r.2 && skip != some r.1),
      apart c.2.head formed.head < 300 := fun c hc => by
    have hc := (Bool.and_eq_true_iff.mp (List.mem_filter.mp hc).2).1
    exact (isPartner_iff.mp hc).2.2.trans_le hgm
  exact nearKey_lt_iff (hnear a ha) (hnear b hb)

theorem mergePartner_mem {gm : Nat} {formed partner : Platoon} {skip : Option (Fin Config.platoonSlots)}
    {v : Vector (Slot Platoon) Config.platoonSlots} {m : Fin Config.platoonSlots}
    (h : mergePartner gm formed skip v = some (m, partner)) :
    v[m].live = some partner ∧ isPartner gm formed partner = true ∧ skip ≠ some m := by
  obtain ⟨hlive, htest⟩ := List.mem_filter.mp (best_mem h)
  simp only [Bool.and_eq_true, bne_iff_ne] at htest
  exact ⟨mem_lives.mp hlive, htest⟩

theorem not_isPartner_of_none {gm : Nat} {formed : Platoon} {skip : Option (Fin Config.platoonSlots)}
    {v : Vector (Slot Platoon) Config.platoonSlots} (h : mergePartner gm formed skip v = none) :
    ∀ e ∈ lives v, skip ≠ some e.1 → isPartner gm formed e.2 = false := by
  intro e he hskip
  unfold mergePartner at h
  cases hfilter : (lives v).filter fun r => isPartner gm formed r.2 && skip != some r.1 with
  | nil =>
    have hnot := List.filter_eq_nil_iff.mp hfilter e he
    simpa [hskip] using hnot
  | cons x xs => rw [hfilter] at h; simp [best] at h

/-- A record that has no partner is clear of every other. -/
theorem le_apart_of_not_isPartner {gm : Nat} {formed r : Platoon} (h : isPartner gm formed r = false)
    (hdir : r.dir = formed.dir) (hcur : r.cur = formed.cur) : gm ≤ apart r.head formed.head := by
  by_contra hlt
  have htrue := isPartner_iff.mpr ⟨hdir, hcur, Nat.lt_of_not_le hlt⟩
  simp [h] at htrue

/-- A formed head that lies before its earliest partner is clear of what that partner is clear of. -/
theorem le_apart_formed {gm : Nat} {f p e : Ct} (hgm : gm ≤ 300) (hfirst : before f p = true)
    (hnear : apart e f < gm → nearKey f p ≤ nearKey f e) (hclear : gm ≤ apart e p) : gm ≤ apart e f := by
  by_contra hlt
  have hfirstKey := hnear (Nat.lt_of_not_le hlt)
  rw [nearKey_eq, nearKey_eq] at hfirstKey
  rw [before_iff] at hfirst
  rw [apart, ahead_from f e p, ahead_from f p e] at hclear
  rw [apart_from] at hlt
  have hlp := ahead_lt f p
  have hle := ahead_lt f e
  omega

/-- A merge keeps the partner clear of every other record (R111). -/
theorem headClear_mergeInto {s : State} {m : Fin Config.platoonSlots} {partner formed : Platoon}
    (hapart : PlatoonsApart s) (hlive : s.platoons[m].live = some partner)
    (hpartner : isPartner s.settings.gm formed partner = true)
    (hfirst : ∀ e ∈ s.livePlatoons, isPartner s.settings.gm formed e.2 = true →
      nearKey formed.head partner.head ≤ nearKey formed.head e.2.head) :
    HeadClear s m (mergeInto partner formed) := by
  intro e he hne hdir hcur
  have hclear := hapart.apart e he (m, partner) (mem_lives.mpr hlive) hne hdir hcur
  obtain ⟨hpdir, hpcur, -⟩ := isPartner_iff.mp hpartner
  show _ ≤ apart e.2.head (earlier partner.head formed.head)
  unfold earlier
  split
  · next hbefore =>
    exact le_apart_formed hapart.gap hbefore
      (fun hlt => hfirst e he (isPartner_iff.mpr ⟨hdir.trans hpdir, hcur.trans hpcur, hlt⟩)) hclear
  · exact hclear

theorem platoonInRange_mergeInto {n dl : Nat} {partner formed : Platoon} (h : PlatoonInRange n dl partner)
    (hspread : ¬ dl < (mergeInto partner formed).spread) : PlatoonInRange n dl (mergeInto partner formed) := by
  obtain ⟨hcur, horigin, -, hlow, hhigh, hlinks⟩ := h
  refine ⟨hcur, horigin, Nat.le_of_not_lt hspread, ?_, Nat.min_le_left _ _, hlinks⟩
  show 1 ≤ min 99 (partner.count + formed.count)
  omega

/-! ## PLATOON SEEN (R107 to R114) -/

section
variable {formed : Platoon} {c : Clamps} {s : State}

theorem changes_createPlatoon {k : Fin Config.platoonSlots} (hempty : s.platoons[k].live = none)
    (hactive : s.selector.active.isSome = true) (hrange : 2 ≤ s.n → PlatoonInRange s.n s.settings.dl formed)
    (halone : ∀ e ∈ s.livePlatoons, isPartner s.settings.gm formed e.2 = false) :
    Changes s (createPlatoon k formed s) :=
  Change.changes (.platoons (.placed hempty hactive hrange fun e he _ hdir hcur =>
    le_apart_of_not_isPartner (halone e he) hdir hcur))

theorem changes_retiredPlatoon (k : Fin Config.platoonSlots) (cause : RetireCause) (s : State) :
    Changes s (s.setPlatoons (retireAt s.platoons k cause s.now)) :=
  Change.changes (.platoons (.retired k cause))

/-- Retiring one record leaves the others live, and no more. -/
theorem mem_lives_retireAt {α : Type} {n : Nat} {v : Vector (Slot α) n} {k i : Fin n} {cause : RetireCause} {now : Ct}
    {r : α} (h : (i, r) ∈ lives (retireAt v k cause now)) : i ≠ k ∧ (i, r) ∈ lives v := by
  have hlive := mem_lives.mp h
  rw [retireAt_get] at hlive
  split at hlive
  · rw [(Slot.retire_spec _ _ _).1] at hlive
    simp at hlive
  · next hne => exact ⟨hne, mem_lives.mpr hlive⟩

theorem changes_seenMerge {k : Fin Config.platoonSlots} {partner : Platoon}
    (hmerge : mergePartner s.settings.gm formed none s.platoons = some (k, partner)) :
    Changes s (seenMerge s.settings.dl k partner formed c s).2 := by
  obtain ⟨hlive, hpartner, -⟩ := mergePartner_mem hmerge
  unfold seenMerge
  dsimp only
  split
  · exact changes_retiredPlatoon k _ s
  · next hspread =>
    exact Change.changes (.platoons (.rewritten hlive (fun h => platoonInRange_mergeInto h hspread) fun hapart =>
      headClear_mergeInto hapart hlive hpartner fun e he => mergePartner_spec hapart.gap hmerge e he nofun))

theorem changes_seenEvict (hactive : s.selector.active.isSome = true)
    (hrange : 2 ≤ s.n → PlatoonInRange s.n s.settings.dl formed)
    (halone : ∀ e ∈ s.livePlatoons, isPartner s.settings.gm formed e.2 = false) :
    Changes s (seenEvict formed c s).2 := by
  unfold seenEvict
  split
  · next k victim _ =>
    split
    · refine Relation.ReflTransGen.trans (Relation.ReflTransGen.trans (changes_retiredPlatoon k .evicted s)
        (changes_createPlatoon ?_ hactive hrange ?_)) (changes_latch rfl _)
      · rw [State.setPlatoons_platoons, retireAt_get, if_pos rfl]
        exact (Slot.retire_spec _ _ _).1
      · rintro ⟨i, r⟩ he
        exact halone (i, r) (mem_lives_retireAt he).2
    · exact changes_latch rfl _
  · exact changes_latch rfl _

theorem changes_seenFormed (hactive : s.selector.active.isSome = true)
    (hrange : 2 ≤ s.n → formed.spread ≤ s.settings.dl → PlatoonInRange s.n s.settings.dl formed) :
    Changes s (seenFormed formed c s).2 := by
  unfold seenFormed
  split
  · exact .refl
  · next hspread =>
    have hrange' : 2 ≤ s.n → PlatoonInRange s.n s.settings.dl formed :=
      fun hn => hrange hn (Nat.le_of_not_lt hspread)
    split
    · next k partner hmerge => exact changes_seenMerge hmerge
    · next hnone =>
      have halone : ∀ e ∈ s.livePlatoons, isPartner s.settings.gm formed e.2 = false :=
        fun e he => not_isPartner_of_none hnone e he nofun
      unfold seenPlace
      split
      · next k hk => exact changes_createPlatoon (lowestEmpty_live hk) hactive hrange' halone
      · exact changes_seenEvict hactive hrange' halone

end

theorem linkFrom_lt {a : ActivePlan} {d : Direction} {n j : Nat} (hj : j < n) (hlast : isLast n d j = false) :
    (linkFrom a d j).1 < n := by
  cases d with
  | inbound =>
    simp only [isLast, beq_eq_false_iff_ne] at hlast
    simp only [linkFrom]
    omega
  | outbound =>
    simp only [linkFrom]
    omega

theorem active_of_activeRecord {s : State} {a : ActivePlan} {p : Plan} (h : s.activeRecord = some (a, p)) :
    s.selector.active = some a ∧ s.planRecord a.number = some p := by
  obtain ⟨a', ha, hrecord⟩ := Option.bind_eq_some_iff.mp h
  obtain ⟨p', hp, heq⟩ := Option.map_eq_some_iff.mp hrecord
  obtain ⟨rfl, rfl⟩ := Prod.mk.inj heq
  exact ⟨ha, hp⟩

/-- A record that departs on its first link is in range when its report names a configured origin. -/
theorem platoonInRange_reported {n dl k travel c lm : Nat} {t : Ct} {q : SeenFields} {d : Direction}
    (hk : k < n) (horigin : ∀ o, q.j = some o → o < n) (hcount : q.count ≠ 0)
    (hspread : (depart t k travel c lm (reported q d)).spread ≤ dl) :
    PlatoonInRange n dl (depart t k travel c lm (reported q d)) := by
  refine ⟨hk, horigin, hspread, ?_, Nat.min_le_right _ _, Nat.zero_le _⟩
  show 1 ≤ min q.count 99
  omega

theorem changes_ownPlatoonSeen (q : SeenFields) (s : State) : Changes s (ownPlatoonSeen q s).2 := by
  unfold ownPlatoonSeen
  split
  · exact .refl
  · next a p hplan =>
    have hactive : s.selector.active.isSome = true := by rw [(active_of_activeRecord hplan).1]; rfl
    split
    · exact .refl
    · next d hd =>
      split
      · next j hj =>
        split
        · exact .refl
        · next hconf =>
          split
          · exact .refl
          · next hrefused =>
            simp only [seenRefused, Bool.or_eq_true, beq_iff_eq, not_or] at hrefused
            unfold seenAtJunction
            dsimp only
            split
            · exact .refl
            · next hlast =>
              have hlt : j < s.n := Nat.lt_of_not_le hconf
              refine changes_seenFormed hactive fun _ hspread => platoonInRange_reported
                (linkFrom_lt hlt (by simpa using hlast)) (fun o ho => ?_) hrefused.1 hspread
              rw [hj] at ho
              exact Option.some.inj ho ▸ hlt
      · next hj =>
        split
        · exact .refl
        · next travel _ =>
          split
          · exact .refl
          · next hrefused =>
            simp only [seenRefused, Bool.or_eq_true, beq_iff_eq, not_or] at hrefused
            refine changes_seenFormed hactive fun hn hspread => platoonInRange_reported ?_ (by simp [hj]) hrefused.1
              hspread
            cases d <;> simp only [entryTarget] <;> omega

/-! ## PASSAGE (R115 to R119) -/

theorem platoonInRange_advanced {n dl travel c lm : Nat} {t : Ct} {a : ActivePlan} {r : Platoon}
    (h : PlatoonInRange n dl r) (hlast : isLast n r.dir r.cur = false)
    (hspread : (depart t (linkFrom a r.dir r.cur).1 travel c lm (passed t r)).spread ≤ dl) :
    PlatoonInRange n dl (depart t (linkFrom a r.dir r.cur).1 travel c lm (passed t r)) := by
  obtain ⟨hcur, horigin, -, hlow, hhigh, hlinks⟩ := h
  refine ⟨linkFrom_lt hcur hlast, horigin, hspread, hlow, hhigh, ?_⟩
  have hstep : (passed t r).links ≤ r.links + 1 := by
    simp only [passed]
    split <;> omega
  show (passed t r).links ≤ _
  cases hdir : r.dir with
  | inbound =>
    simp only [hdir] at hlinks
    simp only [depart, passed, hdir, linkFrom] at hstep ⊢
    omega
  | outbound =>
    simp only [hdir] at hlinks
    simp only [isLast, hdir, beq_eq_false_iff_ne] at hlast
    simp only [depart, passed, hdir, linkFrom] at hstep ⊢
    omega

theorem changes_passageMerge {k m : Fin Config.platoonSlots} {partner advancing : Platoon} {c : Clamps} {s : State}
    (hmerge : mergePartner s.settings.gm advancing (some k) s.platoons = some (m, partner)) :
    Changes s (passageMerge s.settings.dl k m partner advancing c s).2 := by
  obtain ⟨hlive, hpartner, hskip⟩ := mergePartner_mem hmerge
  have hgone : Changes s (s.setPlatoons (retireAt s.platoons k .merged s.now)) := changes_retiredPlatoon k _ s
  unfold passageMerge
  dsimp only
  split
  · exact hgone.trans (changes_retiredPlatoon m .dissolved _)
  · next hspread =>
    have hlive' : (s.setPlatoons (retireAt s.platoons k .merged s.now)).platoons[m].live = some partner := by
      rw [State.setPlatoons_platoons, retireAt_get, if_neg fun e => hskip (congrArg some e.symm)]
      exact hlive
    refine hgone.tail (.platoons (.rewritten hlive' (fun h => platoonInRange_mergeInto h hspread) fun hapart => ?_))
    refine headClear_mergeInto hapart hlive' hpartner ?_
    rintro ⟨i, r⟩ he
    obtain ⟨hne, he⟩ := mem_lives_retireAt he
    exact mergePartner_spec hapart.gap hmerge (i, r) he fun e => hne (Option.some.inj e).symm

theorem changes_advance {k : Fin Config.platoonSlots} {r : Platoon} {j : Nat} {t : Ct} {a : ActivePlan} {p : Plan}
    {c : Clamps} {s : State} (hlive : s.platoons[k].live = some r) (hj : r.cur = j) :
    Changes s (advance k r j t a p c s).2 := by
  subst hj
  unfold advance
  split
  · exact changes_retiredPlatoon k _ s
  · next hlast =>
    dsimp only
    unfold advanceOnward
    split
    · exact changes_retiredPlatoon k _ s
    · next hspread =>
      split
      · next m partner hmerge => exact changes_passageMerge hmerge
      · next hnone =>
        refine Change.changes (.platoons (.rewritten hlive (fun h => ?_) fun _ e he hne hdir hcur => ?_))
        · exact platoonInRange_advanced h (by simpa using hlast) (Nat.le_of_not_lt hspread)
        · exact le_apart_of_not_isPartner
            (not_isPartner_of_none hnone e he fun e => hne (Option.some.inj e).symm) hdir hcur

theorem resolve_record {α : Type} {n : Nat} {v : Vector (Slot α) n} {id : Identifier} {k : Fin n} {r : α}
    (h : resolve v id = .record k r) : v[k].live = some r := by
  rcases resolve_cases v id with ⟨-, e⟩ | ⟨i, -, -, ⟨x, hx, e⟩ | ⟨-, e⟩⟩ <;> rw [h] at e
  · simp at e
  · obtain ⟨rfl, rfl⟩ := Naming.record.inj e
    exact (named_eq_some.mp hx).2
  · simp at e

theorem changes_ownPassage (q : PassageFields) (s : State) : Changes s (ownPassage q s).2 := by
  unfold ownPassage
  split
  · exact .refl
  · split
    · exact .refl
    · split
      · exact .refl
      · split
        · exact .refl
        · dsimp only
          split
          · unfold passageById
            split
            · exact .refl
            · exact .refl
            · next k r hrecord =>
              split
              · next hat =>
                simp only [Bool.and_eq_true, decide_eq_true_eq] at hat
                exact changes_advance (resolve_record hrecord) hat.2
              · exact .refl
          · unfold passageByMatch
            split
            · next k r hmatch =>
              obtain ⟨hmem, htest⟩ := List.mem_filter.mp (best_mem hmatch)
              simp only [Bool.and_eq_true, beq_iff_eq] at htest
              exact changes_advance (mem_lives.mp hmem) htest.1.2
            · exact .refl

theorem changes_ownCancelPlatoon (id : Identifier) (s : State) : Changes s (ownCancelPlatoon id s).2 := by
  unfold ownCancelPlatoon
  split
  · exact .refl
  · exact .refl
  · next k r _ => exact changes_retiredPlatoon k _ s

end Sys2Proof.Machine
end

section
/-! SUPPORT. The lengths of the payloads: no owner answers more than 240 bytes (R173). -/

namespace Sys2Proof.Machine

open Sys2Proof.Safety

/-! ## The field encodings (12.1) -/

@[simp] theorem byteOf_length (n : Nat) : (byteOf n).length = 1 := rfl
@[simp] theorem wordOf_length (n : Nat) : (wordOf n).length = 2 := rfl
@[simp] theorem ctOf_length (t : Ct) : (ctOf t).length = 4 := rfl
@[simp] theorem driftOf_length (e : Int) : (driftOf e).length = 2 := rfl
@[simp] theorem flagOf_length (b : Bool) : (flagOf b).length = 1 := rfl
@[simp] theorem bcdOf_length (n : Nat) : (bcdOf n).length = 1 := rfl
@[simp] theorem attributesOf_length (a : Attributes) : (attributesOf a).length = 1 := rfl
@[simp] theorem sourceSetOf_length (x : SourceSet) : (sourceSetOf x).length = 2 := rfl
@[simp] theorem identifierOf_length (slot gen : Nat) : (identifierOf slot gen).length = 2 := rfl
@[simp] theorem directionOf_length (d : Direction) : (directionOf d).length = 1 := by cases d <;> rfl
@[simp] theorem classOf_length (c : PriorityClass) : (classOf c).length = 1 := by cases c <;> rfl
@[simp] theorem grantKindOf_length (g : GrantKind) : (grantKindOf g).length = 1 := by cases g <;> rfl
@[simp] theorem phaseOf_length (p : Phase) : (phaseOf p).length = 1 := by cases p <;> rfl
@[simp] theorem retireCauseOf_length (c : RetireCause) : (retireCauseOf c).length = 1 := by cases c <;> rfl
@[simp] theorem freeCauseOf_length (c : FreeCause) : (freeCauseOf c).length = 1 := by cases c <;> rfl
@[simp] theorem returnStateOf_length (r : ReturnState) : (returnStateOf r).length = 1 := by cases r <;> rfl
@[simp] theorem stageOf_length (x : Stage) : (stageOf x).length = 1 := by cases x <;> rfl
@[simp] theorem lampOf_length (x : LampPattern) : (lampOf x).length = 1 := by cases x <;> rfl
@[simp] theorem inputFunctionOf_length (f : InputFunction) : (inputFunctionOf f).length = 1 := by cases f <;> rfl
@[simp] theorem polarityOf_length (p : Polarity) : (polarityOf p).length = 1 := by cases p <;> rfl
@[simp] theorem pinModeOf_length (m : PinMode) : (pinModeOf m).length = 1 := by cases m <;> rfl
@[simp] theorem contextStateOf_length (c : Coordination) : (contextStateOf c).length = 2 := by
  cases c <;> simp [contextStateOf]

/-! ## Items and payloads (R172) -/

@[simp] theorem item_length (b : List Byte) : (item b).bytes.length = b.length := rfl
@[simp] theorem item_optional (b : List Byte) : (item b).optional = false := rfl
@[simp] theorem item_bytes (b : List Byte) : (item b).bytes = b := rfl
@[simp] theorem optItem_optional (n : Nat) (b : Option (List Byte)) : (optItem n b).optional = true := rfl
@[simp] theorem optItem_present (n : Nat) (b : Option (List Byte)) : (optItem n b).present = b.isSome := rfl
@[simp] theorem optByte_optional (n : Option Nat) : (optByte n).optional = true := rfl
@[simp] theorem optByte_present (n : Option Nat) : (optByte n).present = n.isSome := by simp [optByte]
@[simp] theorem optWord_optional (n : Option Nat) : (optWord n).optional = true := rfl
@[simp] theorem optWord_present (n : Option Nat) : (optWord n).present = n.isSome := by simp [optWord]
@[simp] theorem optCt_optional (t : Option Ct) : (optCt t).optional = true := rfl
@[simp] theorem optCt_present (t : Option Ct) : (optCt t).present = t.isSome := by simp [optCt]
@[simp] theorem optByte_bytes (n : Option Nat) : (optByte n).bytes = byteOf (n.getD 0) := by cases n <;> rfl
@[simp] theorem optWord_bytes (n : Option Nat) : (optWord n).bytes = wordOf (n.getD 0) := by cases n <;> rfl
@[simp] theorem optCt_bytes (t : Option Ct) : (optCt t).bytes = ctOf (t.getD 0) := by cases t <;> rfl
@[simp] theorem optItem_bytes (n : Nat) (b : Option (List Byte)) :
    (optItem n b).bytes = b.getD (List.replicate n 0) := rfl

theorem presenceBytes_length (bits : List Bool) : (presenceBytes bits).length = (bits.length + 7) / 8 := by
  simp [presenceBytes]

theorem payloadOf_length (items : List Item) :
    (payloadOf items).length =
      ((items.filter Item.optional).length + 7) / 8 + (items.map fun i => i.bytes.length).sum := by
  simp [payloadOf, presenceBytes_length, List.length_flatMap]

/-! ## The payloads of the owners -/

@[simp] theorem platoonBytes_length (slot gen : Nat) (p : Platoon) : (platoonBytes slot gen p).length = 26 := by
  simp [platoonBytes]

@[simp] theorem priorityBytes_length (slot gen : Nat) (r : Priority) : (priorityBytes slot gen r).length = 22 := by
  cases h : r.grant <;> simp [priorityBytes, h]

@[simp] theorem stalePayload_length (note : Option RetirementNote) : (stalePayload note).length = 7 := by
  cases note <;> simp [stalePayload]

@[simp] theorem clamps_length (c : Clamps) : c.bytes.length = 1 := rfl
@[simp] theorem clampByte_length (a b c d : Bool) : (clampByte a b c d).length = 1 := rfl
@[simp] theorem platoonLook_length (k : Fin Config.platoonSlots) (gen : Nat) (p : Platoon) (s : State) :
    (platoonLook k gen p s).length = 28 := by simp [platoonLook]

@[simp] theorem priorityLook_length (k : Fin Config.prioritySlots) (gen : Nat) (r : Priority) (s : State) :
    (priorityLook k gen r s).length = 28 := by
  rw [priorityLook, payloadOf_length]
  cases hq : s.junctions[r.junction]? with
  | none => simp [List.filter_cons]
  | some q => cases hc : q.cycle? <;> simp [hc, List.filter_cons]

@[simp] theorem windowPayload_length (j : Nat) (q : Junction) (s : State) : (windowPayload j q s).length = 63 := by
  rw [windowPayload, payloadOf_length]
  cases hc : q.cycle? <;> simp [List.filter_cons]

theorem readPlanPayload_length (p : Nat) (record : Option Plan) (s : State) :
    (readPlanPayload p record s).length = 126 := by
  rw [readPlanPayload, payloadOf_length]
  simp [List.filter_append, List.filter_map, Function.comp_def, List.filter_cons, Config.maxJunctions]

theorem readInputsPayload_length (s : State) : (readInputsPayload s).length = 54 := by
  rw [readInputsPayload, payloadOf_length]
  simp [List.filter_append, List.filter_map, Function.comp_def, List.filter_cons, Config.inputCount]

theorem readJunctionPayload_length (j : Nat) (q : Junction) (s : State) :
    (readJunctionPayload j q s).length = 14 := by
  rw [readJunctionPayload, payloadOf_length]
  simp [List.filter_append, List.filter_map, Function.comp_def, List.filter_cons, Config.groupCount]

end Sys2Proof.Machine
end

section
/-! SUPPORT. What the owner of a request can do: the elementary changes it makes, and a payload of at most 240 bytes;
what an event can do; and the induction over a command that follows from both. -/

namespace Sys2Proof.Machine

open Sys2Proof.Safety

/-! ## The payloads of the owners (R173) -/

/-- The reply's payload fits a result frame. -/
def Reply.fits (r : Reply) : Prop := r.payload.length ≤ 240

theorem refuse_fits (reason : Reason) (s : State) : (refuse reason s).1.fits := Nat.zero_le _

theorem done_fits {payload : List Byte} (h : payload.length ≤ 240) (reason : Reason) (s : State) :
    (done reason payload s).1.fits := h

theorem platoonReply_fits {extra : List Byte} (h : extra.length ≤ 2) (reason : Reason) (k : Fin Config.platoonSlots)
    (gen : Nat) (p : Platoon) (c : Clamps) : (platoonReply reason k gen p extra c).fits := by
  simp only [Reply.fits, platoonReply, doneReply, List.length_append, platoonBytes_length, clamps_length]
  omega

theorem ownActivatePlan_fits (p : Nat) (s : State) : (ownActivatePlan p s).1.fits := by
  unfold ownActivatePlan
  split
  · exact refuse_fits _ _
  · split
    · exact done_fits (Nat.zero_le _) _ _
    · cases h : (activate p s).1 <;>
        simp [Reply.fits, ActivationOutcome.reply, h, doneReply, refusedReply, failure_payload]

theorem seenFormed_fits (formed : Platoon) (c : Clamps) (s : State) : (seenFormed formed c s).1.fits := by
  unfold seenFormed
  split
  · exact done_fits (by simp) _ s
  · split
    · unfold seenMerge
      dsimp only
      split
      · exact done_fits (by simp) _ s
      · exact platoonReply_fits (Nat.zero_le _) _ _ _ _ _
    · unfold seenPlace
      split
      · exact platoonReply_fits (Nat.zero_le _) _ _ _ _ _
      · unfold seenEvict
        split
        · split
          · exact platoonReply_fits (by simp) _ _ _ _ _
          · exact Nat.zero_le _
        · exact Nat.zero_le _

theorem ownPlatoonSeen_fits (q : SeenFields) (s : State) : (ownPlatoonSeen q s).1.fits := by
  unfold ownPlatoonSeen
  split
  · exact refuse_fits _ _
  · split
    · exact refuse_fits _ _
    · split
      · split
        · exact refuse_fits _ _
        · split
          · exact refuse_fits _ _
          · unfold seenAtJunction
            dsimp only
            split
            · exact done_fits (by simp) _ s
            · exact seenFormed_fits _ _ _
      · split
        · exact refuse_fits _ _
        · split
          · exact refuse_fits _ _
          · exact seenFormed_fits _ _ _

theorem advance_fits (k : Fin Config.platoonSlots) (r : Platoon) (j : Nat) (t : Ct) (a : ActivePlan) (p : Plan)
    (c : Clamps) (s : State) : (advance k r j t a p c s).1.fits := by
  unfold advance
  split
  · exact done_fits (by simp) _ s
  · dsimp only
    unfold advanceOnward
    split
    · exact done_fits (by simp) _ s
    · split
      · unfold passageMerge
        dsimp only
        split <;> exact platoonReply_fits (Nat.zero_le _) _ _ _ _ _
      · exact platoonReply_fits (Nat.zero_le _) _ _ _ _ _

theorem refuseStale_fits (note : Option RetirementNote) (s : State) : (refuseStale note s).1.fits := by
  simp [refuseStale, Reply.fits, refusedReply]

theorem ownPassage_fits (q : PassageFields) (s : State) : (ownPassage q s).1.fits := by
  unfold ownPassage
  split
  · exact refuse_fits _ _
  · split
    · exact refuse_fits _ _
    · split
      · exact refuse_fits _ _
      · split
        · exact refuse_fits _ _
        · dsimp only
          split
          · unfold passageById
            split
            · exact refuse_fits _ _
            · exact refuseStale_fits _ _
            · split
              · exact advance_fits _ _ _ _ _ _ _ _
              · simp [Reply.fits, refusedReply]
          · unfold passageByMatch
            split
            · exact advance_fits _ _ _ _ _ _ _ _
            · exact done_fits (by simp) _ s

theorem checkInReply_fits {extra : List Byte} (h : extra.length ≤ 2) (reason : Reason) (k : Fin Config.prioritySlots)
    (q : CheckIn) (t : State) : (checkInReply reason k extra q t).1.fits := by
  unfold checkInReply
  split <;>
    simp only [Reply.fits, doneReply, List.length_append, priorityBytes_length, clampByte_length] <;> omega

theorem ownCheckIn_fits (q : CheckInFields) (s : State) : (ownCheckIn q s).1.fits := by
  unfold ownCheckIn
  split
  · exact refuse_fits _ _
  · split
    · split
      · exact refuse_fits _ _
      · split
        · exact refuse_fits _ _
        · split
          · exact refuse_fits _ _
          · unfold checkIn
            split
            · exact checkInReply_fits (Nat.zero_le _) _ _ _ _
            · unfold checkInCreate
              split
              · exact checkInReply_fits (Nat.zero_le _) _ _ _ _
              · split
                · exact checkInReply_fits (by simp) _ _ _ _
                all_goals exact refuse_fits _ _
    · exact refuse_fits _ _

theorem passing_bytes {f : ListFilter} {s : State} {e : ListEntry} (h : e ∈ passing f s) : e.bytes.length = 28 := by
  unfold passing at h
  split at h
  · obtain ⟨x, -, rfl⟩ := List.mem_map.mp h
    exact platoonLook_length ..
  · obtain ⟨x, -, rfl⟩ := List.mem_map.mp h
    exact priorityLook_length ..

theorem listStep_fits (f : ListFilter) (cursor : Option ListKey) (s : State) : (listStep f cursor s).1.fits := by
  unfold listStep
  split
  · exact Nat.zero_le _
  · next e hbest =>
    have hmem : e ∈ passing f s := by
      have hmem := best_mem hbest
      unfold afterCursor at hmem
      split at hmem
      · exact List.mem_of_mem_filter hmem
      · exact hmem
    have hbytes : e.bytes.length ≤ 240 := by rw [passing_bytes hmem]; decide
    split <;> exact hbytes

/-! ## The list sequence -/

theorem changes_listStep (f : ListFilter) (cursor : Option ListKey) (s : State) :
    Changes s (listStep f cursor s).2 := by
  have hsequence : ∀ q, Changes s (s.setSequence q) := fun q =>
    Change.changes (.outside ((frame_setPort_any s _).mono (by simp)) id id id)
  unfold listStep
  split
  · exact hsequence none
  · split <;> exact hsequence _

/-! ## What the owner of a request can do -/

/-- The state an owner leaves: by elementary changes; by a set clock and elementary changes after it; or with another
configuration of the alert unit. -/
inductive OwnerEffect (code : Byte) (s : State) : State → Prop where
  | changes {t : State} (h : Changes s t) : OwnerEffect code s t
  | clock {t : State} {k : DayClock} (hk : Settable k) (h : Changes (rederive (s.setTime (s.time.setClock k))) t) :
      OwnerEffect code s t
  | config {q : AlertFields} {a : Alerts} (hcode : code = 0x49) (h : q.config s.alerts = some a) :
      OwnerEffect code s (s.setAlerts a)

/-- The owner's answer to a request with the given code: a payload that fits and a state by its effect. -/
def Serves (code : Byte) (s : State) (x : Reply × State) : Prop := x.1.fits ∧ OwnerEffect code s x.2

section
variable {code : Byte}

theorem serves_of_changes {s : State} {x : Reply × State} (hfits : x.1.fits) (h : Changes s x.2) : Serves code s x :=
  ⟨hfits, .changes h⟩

theorem serves_refuse (reason : Reason) (s : State) : Serves code s (refuse reason s) :=
  serves_of_changes (refuse_fits _ _) .refl

theorem serves_read {payload : List Byte} (h : payload.length ≤ 240) (s : State) :
    Serves code s (done .none payload s) := serves_of_changes h .refl

theorem serves_ownSetClock (q : ClockFields) (s : State) : Serves code s (ownSetClock q s) := by
  unfold ownSetClock
  split
  · exact serves_refuse _ _
  · next k hk => exact ⟨Nat.zero_le _, .clock (clock_settable hk) (changes_catchUp _)⟩

theorem serves_ownSetAlertConfig (hcode : code = 0x49) (q : AlertFields) (s : State) : Serves code s (ownSetAlertConfig q s) := by
  unfold ownSetAlertConfig
  split
  · next a ha => exact ⟨Nat.zero_le _, .config hcode ha⟩
  · exact serves_refuse _ _

theorem changes_ownAcknowledgeAlerts (q : Nat) (s : State) : Changes s (ownAcknowledgeAlerts q s).2 := by
  unfold ownAcknowledgeAlerts
  split
  · next m _ =>
    refine Change.changes (.outside ((frame_setLatched s _).mono (by simp)) id (fun h => ?_) id)
    · show s.alerts.latched &&& ~~~m &&& ~~~latchedSources = 0
      rw [BitVec.and_assoc, BitVec.and_comm (~~~m), ← BitVec.and_assoc, h]
      simp
  · exact .refl

theorem changes_ownLockEdits (s : State) : Changes s (ownLockEdits () s).2 := by
  unfold ownLockEdits
  split
  · exact .refl
  · exact Change.changes (.outside ((frame_setPort_any s _).mono (by simp)) (fun _ => rfl) id id)

/-! ## The edits, the reads and the lists -/

theorem ownSetCorridor_fits (q : CorridorFields) (s : State) : (ownSetCorridor q s).1.fits := by
  unfold ownSetCorridor
  split
  · exact refuse_fits _ _
  · split
    · exact refuse_fits _ _
    · split
      · exact refuse_fits _ _
      · exact done_fits (Nat.zero_le _) _ _

theorem ownSetJunction_fits (q : JunctionFields) (s : State) : (ownSetJunction q s).1.fits := by
  unfold ownSetJunction
  split
  · exact refuse_fits _ _
  · split
    · exact refuse_fits _ _
    · split
      · split
        · exact refuse_fits _ _
        · exact done_fits (Nat.zero_le _) _ _
      · exact refuse_fits _ _

theorem ownSetGroup_fits (q : GroupFields) (s : State) : (ownSetGroup q s).1.fits := by
  unfold ownSetGroup
  split
  · exact done_fits (Nat.zero_le _) _ _
  · exact refuse_fits _ _

theorem ownSetPlan_fits (q : Nat × Plan) (s : State) : (ownSetPlan q s).1.fits := by
  unfold ownSetPlan
  split
  · exact refuse_fits _ _
  · split
    · exact refuse_fits _ _
    · split
      · exact done_fits (Nat.zero_le _) _ _
      · exact refuse_fits _ _

theorem ownSetScheduleEntry_fits (q : ScheduleFields) (s : State) : (ownSetScheduleEntry q s).1.fits := by
  unfold ownSetScheduleEntry
  split
  · exact done_fits (Nat.zero_le _) _ _
  · exact refuse_fits _ _

theorem ownSetInput_fits (q : InputFields) (s : State) : (ownSetInput q s).1.fits := by
  unfold ownSetInput
  split
  · exact done_fits (Nat.zero_le _) _ _
  · exact refuse_fits _ _

theorem serves_ownReadJunction (j : Nat) (s : State) : Serves code s (ownReadJunction j s) := by
  unfold ownReadJunction
  split
  · exact serves_refuse _ _
  · exact serves_read (by rw [readJunctionPayload_length]; decide) s

theorem serves_ownReadGroup (i : Nat) (s : State) : Serves code s (ownReadGroup i s) := by
  unfold ownReadGroup
  split
  · exact serves_refuse _ _
  · exact serves_read (by simp) s

theorem serves_ownReadPlan (p : Nat) (s : State) : Serves code s (ownReadPlan p s) := by
  unfold ownReadPlan
  split
  · exact serves_refuse _ _
  · exact serves_read (by rw [readPlanPayload_length]; decide) s

theorem serves_ownReadScheduleEntry (i : Nat) (s : State) : Serves code s (ownReadScheduleEntry i s) := by
  unfold ownReadScheduleEntry
  split
  · exact serves_refuse _ _
  · exact serves_read (by simp [readSchedulePayload, payloadOf_length, List.filter_cons]) s

theorem ownResyncJunction_fits (j : Nat) (s : State) : (ownResyncJunction j s).1.fits := by
  unfold ownResyncJunction
  split
  · exact refuse_fits _ _
  · split
    · exact done_fits (Nat.zero_le _) _ _
    · exact refuse_fits _ _

theorem serves_ownWindowQuery (j : Nat) (s : State) : Serves code s (ownWindowQuery j s) := by
  unfold ownWindowQuery
  split
  · exact serves_refuse _ _
  · exact serves_read (by simp) s

theorem ownSpillback_fits (f : SpillbackFields) (s : State) : (ownSpillback f s).1.fits := by
  unfold ownSpillback
  split
  · split
    · exact refuse_fits _ _
    · exact done_fits (by simp [spillbackPayload_eq]) _ _
  · exact refuse_fits _ _

theorem ownPreemptBegin_fits (j : Nat) (s : State) : (ownPreemptBegin j s).1.fits := by
  unfold ownPreemptBegin
  split
  · exact refuse_fits _ _
  · exact done_fits (by simp [beginPreempt, preemptPayload]) _ _

theorem ownPreemptEnd_fits (j : Nat) (s : State) : (ownPreemptEnd j s).1.fits := by
  unfold ownPreemptEnd
  split
  · exact refuse_fits _ _
  · split
    · exact done_fits (by simp) _ _
    · exact refuse_fits _ _

theorem serves_ownReadPlatoon (id : Identifier) (s : State) : Serves code s (ownReadPlatoon id s) := by
  unfold ownReadPlatoon
  split
  · exact serves_refuse _ _
  · exact serves_of_changes (refuseStale_fits _ _) .refl
  · exact serves_read (by simp) s

theorem ownCancelPlatoon_fits (id : Identifier) (s : State) : (ownCancelPlatoon id s).1.fits := by
  unfold ownCancelPlatoon
  split
  · exact refuse_fits _ _
  · exact refuseStale_fits _ _
  · exact done_fits (by simp) _ _

theorem serves_listStep (f : ListFilter) (cursor : Option ListKey) (s : State) : Serves code s (listStep f cursor s) :=
  serves_of_changes (listStep_fits f cursor s) (changes_listStep f cursor s)

theorem serves_ownListPlatoons (q : Nat × Nat) (s : State) : Serves code s (ownListPlatoons q s) := by
  unfold ownListPlatoons
  split
  · split
    · exact serves_refuse _ _
    · exact serves_listStep _ _ s
  · exact serves_refuse _ _

theorem serves_ownListPriority (q : Nat) (s : State) : Serves code s (ownListPriority q s) := by
  unfold ownListPriority
  split
  · split
    · exact serves_refuse _ _
    · exact serves_listStep _ _ s
  · exact serves_refuse _ _

theorem serves_ownContinueList (s : State) : Serves code s (ownContinueList () s) := by
  unfold ownContinueList
  split
  · exact serves_refuse _ _
  · exact serves_listStep _ _ s

theorem parseCheckIn_tag {ps : List Byte} {q : CheckInFields} (h : parseCheckIn ps = some q) : q.tag ≤ 65535 := by
  unfold parseCheckIn at h
  split at h
  · next t1 t0 _ _ _ _ _ =>
    cases h
    have h1 := t1.isLt
    have h0 := t0.isLt
    simp only [word16]
    omega
  · simp at h

theorem ownCheckOut_fits (q : CheckOutForm) (s : State) : (ownCheckOut q s).1.fits := by
  have hout : ∀ k r, (checkOutAt k r s).1.fits := fun k r => done_fits (by simp) _ _
  unfold ownCheckOut
  split
  · split
    · exact refuse_fits _ _
    · exact refuseStale_fits _ _
    · exact hout _ _
  · split
    · exact refuse_fits _ _
    · split
      · exact refuse_fits _ _
      · split
        · exact hout _ _
        · exact refuse_fits _ _

theorem serves_ownReadPriority (id : Identifier) (s : State) : Serves code s (ownReadPriority id s) := by
  unfold ownReadPriority
  split
  · exact serves_refuse _ _
  · exact serves_of_changes (refuseStale_fits _ _) .refl
  · exact serves_read (by simp) s

theorem ownAcknowledgeAlerts_fits (q : Nat) (s : State) : (ownAcknowledgeAlerts q s).1.fits := by
  unfold ownAcknowledgeAlerts
  split
  · exact done_fits (by simp) _ _
  · exact refuse_fits _ _

theorem ownLockEdits_fits (s : State) : (ownLockEdits () s).1.fits := by
  unfold ownLockEdits
  split <;> exact done_fits (Nat.zero_le _) _ _

/-- The owner of a request whose code names it, once the port has let it through. -/
theorem serves_owner {ps : List Byte} {q : Request} {owner : State → Reply × State} {s : State}
    (hq : requestOf code ps = some q) (howner : q.body = some owner) (hedit : q.edit = true → s.port.editLock = false) :
    Serves code s (owner s) := by
  unfold requestOf at hq
  split at hq
  all_goals simp only [Option.some.injEq, reduceCtorEq] at hq
  all_goals
    subst hq
    obtain ⟨x, hx, rfl⟩ := Option.map_eq_some_iff.mp howner
  · exact serves_ownSetClock x s
  · exact serves_read (by simp [readClockPayload]) s
  · exact serves_read (by simp [corridorStatusPayload, payloadOf_length, List.filter_cons]) s
  · exact serves_of_changes (ownSetCorridor_fits x s) (changes_ownSetCorridor x (hedit rfl))
  · exact serves_read (by simp [readCorridorPayload, payloadOf_length, List.filter_cons]) s
  · exact serves_of_changes (ownSetJunction_fits x s) (changes_ownSetJunction x (hedit rfl))
  · exact serves_ownReadJunction x s
  · exact serves_of_changes (ownSetGroup_fits x s) (changes_ownSetGroup x (hedit rfl))
  · exact serves_ownReadGroup x s
  · exact serves_of_changes (ownSetPlan_fits x s) (changes_ownSetPlan x (hedit rfl))
  · exact serves_ownReadPlan x s
  · exact serves_of_changes (ownSetScheduleEntry_fits x s) (changes_ownSetScheduleEntry x (hedit rfl))
  · exact serves_ownReadScheduleEntry x s
  · exact serves_of_changes (ownActivatePlan_fits x s) (changes_ownActivatePlan x s)
  · exact serves_of_changes (Nat.zero_le _) (changes_ownResumeSchedule s)
  · exact serves_of_changes (ownResyncJunction_fits x s) (changes_ownResyncJunction x s)
  · exact serves_ownWindowQuery x s
  · exact serves_of_changes (ownSpillback_fits x s) (changes_ownSpillback x s)
  · exact serves_of_changes (ownPreemptBegin_fits x s) (changes_ownPreemptBegin x s)
  · exact serves_of_changes (ownPreemptEnd_fits x s) (changes_ownPreemptEnd x s)
  · exact serves_of_changes (ownPlatoonSeen_fits x s) (changes_ownPlatoonSeen x s)
  · exact serves_of_changes (ownPassage_fits x s) (changes_ownPassage x s)
  · exact serves_ownReadPlatoon x s
  · exact serves_of_changes (ownCancelPlatoon_fits x s) (changes_ownCancelPlatoon x s)
  · exact serves_ownListPlatoons x s
  · exact serves_of_changes (ownCheckIn_fits x s) (changes_ownCheckIn (parseCheckIn_tag hx) s)
  · exact serves_of_changes (ownCheckOut_fits x s) (changes_ownCheckOut x s)
  · exact serves_ownReadPriority x s
  · exact serves_ownListPriority x s
  · exact serves_of_changes (by simp [Reply.fits, ownClearRecords, done, doneReply]) (changes_ownClearRecords s)
  · exact serves_of_changes (ownSetInput_fits x s) (changes_ownSetInput x s (hedit rfl))
  · exact serves_read (by rw [readInputsPayload_length]; decide) s
  · exact serves_read (by simp [readAlertsPayload]) s
  · next hcode => exact serves_ownSetAlertConfig (BitVec.eq_of_toNat_eq hcode) x s
  · exact serves_of_changes (ownAcknowledgeAlerts_fits x s) (changes_ownAcknowledgeAlerts x s)
  · exact serves_ownContinueList s
  · exact serves_of_changes (ownLockEdits_fits s) (changes_ownLockEdits s)

end

end Sys2Proof.Machine
end

section
/-! SUPPORT. Every command by what it can do: a request by its code, an event by its effect, and the induction that
carries a relation through any command other than RESET. -/

namespace Sys2Proof.Machine

open Sys2Proof.Safety

/-! ## Requests by their code (R156) -/

theorem exec_request {c : Instr} {code : Byte} {ps : List Byte} (hc : c.code? = some code)
    (hp : c.params? = some ps) (s : State) :
    exec c s = run (send code ps c.extra (requestOf code ps)) s := by
  cases c <;> simp only [Instr.code?, Instr.params?, Option.some.injEq, reduceCtorEq] at hc hp <;> subst hc hp <;> rfl

/-- A command is a request, with a code and parameters, or it is one of the rows that are none. -/
theorem code?_isSome_iff (c : Instr) : c.code?.isSome = c.params?.isSome := by
  cases c <;> rfl

/-! ## The effect of one event or request -/

/-- What one event or request other than SET ALERT CONFIG and PULSE_END does before it ends. -/
inductive Effect (s : State) : State → Prop where
  | changes {t : State} (h : Changes s t) : Effect s t
  | clock {u t : State} {k : DayClock} (hu : Changes s u) (hk : Settable k)
      (h : Changes (rederive (u.setTime (u.time.setClock k))) t) : Effect s t
  | step {u : State} {d : Int} (hu : Changes s u) (hd : ClockSteps d u) : Effect s (applyStep d u)

theorem effect_takeEdge (s : State) : Effect s (takeEdge s) := by
  rcases takeEdge_changes s with h | ⟨u, d, hu, hd, e⟩
  · exact .changes h
  · rw [e]
    exact .step hu hd

theorem changes_event {e : Event} {s : State} (hdue : e.due s = true) (hedge : e ≠ .edge) (hpulse : e ≠ .pulseEnd) :
    Changes s (e.effect s) := by
  have hflags : ∀ v : TimeBase, v.ct = s.time.ct → v.clock = s.time.clock → v.syncLost = s.time.syncLost →
      Changes s (s.setTime v) := fun v hct hclock hlost =>
    Change.changes (.flags hct hclock fun h => .inl (hlost ▸ h))
  cases e with
  | edge => exact absurd rfl hedge
  | minuteMark => exact (hflags { s.time with markDue := false } rfl rfl rfl).trans (changes_minuteMark _)
  | boundary => exact (hflags { s.time with boundaryDue := false } rfl rfl rfl).trans (changes_takeBoundary _)
  | syncLoss =>
    simp only [Event.due, Bool.and_eq_true] at hdue
    exact Change.changes (.flags rfl rfl fun _ => .inr hdue.1.1)
  | validation i => exact changes_changeInput i _ s
  | pulseEnd => exact absurd rfl hpulse
  | spillExpiry j d => exact changes_expireSpill j.val d s
  | platoonLost k => exact changes_retiredPlatoon k _ s
  | priorityExpiry k => exact changes_expirePriority k s
  | preemptDeadline j => exact changes_preemptTimeout j.val s
  | greenEnd j => exact changes_greenEnd j.val s
  | booking j => exact changes_book j.val s

theorem effect_event {e : Event} {s : State} (hdue : e.due s = true) (hpulse : e ≠ .pulseEnd) :
    Effect s (e.effect s) := by
  by_cases hedge : e = .edge
  · subst hedge
    exact effect_takeEdge s
  · exact .changes (changes_event hdue hedge hpulse)

/-! ## The effect of a SEND -/

theorem changes_setPort {s : State} {v : Port} (hlock : v.editLock = s.port.editLock)
    (hfits : FrameFits s.port.state → FrameFits v.state) : Changes s (s.setPort v) :=
  Change.changes (.outside ((frame_setPort_any s v).mono (by simp)) (fun h => hlock ▸ h) id hfits)

theorem serve_serves (code : Byte) (ps : List Byte) (s : State) : Serves code s (serve (requestOf code ps) s) := by
  rcases serve_cases (requestOf code ps) s with ⟨-, e⟩ | ⟨q, -, -, e⟩ | ⟨q, o, -, -, -, -, e⟩ | ⟨q, o, hq, ho, hopen, e⟩ <;>
    rw [e]
  · exact serves_refuse _ _
  · exact serves_refuse _ _
  · exact serves_refuse _ _
  · refine serves_owner hq ho fun hedit => ?_
    rcases hopen with h | h
    · rw [hedit] at h; cases h
    · simp only [State.editsLocked, Bool.or_eq_false_iff] at h
      exact h.1

/-- The end of a request: its owner's effect, then the execution with a frame that fits. -/
theorem acceptSend_effect (code : Byte) (k : Nat) (ps : List Byte) (s : State) :
    ∃ u, acceptSend code k (requestOf code ps) s = settle s u ∧
      (Effect s u ∨ code = 0x49 ∧ ∃ (q : AlertFields) (a : Alerts), q.config s.alerts = some a ∧ ∃ v, v.editLock = s.port.editLock ∧
        FrameFits v.state ∧ u = (s.setAlerts a).setPort v) := by
  have hserve := serve_serves code ps (accepted k s)
  have haccepted : Changes s (accepted k s) := changes_setPort rfl id
  rw [acceptSend_eq]
  generalize serve (requestOf code ps) (accepted k s) = x at hserve ⊢
  obtain ⟨r, u⟩ := x
  obtain ⟨hfits, heffect : OwnerEffect code (accepted k s) u⟩ := hserve
  have hexec : Changes u (executing code r u) := changes_setPort rfl fun _ => hfits
  refine ⟨executing code r u, rfl, ?_⟩
  cases heffect with
  | changes h => exact .inl (.changes ((haccepted.trans h).trans hexec))
  | clock hk h => exact .inl (.clock haccepted hk (h.trans hexec))
  | config hcode h => exact .inr ⟨hcode, _, _, h, (executing code r ((accepted k s).setAlerts _)).port, rfl, hfits, rfl⟩

/-- A SEND is the effect of an accepted request, or a change of the port alone that brings no source in. -/
theorem discardSend_settles (k : Nat) (s : State) : Changes s (discardSend k s) ∧ settle s (discardSend k s) =
    discardSend k s :=
  ⟨changes_setPort rfl id, settle_of_subset (joined_of_port ((frame_discardSend k s).mono (by simp)) id)⟩

/-! ## Every command -/

/-- What a command other than RESET leaves: the state as it was; the end of an effect; the end of SET ALERT CONFIG, by
its own request or by its code in a raw SEND; the pulse end; or a count after the events that were due. -/
inductive Left (c : Instr) (s : State) : State → Prop where
  | same : Left c s s
  | settled {u : State} (h : Effect s u) : Left c s (settle s u)
  | config {q : AlertFields} {a : Alerts} {v : Port} (hc : (∃ ps k, c = .setAlertConfig ps k) ∨ ¬ Plain c)
      (h : q.config s.alerts = some a) (hlock : v.editLock = s.port.editLock) (hfits : FrameFits v.state) :
      Left c s (settle s ((s.setAlerts a).setPort v))
  | pulseEnd (hc : c = .pulseEnd) : Left c s (settle s (s.setAlerts { s.alerts with pulseEnd := none }))
  | count {y i0 i1 i2 i3 : Level} (hc : c = .ctCount y i0 i1 i2 i3) (hs : Running s) :
      Left c s (countOnce y #v[i0, i1, i2, i3] (takeDue s))

theorem left_of_changes {c : Instr} {s t : State} (h : Changes s t) (hsettle : settle s t = t) : Left c s t := by
  rw [← hsettle]
  exact .settled (.changes h)

theorem left_of_send {c : Instr} {code : Byte} {ps : List Byte} {k : Nat} {s : State}
    (hc : code = 0x49 → (∃ ps k, c = .setAlertConfig ps k) ∨ ¬ Plain c) :
    Left c s (acceptSend code k (requestOf code ps) s) := by
  obtain ⟨u, e, h | ⟨hcode, q, a, ha, v, hlock, hfits, rfl⟩⟩ := acceptSend_effect code k ps s <;> rw [e]
  · exact .settled h
  · exact .config (hc hcode) ha hlock hfits

/-- A command that runs an event takes it where it is due. -/
theorem left_of_event {c : Instr} {s : State} {e : Event} (hpulse : e = .pulseEnd → c = .pulseEnd) :
    Left c s (takeEvent e s) := by
  cases hdue : e.due s with
  | false =>
    rw [takeEvent_of_not_due hdue]
    exact .same
  | true =>
    rw [takeEvent_of_due hdue]
    by_cases he : e = .pulseEnd
    · subst he
      exact .pulseEnd (hpulse rfl)
    · exact .settled (effect_event hdue he)

theorem left_of_transaction {c : Instr} {s : State} {v : Port} (hlock : v.editLock = s.port.editLock)
    (hstate : v.state = s.port.state) : Left c s (s.setPort v) :=
  left_of_changes (changes_setPort hlock fun h => hstate ▸ h)
    (settle_of_subset (joined_of_port ((frame_setPort hlock)) (by simp [State.resultReady, hstate])))

theorem left_completeExecution (c : Instr) (s : State) : Left c s (completeExecution s) := by
  unfold completeExecution
  split
  · next f h => exact .settled (.changes (changes_setPort rfl fun hf => by rw [h] at hf; exact hf))
  · exact .settled (.changes (changes_setPort rfl fun _ => trivial))
  all_goals exact .same

theorem left_resultTransaction (c : Instr) (n : Nat) (s : State) : Left c s (resultTransaction n s) := by
  unfold resultTransaction
  split
  · split
    · exact .settled (.changes (changes_setPort rfl fun _ => trivial))
    · exact left_of_transaction rfl rfl
  all_goals exact left_of_transaction rfl rfl

theorem left_portReset (c : Instr) (n : Nat) (s : State) : Left c s (portReset n s) := by
  refine .settled (.changes (changes_setPort rfl fun h => ?_))
  cases hstate : s.port.state <;> simp_all [PortState.afterReset, FrameFits]

theorem left_sendFrame (frame : List Byte) (s : State) : Left (.sendDiscarded frame) s (sendFrame frame s) := by
  have hdiscard : Left (.sendDiscarded frame) s (discardSend frame.length s) :=
    left_of_changes (discardSend_settles _ s).1 (discardSend_settles _ s).2
  unfold sendFrame
  split
  · exact left_of_send fun _ => .inr id
  all_goals exact hdiscard

theorem left_send {c : Instr} {code : Byte} {ps : List Byte} (hc : c.code? = some code) (k : Nat) (s : State) :
    Left c s (send code ps k (requestOf code ps) s) := by
  by_cases hs : s.port.state = .idle
  · rw [send_of_idle hs]
    refine left_of_send fun hcode => ?_
    subst hcode
    cases c with
    | setAlertConfig ps k => exact .inl ⟨ps, k, rfl⟩
    | unknownRequest code ps k => exact .inr id
    | _ => simp [Instr.code?] at hc
  · rw [send_of_busy hs]
    exact left_of_changes (discardSend_settles _ s).1 (discardSend_settles _ s).2

/-- Everything a command other than RESET can do. -/
theorem exec_left {c : Instr} {s t : State} (h : exec c s = .next t) (hc : ∀ e, c ≠ .reset e) : Left c s t := by
  have hrun : ∀ f : State → State, exec c s = run f s → (s.inReset = false → Left c s (f s)) → Left c s t := by
    intro f hf hleft
    rcases run_cases f s with ⟨-, e⟩ | ⟨hs, e⟩
    · obtain rfl := Host.Outcome.next.inj ((h.symm.trans hf).trans e)
      exact .same
    · obtain rfl := Host.Outcome.next.inj ((h.symm.trans hf).trans e)
      exact hleft hs
  cases hcode : c.code? with
  | some code =>
    have hparams : c.params?.isSome = true := by rw [← code?_isSome_iff, hcode]; rfl
    obtain ⟨ps, hps⟩ := Option.isSome_iff_exists.mp hparams
    exact hrun _ (exec_request hcode hps s) fun _ => left_send hcode _ s
  | none =>
    cases c with
    | reset e => exact absurd rfl (hc e)
    | ctCount y i0 i1 i2 i3 => exact hrun (fun t => countOnce y #v[i0, i1, i2, i3] (takeDue t)) rfl fun hs => .count rfl hs
    | minuteMark => exact hrun _ rfl fun _ => left_of_event nofun
    | referenceBoundary => exact hrun _ rfl fun _ => left_of_event nofun
    | syncPulse =>
      refine hrun syncPulse rfl fun _ => ?_
      unfold syncPulse
      split
      · exact .settled (effect_takeEdge s)
      · exact .same
    | syncLossTime => exact hrun _ rfl fun _ => left_of_event nofun
    | inputValidation i => exact hrun _ rfl fun _ => left_of_event nofun
    | booking j => exact hrun _ rfl fun _ => left_of_event nofun
    | greenEndCheck j => exact hrun _ rfl fun _ => left_of_event nofun
    | spillbackExpiry j d => exact hrun _ rfl fun _ => left_of_event nofun
    | platoonLost k => exact hrun _ rfl fun _ => left_of_event nofun
    | priorityExpiry k => exact hrun _ rfl fun _ => left_of_event nofun
    | preemptDeadline j => exact hrun _ rfl fun _ => left_of_event nofun
    | pulseEnd => exact hrun _ rfl fun _ => left_of_event fun _ => rfl
    | statusBlink =>
      refine hrun (fun t => t.setBlink (t.blink + 1)) rfl fun _ => left_of_changes
        (Change.changes (.outside ((frame_setBlink s (s.blink + 1)).mono (by simp)) id id id)) ?_
      exact settle_of_subset (joined_of_quiet (frame_setBlink s _) (by simp [Quiet]))
    | sendDiscarded frame => exact hrun _ rfl fun _ => left_sendFrame frame s
    | executionComplete => exact hrun _ rfl fun _ => left_completeExecution _ s
    | statusTransaction n => exact hrun _ rfl fun _ => left_of_transaction rfl rfl
    | resultTransaction n => exact hrun _ rfl fun _ => left_resultTransaction _ n s
    | portReset n => exact hrun _ rfl fun _ => left_portReset _ n s
    | voidTransaction bytes => exact hrun _ rfl fun _ => left_of_transaction rfl rfl
    | _ => simp [Instr.code?] at hcode

/-! ## Relations that every command keeps -/

/-- A relation that every part of a command keeps: an invariant, read as 'if it holds before, it holds after'. -/
structure Kept (R : State → State → Prop) : Prop where
  refl : ∀ s, R s s
  trans : ∀ {s t u}, R s t → R t u → R s u
  change : ∀ {s t}, Change s t → R s t
  settle : ∀ s t, R t (settle s t)
  clock : ∀ {s k}, Settable k → R s (rederive (s.setTime (s.time.setClock k)))
  step : ∀ {s d}, ClockSteps d s → R s (applyStep d s)
  config : ∀ {s q a}, AlertFields.config q s.alerts = some a → R s (s.setAlerts a)
  pulseEnd : ∀ s, R s (s.setAlerts { s.alerts with pulseEnd := none })
  count : ∀ y l s, R s (countOnce y l s)

namespace Kept

variable {R : State → State → Prop} (hR : Kept R) {s t : State}
include hR

theorem changes (h : Changes s t) : R s t := by
  induction h with
  | refl => exact hR.refl s
  | tail _ h ih => exact hR.trans ih (hR.change h)

theorem effect (h : Effect s t) : R s t := by
  cases h with
  | changes h => exact hR.changes h
  | clock hu hk h => exact hR.trans (hR.changes hu) (hR.trans (hR.clock hk) (hR.changes h))
  | step hu hd => exact hR.trans (hR.changes hu) (hR.step hd)

theorem takeEvent (e : Event) (s : State) : R s (takeEvent e s) := by
  cases hdue : e.due s with
  | false =>
    rw [takeEvent_of_not_due hdue]
    exact hR.refl s
  | true =>
    rw [takeEvent_of_due hdue]
    refine hR.trans ?_ (hR.settle s _)
    by_cases he : e = .pulseEnd
    · subst he
      exact hR.pulseEnd s
    · exact hR.effect (effect_event hdue he)

theorem takeDue (s : State) : R s (takeDue s) := by
  unfold Machine.takeDue
  generalize allEvents = l
  induction l generalizing s with
  | nil => exact hR.refl s
  | cons e es ih => exact hR.trans (hR.takeEvent e s) (ih _)

/-- Any command other than RESET keeps the relation. -/
theorem exec {c : Instr} (hexec : exec c s = .next t) (hc : ∀ e, c ≠ .reset e) : R s t := by
  cases exec_left hexec hc with
  | same => exact hR.refl s
  | settled h => exact hR.trans (hR.effect h) (hR.settle s _)
  | config _ h hlock hfits =>
    exact hR.trans (hR.trans (hR.config h) (hR.changes (changes_setPort hlock fun _ => hfits))) (hR.settle s _)
  | pulseEnd _ => exact hR.trans (hR.pulseEnd s) (hR.settle s _)
  | count _ _ => exact hR.trans (hR.takeDue s) (hR.count _ _ _)

end Kept

/-- An invariant that every part of a command keeps, that RESET establishes and that the queue has no part in, is kept
by every step. -/
theorem step_keeps {I : State → Prop} (hI : Kept fun s t => I s → I t)
    (hreset : ∀ e l, I ((resetBy e).setPending l)) (hpending : ∀ s l, I s → I (s.setPending l)) {s t : State}
    (hs : I s) (h : step s = .next t) : I t := by
  unfold step at h
  split at h
  · cases h
    exact hs
  · next c rest _ =>
    by_cases hc : ∃ e, c = .reset e
    · obtain ⟨e, rfl⟩ := hc
      obtain rfl := Host.Outcome.next.inj h
      exact hreset e _
    · exact hI.exec h (fun e he => hc ⟨e, he⟩) (hpending s rest hs)

end Sys2Proof.Machine
end

section
/-! SUPPORT. The configuration that only an edit request writes (R165): what keeps it; and the statement about the edit
lock. -/

namespace Sys2Proof.Safety

open Sys2Proof.Machine

theorem SameConfiguration.refl (s : State) : SameConfiguration s s :=
  ⟨rfl, rfl, rfl, rfl, rfl, fun _ => ⟨rfl, rfl, rfl, rfl⟩⟩

theorem SameConfiguration.trans {s t u : State} (h : SameConfiguration s t) (g : SameConfiguration t u) :
    SameConfiguration s u where
  settings := g.settings.trans h.settings
  geometry := g.geometry.trans h.geometry
  groups := g.groups.trans h.groups
  plans := g.plans.trans h.plans
  schedule := g.schedule.trans h.schedule
  inputs k := by
    obtain ⟨hf, hp, ha, hr⟩ := h.inputs k
    obtain ⟨gf, gp, ga, gr⟩ := g.inputs k
    exact ⟨gf.trans hf, gp.trans hp, ga.trans ha, gr.trans hr⟩

end Sys2Proof.Safety

namespace Sys2Proof.Machine

open Sys2Proof.Safety

/-! ## The geometry of the junctions -/

/-- The link lengths and side minima of the configured junctions. -/
def geometry (js : List Junction) : List (Option Nat × Nat) := js.map fun j => (j.link, j.smin)

theorem geometry_map {f : Junction → Junction} (h : ∀ q, (f q).link = q.link ∧ (f q).smin = q.smin)
    (js : List Junction) : geometry (js.map f) = geometry js := by
  simp only [geometry, List.map_map]
  exact List.map_congr_left fun q _ => by simp [h q]

theorem geometry_mapIndexed {f : Nat → Junction → Junction}
    (h : ∀ i q, (f i q).link = q.link ∧ (f i q).smin = q.smin) (i : Nat) (js : List Junction) :
    geometry (mapIndexed f i js) = geometry js := by
  induction js generalizing i with
  | nil => rfl
  | cons q js ih =>
    simp only [geometry, mapIndexed, List.map_cons, h i q] at ih ⊢
    rw [ih]

theorem geometry_set {js : List Junction} {j : Nat} {q q' : Junction} (hq : js[j]? = some q)
    (h : q'.link = q.link ∧ q'.smin = q.smin) : geometry (js.set j q') = geometry js := by
  obtain ⟨hj, rfl⟩ := List.getElem?_eq_some_iff.mp hq
  have hsame : (js[j].link, js[j].smin) = (js.map fun j => (j.link, j.smin))[j]'(by simpa using hj) := by simp
  simp only [geometry, List.map_set, h.1, h.2]
  rw [hsame, List.set_getElem_self]

theorem geometry_length {js ks : List Junction} (h : geometry ks = geometry js) : ks.length = js.length := by
  simpa [geometry] using congrArg List.length h

theorem planEffect_geometry (now : Ct) (x free : Bool) (q : Junction) :
    (planEffect now x free q).link = q.link ∧ (planEffect now x free q).smin = q.smin := by
  obtain ⟨hlink, hsmin, -⟩ := planEffect_underNewPlan now x free q
  exact ⟨hlink, hsmin⟩

theorem plan0Effect_geometry (x : Bool) (q : Junction) :
    (plan0Effect x q).link = q.link ∧ (plan0Effect x q).smin = q.smin := by
  unfold plan0Effect
  split <;> exact ⟨rfl, rfl⟩

theorem freeByCorridor_geometry (q : Junction) : (freeByCorridor q).link = q.link ∧ (freeByCorridor q).smin = q.smin := by
  unfold freeByCorridor
  split <;> exact ⟨rfl, rfl⟩

theorem rejoinCorridor_geometry (now : Ct) (q : Junction) :
    (rejoinCorridor now q).link = q.link ∧ (rejoinCorridor now q).smin = q.smin := by
  unfold rejoinCorridor
  split <;> exact ⟨rfl, rfl⟩

theorem excludeChange_geometry (now : Ct) (coordinated free was is : Bool) (q : Junction) :
    (excludeChange now coordinated free was is q).link = q.link ∧
      (excludeChange now coordinated free was is q).smin = q.smin := by
  unfold excludeChange
  split
  · unfold gainExclude
    split <;> exact ⟨rfl, rfl⟩
  · split
    · unfold loseExclude
      split <;> exact ⟨rfl, rfl⟩
    · exact ⟨rfl, rfl⟩

theorem setCycle_geometry (q : Junction) (c : Cycle) : (q.setCycle c).link = q.link ∧ (q.setCycle c).smin = q.smin := by
  unfold Junction.setCycle
  split <;> exact ⟨rfl, rfl⟩

theorem JunctionMove.geometry {s : State} {j : Nat} {q q' : Junction} (h : JunctionMove s j q q') :
    q'.link = q.link ∧ q'.smin = q.smin := by
  cases h with
  | resync _ | begins | grants _ => exact ⟨rfl, rfl⟩
  | spill d e => cases d <;> exact ⟨rfl, rfl⟩
  | ends =>
    unfold endPreempt
    split <;> exact ⟨rfl, rfl⟩
  | books hplan =>
    unfold bookJunction
    split
    · split <;> exact ⟨rfl, rfl⟩
    · split <;> exact ⟨rfl, rfl⟩
    all_goals exact ⟨rfl, rfl⟩
  | closes _ | stretches _ _ _ | shortens _ _ _ => exact setCycle_geometry _ _

theorem PlanMove.geometry {s t : State} (h : PlanMove s t) : geometry t.junctions = geometry s.junctions := by
  cases h with
  | cancelled | pends _ _ _ => rfl
  | takes _ _ _ _ => exact geometry_mapIndexed (fun _ q => planEffect_geometry _ _ _ q) 0 _
  | boundary _ _ _ => exact geometry_mapIndexed (fun _ q => planEffect_geometry _ _ _ q) 0 _
  | plan0 _ => exact geometry_mapIndexed (fun _ q => plan0Effect_geometry _ q) 0 _

theorem corridorFreeChange_geometry (was : Bool) (s : State) :
    Machine.geometry (corridorFreeChange was s).junctions = Machine.geometry s.junctions := by
  unfold corridorFreeChange
  split
  · exact geometry_map freeByCorridor_geometry _
  · split
    · exact geometry_map (rejoinCorridor_geometry _) _
    · rfl

/-! ## The frames of the elementary changes -/

theorem PlanMove.frame {s t : State} (h : PlanMove s t) :
    Frame [.selector, .junctions, .platoons, .priorities, .latched] s t := by
  cases h with
  | cancelled | pends _ _ _ => exact (frame_setSelector s _).mono (by simp)
  | takes _ _ _ _ | boundary _ _ _ => exact (frame_takeEffect _ _ s).mono (by simp)
  | plan0 _ =>
    intro b hb
    cases b with
    | selector | junctions | platoons | priorities | latched => simp at hb
    | _ => simp [Block.same, takeEffectPlan0, latch_eq]

theorem PlanMove.schedule {s t : State} (h : PlanMove s t) : t.selector.schedule = s.selector.schedule := by
  cases h <;> rfl

theorem frame_corridorFreeChange (was : Bool) (s : State) : Frame [.junctions] s (corridorFreeChange was s) := by
  obtain ⟨f, -, h⟩ := corridorFreeChange_eq_map was s
  exact h ▸ frame_setJunctions s _

theorem frame_rederive (s : State) : Frame [.selector] s (rederive s) := by
  unfold rederive
  split
  · exact frame_setSelector s _
  · exact .refl _ _

theorem frame_stepPRef (d : Int) (s : State) : Frame [.selector] s (stepPRef d s) := by
  unfold stepPRef
  split
  · exact frame_setSelector s _
  · exact .refl _ _

theorem frame_countPRef (s : State) : Frame [.selector, .time] s (countPRef s) := by
  unfold countPRef
  split
  · split
    · exact (frame_setSelector s _).mono (by simp)
    · exact ((frame_setSelector s _).mono (by simp)).trans ((frame_setTime _ _).mono (by simp))
  · exact .refl _ _

theorem frame_setClock (k : DayClock) (s : State) :
    Frame [.time, .selector] s (rederive (s.setTime (s.time.setClock k))) :=
  ((frame_setTime s _).mono (by simp)).trans ((frame_rederive _).mono (by simp))

theorem frame_applyStep (d : Int) (s : State) : Frame [.time, .selector] s (applyStep d s) :=
  ((frame_stepPRef d s).mono (by simp)).trans ((frame_setTime _ _).mono (by simp))

theorem frame_countOnce (y : Level) (l : Vector Level Config.inputCount) (s : State) :
    Frame [.time, .selector, .inputs] s (countOnce y l s) :=
  ((frame_countPRef s).mono (by simp)).trans
    (((frame_setTime _ _).mono (by simp)).trans ((frame_setInputs _ _).mono (by simp)))

/-- The live data of the active plan is all of the selector that the clock moves. -/
theorem rederive_selector (s : State) : ∃ a, (rederive s).selector = { s.selector with active := a } := by
  unfold rederive
  split <;> exact ⟨_, rfl⟩

theorem stepPRef_selector (d : Int) (s : State) : ∃ a, (stepPRef d s).selector = { s.selector with active := a } := by
  unfold stepPRef
  split <;> exact ⟨_, rfl⟩

theorem countPRef_selector (s : State) : ∃ a, (countPRef s).selector = { s.selector with active := a } := by
  unfold countPRef
  split
  · split <;> exact ⟨_, rfl⟩
  · exact ⟨_, rfl⟩

/-! ## The configuration -/

/-- What leaves every configured block but the junctions, the selector and the inputs, and their configuration. -/
theorem sameConfiguration_of_frame {l : List Block} {s t : State} (h : Frame l s t)
    (hl : ∀ b ∈ [Block.settings, .groups, .plans], b ∉ l)
    (hgeometry : geometry t.junctions = geometry s.junctions)
    (hschedule : t.selector.schedule = s.selector.schedule) (hinputs : t.inputs = s.inputs) : SameConfiguration s t where
  settings := h .settings (hl _ (by simp))
  geometry := hgeometry
  groups := h .groups (hl _ (by simp))
  plans := h .plans (hl _ (by simp))
  schedule := hschedule
  inputs _ := by rw [hinputs]; exact ⟨rfl, rfl, rfl, rfl⟩

/-- What leaves every configured block but the junctions' contexts. -/
theorem sameConfiguration_of_blocks {l : List Block} {s t : State} (h : Frame l s t)
    (hl : ∀ b ∈ [Block.settings, .groups, .plans, .junctions, .selector, .inputs], b ∉ l) : SameConfiguration s t :=
  sameConfiguration_of_frame h (fun b hb => hl b (by simp at hb ⊢; tauto))
    (congrArg geometry (h .junctions (hl _ (by simp)))) (congrArg Selector.schedule (h .selector (hl _ (by simp))))
    (h .inputs (hl _ (by simp)))

theorem sameConfiguration_setInputs {s : State} {v : Vector Input Config.inputCount}
    (h : ∀ k : Fin Config.inputCount, v[k].func = s.inputs[k].func ∧ v[k].polarity = s.inputs[k].polarity ∧
      v[k].assertTime = s.inputs[k].assertTime ∧ v[k].releaseTime = s.inputs[k].releaseTime) :
    SameConfiguration s (s.setInputs v) :=
  ⟨rfl, rfl, rfl, rfl, rfl, h⟩

theorem sameConfiguration_setValidated (k : Fin Config.inputCount) (v : Bool) (s : State) :
    SameConfiguration s (setValidated k v s) := by
  refine sameConfiguration_setInputs fun m => ?_
  rw [put_get]
  split
  · next h => subst h; exact ⟨rfl, rfl, rfl, rfl⟩
  · exact ⟨rfl, rfl, rfl, rfl⟩

theorem sampleInputs_get_exists (now : Ct) (l : Vector Level Config.inputCount) (v : Vector Input Config.inputCount)
    (k : Fin Config.inputCount) : (sampleInputs now l v)[k] = v[k].sample l[k] now := by
  match k with
  | 0 | 1 | 2 | 3 => rfl

theorem sameConfiguration_count (y : Level) (l : Vector Level Config.inputCount) (s : State) :
    SameConfiguration s (countOnce y l s) := by
  obtain ⟨a, ha⟩ := countPRef_selector s
  have hcount : SameConfiguration s (countPRef s) :=
    sameConfiguration_of_frame (frame_countPRef s) (by simp)
      (congrArg geometry (frame_countPRef s .junctions (by simp))) (by rw [ha]) (countPRef_inputs s)
  refine (hcount.trans (sameConfiguration_of_blocks (frame_setTime _ _) (by simp))).trans
    (sameConfiguration_setInputs fun k => ?_)
  rw [sampleInputs_get_exists, Input.sample_eq]
  exact ⟨rfl, rfl, rfl, rfl⟩

theorem sameConfiguration_clock (k : DayClock) (s : State) :
    SameConfiguration s (rederive (s.setTime (s.time.setClock k))) := by
  obtain ⟨a, ha⟩ := rederive_selector (s.setTime (s.time.setClock k))
  have hframe := frame_setClock k s
  exact sameConfiguration_of_frame hframe (by simp) (congrArg geometry (hframe .junctions (by simp))) (by rw [ha]; rfl)
    (hframe .inputs (by simp))

theorem sameConfiguration_step (d : Int) (s : State) : SameConfiguration s (applyStep d s) := by
  obtain ⟨a, ha⟩ := stepPRef_selector d s
  have hframe := frame_applyStep d s
  exact sameConfiguration_of_frame hframe (by simp) (congrArg geometry (hframe .junctions (by simp)))
    (by rw [show (applyStep d s).selector = (stepPRef d s).selector from rfl, ha]) (hframe .inputs (by simp))

/-- Every elementary change but an edit keeps the configuration. -/
theorem Change.sameConfiguration {s t : State} (h : Change s t) :
    SameConfiguration s t ∨ (s.port.editLock = false ∧ EditMove s t) := by
  cases h with
  | outside hframe _ _ _ => exact .inl (sameConfiguration_of_blocks hframe (by simp))
  | flags _ _ _ => exact .inl (sameConfiguration_of_blocks (frame_setTime s _) (by simp))
  | numbers hschedule _ _ _ =>
    exact .inl (sameConfiguration_of_frame (frame_setSelector s _) (by simp) rfl hschedule rfl)
  | plan h =>
    exact .inl (sameConfiguration_of_frame h.frame (by simp) h.geometry h.schedule (h.frame .inputs (by simp)))
  | edit hopen h => exact .inr ⟨hopen, h⟩
  | validated _ => exact .inl (sameConfiguration_setValidated _ _ s)
  | corridorFree _ =>
    have hframe := frame_corridorFreeChange s.corridorFree
    refine .inl ((sameConfiguration_setValidated _ _ s).trans (sameConfiguration_of_frame (hframe _) (by simp)
      (corridorFreeChange_geometry _ _) ?_ (hframe _ .inputs (by simp))))
    rw [hframe _ .selector (by simp)]
  | junction hq h =>
    exact .inl (sameConfiguration_of_frame (frame_setJunctions s _) (by simp) (geometry_set hq h.geometry) rfl rfl)
  | priorities _ => exact .inl (sameConfiguration_of_blocks (frame_setPriorities s _) (by simp))
  | platoons _ => exact .inl (sameConfiguration_of_blocks (frame_setPlatoons s _) (by simp))

theorem Change.editLock {s t : State} (h : Change s t) (hlock : s.port.editLock = true) :
    t.port.editLock = true := by
  cases h with
  | outside _ h _ _ => exact h hlock
  | plan h => exact (h.frame .editLock (by simp)).trans hlock
  | edit hopen _ => rw [hopen] at hlock; cases hlock
  | corridorFree _ => exact (frame_corridorFreeChange _ _ .editLock (by simp)).trans hlock
  | _ => exact hlock

/-- While the edit lock is set it stays set, and the configuration stays. -/
def LockedKeeps (s t : State) : Prop :=
  s.port.editLock = true → t.port.editLock = true ∧ SameConfiguration s t

theorem lockedKeeps_of_frame {l : List Block} {s t : State} (h : Frame l s t) (hl : .editLock ∉ l)
    (hsame : SameConfiguration s t) : LockedKeeps s t :=
  fun hlock => ⟨(h .editLock hl).trans hlock, hsame⟩

theorem kept_lockedKeeps : Kept LockedKeeps where
  refl s := fun h => ⟨h, .refl s⟩
  trans h g := fun hlock => by
    obtain ⟨hlock', hsame⟩ := h hlock
    obtain ⟨hlock'', hsame'⟩ := g hlock'
    exact ⟨hlock'', hsame.trans hsame'⟩
  change h := fun hlock => by
    refine ⟨h.editLock hlock, h.sameConfiguration.resolve_right ?_⟩
    rintro ⟨hopen, -⟩
    rw [hopen] at hlock
    cases hlock
  settle s t := lockedKeeps_of_frame (frame_settle s t) (by simp)
    (sameConfiguration_of_blocks (frame_settle s t) (by simp))
  clock _ := lockedKeeps_of_frame (frame_setClock _ _) (by simp) (sameConfiguration_clock _ _)
  step _ := lockedKeeps_of_frame (frame_applyStep _ _) (by simp) (sameConfiguration_step _ _)
  config _ := lockedKeeps_of_frame (frame_setAlerts _ _) (by simp)
    (sameConfiguration_of_blocks (frame_setAlerts _ _) (by simp))
  pulseEnd s := lockedKeeps_of_frame (frame_setAlerts s _) (by simp)
    (sameConfiguration_of_blocks (frame_setAlerts s _) (by simp))
  count y l s := lockedKeeps_of_frame (frame_countOnce y l s) (by simp) (sameConfiguration_count y l s)

end Sys2Proof.Machine

namespace Sys2Proof.Proofs

open Sys2Proof.Machine Sys2Proof.Safety

/-- Settles O6: every elementary change but an edit keeps the configuration, and no edit passes the lock. -/
theorem editLockFreezesConfiguration : Obligations.EditLockFreezesConfiguration :=
  fun _ _ _ hreset hlock hexec => kept_lockedKeeps.exec hexec hreset hlock

end Sys2Proof.Proofs
end

section
/-! SUPPORT. The ranges of the stored values (tables of 1.2, 2.1, 2.2, 2.4, 3.1, 4.1, 4.2 and 9.2), and the statement
about them. -/

namespace Sys2Proof.Machine

open Sys2Proof.Safety

/-! ## The day clock (table of 1.2) -/

theorem DayClock.carrySecond_inRange {k : DayClock} (h : ClockInRange k) : ClockInRange k.carrySecond := by
  unfold DayClock.carrySecond
  split
  · simp only [ClockInRange] at *
    omega
  · exact DayClock.carryMinute_inRange (by simp only [ClockInRange] at *; omega)

theorem DayClock.tick_inRange {k : DayClock} (h : ClockInRange k) : ClockInRange k.tick := by
  unfold DayClock.tick
  split
  · simp only [ClockInRange] at *
    omega
  · exact DayClock.carrySecond_inRange (by simp only [ClockInRange] at *; omega)

theorem DayClock.stepTo_inRange {k : DayClock} (h : ClockInRange k) (d : Int) : ClockInRange (k.stepTo d) := by
  by_cases hd : d < 0
  · rw [DayClock.stepTo_of_neg hd]
    exact DayClock.minuteStart_inRange h
  · exact (DayClock.stepTo_forward h (by omega)).1

/-! ## Values that stay where the configuration stays -/

/-- The plan numbers the selector holds are the same. -/
structure SameNumbers (s t : State) : Prop where
  scheduled : t.selector.scheduled = s.selector.scheduled
  hold : t.selector.holdPlan = s.selector.holdPlan
  requested : t.selector.requested = s.selector.requested
  lastEntry : t.selector.lastEntry = s.selector.lastEntry

theorem sameNumbers_of_frame {l : List Block} {s t : State} (h : Frame l s t) (hl : .selector ∉ l) :
    SameNumbers s t := by
  have hselector : t.selector = s.selector := h .selector hl
  exact ⟨by rw [hselector], by rw [hselector], by rw [hselector], by rw [hselector]⟩

theorem sameNumbers_of_selector {s t : State}
    (h : ∃ a q, t.selector = { s.selector with active := a, pendingPlan := q }) : SameNumbers s t := by
  obtain ⟨a, q, h⟩ := h
  exact ⟨by rw [h], by rw [h], by rw [h], by rw [h]⟩

theorem storeOk_of_same {s t : State} (hsame : SameConfiguration s t) (hnumbers : SameNumbers s t) (h : StoreOk s) :
    StoreOk t where
  plans := by rw [hsame.plans]; exact h.plans
  schedule := by rw [hsame.schedule]; exact h.schedule
  scheduled := hnumbers.scheduled ▸ h.scheduled
  hold := hnumbers.hold ▸ h.hold
  requested := hnumbers.requested ▸ h.requested
  lastEntry := hnumbers.lastEntry ▸ h.lastEntry
  forced k := (hsame.inputs k).1 ▸ h.forced k

theorem geometry_get {js ks : List Junction} (h : geometry ks = geometry js) {j : Nat} {q : Junction}
    (hq : ks[j]? = some q) : ∃ p, js[j]? = some p ∧ q.link = p.link ∧ q.smin = p.smin := by
  have hget : (geometry ks)[j]? = (geometry js)[j]? := by rw [h]
  simp only [geometry, List.getElem?_map, hq, Option.map_some] at hget
  obtain ⟨p, hp, heq⟩ := Option.map_eq_some_iff.mp hget.symm
  obtain ⟨hlink, hsmin⟩ := Prod.mk.inj heq
  exact ⟨p, hp, hlink.symm, hsmin.symm⟩

/-- What the corridor table says of each configured junction (table of 2.2). -/
def GeometryOk (js : List Junction) : Prop :=
  ∀ j q, js[j]? = some q → 50 ≤ q.smin ∧ q.smin ≤ 1200 ∧ linkSuits j js.length q.link = true

theorem geometryOk_of_corridorOk {s : State} (h : CorridorOk s) : GeometryOk s.junctions := by
  intro j q hq
  obtain ⟨hj, rfl⟩ := List.getElem?_eq_some_iff.mp hq
  obtain ⟨hlow, hhigh⟩ := h.smin _ (List.getElem_mem hj)
  exact ⟨hlow, hhigh, h.links j hj⟩

theorem corridorOk_of_geometryOk {s : State} (hcount : s.n = 0 ∨ (2 ≤ s.n ∧ s.n ≤ 24))
    (hsettings : SettingsInRange s.settings) (hgroups : ∀ k : Fin Config.groupCount, GroupInRange s.groups[k])
    (h : GeometryOk s.junctions) : CorridorOk s where
  count := hcount
  settings := hsettings
  groups := hgroups
  smin q hq := by
    obtain ⟨j, hj⟩ := List.mem_iff_getElem?.mp hq
    obtain ⟨hlow, hhigh, -⟩ := h j q hj
    exact ⟨hlow, hhigh⟩
  links j hj := by
    obtain ⟨-, -, hlink⟩ := h j _ (List.getElem?_eq_getElem hj)
    exact hlink

theorem geometryOk_of_geometry {js ks : List Junction} (h : geometry ks = geometry js) (hjs : GeometryOk js) :
    GeometryOk ks := by
  intro j q hq
  obtain ⟨p, hp, hlink, hsmin⟩ := geometry_get h hq
  rw [hlink, hsmin, geometry_length h]
  exact hjs j p hp

theorem corridorOk_of_same {s t : State} (hsame : SameConfiguration s t) (h : CorridorOk s) : CorridorOk t := by
  have hn : t.n = s.n := geometry_length hsame.geometry
  refine corridorOk_of_geometryOk (hn ▸ h.count) (hsame.settings ▸ h.settings) ?_
    (geometryOk_of_geometry hsame.geometry (geometryOk_of_corridorOk h))
  rw [hsame.groups]
  exact h.groups

theorem timeOk_of_frame {l : List Block} {s t : State} (h : Frame l s t) (htime : .time ∉ l) (hsettings : .settings ∉ l)
    (hs : TimeOk s) : TimeOk t := by
  have htime : t.time = s.time := h .time htime
  have hsettings : t.settings = s.settings := h .settings hsettings
  exact ⟨htime ▸ hs.clock, by rw [htime, hsettings]; exact hs.sync⟩

theorem corridorOk_of_frame {l : List Block} {s t : State} (h : Frame l s t)
    (hl : ∀ b ∈ [Block.settings, .groups, .junctions], b ∉ l) (hs : CorridorOk s) : CorridorOk t := by
  have hjunctions : t.junctions = s.junctions := h .junctions (hl _ (by simp))
  have hsettings : t.settings = s.settings := h .settings (hl _ (by simp))
  have hgroups : t.groups = s.groups := h .groups (hl _ (by simp))
  refine corridorOk_of_geometryOk ?_ (hsettings ▸ hs.settings) ?_ (hjunctions ▸ geometryOk_of_corridorOk hs)
  · rw [State.n, hjunctions]
    exact hs.count
  · rw [hgroups]
    exact hs.groups

theorem storeOk_of_frame {l : List Block} {s t : State} (h : Frame l s t)
    (hl : ∀ b ∈ [Block.plans, .selector, .inputs], b ∉ l) (hs : StoreOk s) : StoreOk t := by
  have hplans : t.plans = s.plans := h .plans (hl _ (by simp))
  have hselector : t.selector = s.selector := h .selector (hl _ (by simp))
  have hinputs : t.inputs = s.inputs := h .inputs (hl _ (by simp))
  exact ⟨by rw [hplans]; exact hs.plans, by rw [hselector]; exact hs.schedule, hselector ▸ hs.scheduled,
    hselector ▸ hs.hold, hselector ▸ hs.requested, hselector ▸ hs.lastEntry, by rw [hinputs]; exact hs.forced⟩

/-! ## The resized corridor (R19, R20) -/

theorem setLastLink_get {js : List Junction} {j : Nat} {q : Junction} (hq : js[j]? = some q) (link : Option Nat) :
    (setLastLink js link)[j]? = some (if j + 1 = js.length then { q with link := link } else q) := by
  have hj := (List.getElem?_eq_some_iff.mp hq).1
  have hend : (js.length - 1 = j) ↔ (j + 1 = js.length) := by omega
  rw [setLastLink, List.getElem?_modify, hq, Option.map_eq_map, Option.map_some]
  simp only [hend]

@[simp] theorem setLastLink_length (js : List Junction) (link : Option Nat) :
    (setLastLink js link).length = js.length := by simp [setLastLink]

@[simp] theorem newJunctions_length (groups : Vector GroupRange Config.groupCount) (i k : Nat) :
    (newJunctions groups i k).length = k := by simp [newJunctions]

theorem resize_length (groups : Vector GroupRange Config.groupCount) (js : List Junction) (n : Nat) :
    (resize groups js n).length = n := by
  unfold resize
  split
  · simp; omega
  · split
    · simp; omega
    · omega

/-- A junction that stays keeps everything but the link that the new end of the corridor gives or takes (R19, R20). -/
theorem resize_get_of_old {groups : Vector GroupRange Config.groupCount} {js : List Junction} {n j : Nat}
    {old : Junction} (hold : js[j]? = some old) (hj : j < n)
    (hlast : j + 1 = js.length → old.link = none) :
    (resize groups js n)[j]? = some { old with
      link := if j + 1 = n then none else if j + 1 = js.length then some 200 else old.link } := by
  have hlt := (List.getElem?_eq_some_iff.mp hold).1
  unfold resize
  split
  · rw [List.getElem?_append_left (by simpa using hlt), setLastLink_get hold,
      if_neg (show ¬ j + 1 = n by omega)]
    split <;> rfl
  · split
    · next hless =>
      have htake : (js.take n)[j]? = some old := by rw [List.getElem?_take, if_pos hj, hold]
      rw [setLastLink_get htake, List.length_take, Nat.min_eq_left hless.le]
      split
      · rfl
      · rw [if_neg (by omega)]
    · have hn : n = js.length := by omega
      subst hn
      rw [hold]
      split
      · next h => rw [← hlast h]
      · rfl

/-- A junction that a raise of N creates (R19). -/
theorem resize_get_of_new {groups : Vector GroupRange Config.groupCount} {js : List Junction} {n j : Nat}
    (hnew : js.length ≤ j) (hj : j < n) :
    (resize groups js n)[j]? =
      some (newJunction (if j + 1 = n then none else some 200) (effective groups j).exclude) := by
  unfold resize
  rw [if_pos (by omega), List.getElem?_append_right (by simpa using hnew), setLastLink_length, newJunctions,
    List.getElem?_map, List.getElem?_range (by omega)]
  have hindex : js.length + (j - js.length) = j := by omega
  have hend : j - js.length + 1 = n - js.length ↔ j + 1 = n := by omega
  simp only [Option.map_some, hindex, hend]

theorem linkSuits_some {j n l : Nat} (hj : j + 1 ≠ n) (hlow : 20 ≤ l) (hhigh : l ≤ 3000) :
    linkSuits j n (some l) = true := by
  simp [linkSuits, hj, hlow, hhigh]

theorem geometryOk_resize {js : List Junction} (h : GeometryOk js) (groups : Vector GroupRange Config.groupCount)
    (n : Nat) : GeometryOk (resize groups js n) := by
  intro j q hq
  have hj : j < n := resize_length groups js n ▸ (List.getElem?_eq_some_iff.mp hq).1
  rw [resize_length]
  cases hold : js[j]? with
  | none =>
    rw [resize_get_of_new (List.getElem?_eq_none_iff.mp hold) hj] at hq
    obtain rfl := Option.some.inj hq
    refine ⟨(by decide : 50 ≤ 200), (by decide : 200 ≤ 1200), ?_⟩
    by_cases hend : j + 1 = n
    · simp [newJunction, hend, linkSuits]
    · simp only [newJunction, if_neg hend]
      exact linkSuits_some hend (by decide) (by decide)
  | some old =>
    obtain ⟨hlow, hhigh, hlink⟩ := h j old hold
    have hlast : j + 1 = js.length → old.link = none := by
      intro hend
      cases hl : old.link with
      | none => rfl
      | some l => simp [linkSuits, hl, hend] at hlink
    rw [resize_get_of_old hold hj hlast] at hq
    obtain rfl := Option.some.inj hq
    refine ⟨hlow, hhigh, ?_⟩
    by_cases hend : j + 1 = n
    · simp [hend, linkSuits]
    · simp only [if_neg hend]
      split
      · exact linkSuits_some hend (by decide) (by decide)
      · next hnot =>
        cases hl : old.link with
        | none => simp [linkSuits, hl, hnot] at hlink
        | some l =>
          simp only [linkSuits, hl, Bool.and_eq_true, decide_eq_true_eq] at hlink
          exact linkSuits_some hend hlink.1.2 hlink.2

/-! ## The stored values -/

/-- Every stored value lies in the range its table gives. -/
def Stored (s : State) : Prop := TimeOk s ∧ CorridorOk s ∧ StoreOk s

theorem stored_of_same {l : List Block} {s t : State} (h : Frame l s t) (htime : .time ∉ l) (hsettings : .settings ∉ l)
    (hsame : SameConfiguration s t) (hnumbers : SameNumbers s t) (hs : Stored s) : Stored t :=
  ⟨timeOk_of_frame h htime hsettings hs.1, corridorOk_of_same hsame hs.2.1, storeOk_of_same hsame hnumbers hs.2.2⟩

theorem put_inRange {α : Type} {n : Nat} {v : Vector α n} {k : Fin n} {x : α} {P : α → Prop} (hx : P x)
    (h : ∀ i : Fin n, P v[i]) (i : Fin n) : P (put v k x)[i] := by
  rw [put_get]
  split
  · exact hx
  · exact h i

theorem timeOk_applyCorridor {v : Settings} {n : Nat} {s : State} (h : TimeOk s) : TimeOk (applyCorridor v n s) := by
  refine ⟨?_, ?_⟩
  · show ClockInRange (s.time.enableSync s.settings.syncEnable v.syncEnable).clock
    unfold TimeBase.enableSync
    split
    · exact h.clock
    · split <;> exact h.clock
  · show (s.time.enableSync s.settings.syncEnable v.syncEnable).syncLost = true → v.syncEnable = true
    have hsync := h.sync
    unfold TimeBase.enableSync
    cases hwas : s.settings.syncEnable <;> cases his : v.syncEnable <;> simp_all

theorem geometryOk_updateJunction {s : State} {j smin len : Nat} {link : Option Nat} (h : GeometryOk s.junctions)
    (hlow : 50 ≤ smin) (hhigh : smin ≤ 1200) (hlink : linkFor j s.n len = some link) :
    GeometryOk (s.updateJunction j fun q => { q with link := link, smin := smin }).junctions := by
  have hsuits : linkSuits j s.n link = true := by
    unfold linkFor at hlink
    split at hlink
    · next hend =>
      split at hlink
      · cases hlink
        simp [linkSuits, hend]
      · simp at hlink
    · next hend =>
      split at hlink
      · next hrange =>
        cases hlink
        simp only [Bool.and_eq_true, decide_eq_true_eq] at hrange
        exact linkSuits_some hend hrange.1 hrange.2
      · simp at hlink
  intro i q hq
  rw [updateJunction_length]
  rw [updateJunction_get] at hq
  split at hq
  · next hij =>
    subst hij
    obtain ⟨p, -, rfl⟩ := Option.map_eq_some_iff.mp hq
    exact ⟨hlow, hhigh, hsuits⟩
  · exact h i q hq

theorem frame_applyCorridor (v : Settings) (n : Nat) (s : State) :
    Frame [.time, .settings, .junctions] s (applyCorridor v n s) :=
  ((frame_setTime s _).mono (by simp)).trans
    (((frame_setSettings _ _).mono (by simp)).trans ((frame_setJunctions _ _).mono (by simp)))

theorem frame_updateJunction (j : Nat) (f : Junction → Junction) (s : State) :
    Frame [.junctions] s (s.updateJunction j f) := frame_setJunctions s _

theorem frame_applyGroup (k : Fin Config.groupCount) (g : GroupRange) (s : State) :
    Frame [.groups, .junctions] s (applyGroup k g s) :=
  ((frame_setGroups s _).mono (by simp)).trans ((frame_setJunctions _ _).mono (by simp))

theorem EditMove.stored {s t : State} (h : EditMove s t) (hs : Stored s) : Stored t := by
  obtain ⟨htime, hcorridor, hstore⟩ := hs
  cases h with
  | corridor _ hn hv =>
    refine ⟨timeOk_applyCorridor htime, corridorOk_of_geometryOk ?_ hv hcorridor.groups
      (geometryOk_resize (geometryOk_of_corridorOk hcorridor) _ _),
      storeOk_of_frame (frame_applyCorridor _ _ s) (by simp) hstore⟩
    rw [State.n, applyCorridor, State.setJunctions_junctions, resize_length]
    exact hn
  | junction _ _ hlow hhigh hlink =>
    have hframe := frame_updateJunction
    refine ⟨timeOk_of_frame (hframe _ _ s) (by simp) (by simp) htime,
      corridorOk_of_geometryOk ?_ hcorridor.settings hcorridor.groups
        (geometryOk_updateJunction (geometryOk_of_corridorOk hcorridor) hlow hhigh hlink),
      storeOk_of_frame (hframe _ _ s) (by simp) hstore⟩
    rw [State.n, updateJunction_length]
    exact hcorridor.count
  | @group k g hg =>
    have hframe := frame_applyGroup k g s
    have hgeometry : geometry (applyGroup k g s).junctions = geometry s.junctions :=
      geometry_mapIndexed (fun _ q => excludeChange_geometry _ _ _ _ _ q) 0 _
    refine ⟨timeOk_of_frame hframe (by simp) (by simp) htime,
      corridorOk_of_geometryOk ?_ hcorridor.settings (put_inRange hg hcorridor.groups)
        (geometryOk_of_geometry hgeometry (geometryOk_of_corridorOk hcorridor)),
      storeOk_of_frame hframe (by simp) hstore⟩
    rw [State.n, geometry_length hgeometry]
    exact hcorridor.count
  | @plan k _ hp _ _ =>
    have hframe := frame_setPlans s
    have hplans := put_inRange (k := k) (P := fun x : Option Plan => ∀ p : Plan, x = some p → p.inRange = true)
      (fun _ h => Option.some.inj h ▸ hp) hstore.plans
    exact ⟨timeOk_of_frame (hframe _) (by simp) (by simp) htime, corridorOk_of_frame (hframe _) (by simp) hcorridor,
      { hstore with plans := hplans }⟩
  | entry he =>
    have hframe := frame_setSelector s
    exact ⟨timeOk_of_frame (hframe _) (by simp) (by simp) htime, corridorOk_of_frame (hframe _) (by simp) hcorridor,
      { hstore with schedule := put_inRange he hstore.schedule }⟩
  | input hf _ =>
    have hframe := frame_setInputs s
    exact ⟨timeOk_of_frame (hframe _) (by simp) (by simp) htime, corridorOk_of_frame (hframe _) (by simp) hcorridor,
      { hstore with forced := put_inRange (P := fun i : Input => inputPlan i.func ≤ 8) hf hstore.forced }⟩

theorem PlanMove.numbers {s t : State} (h : PlanMove s t) : SameNumbers s t := by
  cases h <;> exact ⟨rfl, rfl, rfl, rfl⟩

theorem Change.stored {s t : State} (h : Change s t) (hs : Stored s) : Stored t := by
  rcases h.sameConfiguration with hsame | ⟨-, hedit⟩
  · cases h with
    | outside hframe _ _ _ =>
      exact stored_of_same hframe (by simp) (by simp) hsame (sameNumbers_of_frame hframe (by simp)) hs
    | flags _ hclock hsync =>
      obtain ⟨htime, hcorridor, hstore⟩ := hs
      exact ⟨⟨hclock ▸ htime.clock, fun h => (hsync h).elim htime.sync id⟩, corridorOk_of_same hsame hcorridor,
        storeOk_of_same hsame ⟨rfl, rfl, rfl, rfl⟩ hstore⟩
    | numbers _ _ _ hstore => exact ⟨⟨hs.1.clock, hs.1.sync⟩, corridorOk_of_same hsame hs.2.1, hstore hs.2.2⟩
    | plan h => exact stored_of_same h.frame (by simp) (by simp) hsame h.numbers hs
    | edit _ h => exact h.stored hs
    | validated _ =>
      exact stored_of_same (frame_setValidated _ _ s) (by simp) (by simp) hsame ⟨rfl, rfl, rfl, rfl⟩ hs
    | @corridorFree k v _ =>
      have hboth : Frame [.inputs, .junctions] s (corridorFreeChange s.corridorFree (setValidated k v s)) :=
        ((frame_setValidated k v s).mono (by simp)).trans ((frame_corridorFreeChange _ _).mono (by simp))
      exact stored_of_same hboth (by simp) (by simp) hsame (sameNumbers_of_frame hboth (by simp)) hs
    | junction _ _ =>
      exact stored_of_same (frame_setJunctions s _) (by simp) (by simp) hsame ⟨rfl, rfl, rfl, rfl⟩ hs
    | priorities _ =>
      exact stored_of_same (frame_setPriorities s _) (by simp) (by simp) hsame ⟨rfl, rfl, rfl, rfl⟩ hs
    | platoons _ =>
      exact stored_of_same (frame_setPlatoons s _) (by simp) (by simp) hsame ⟨rfl, rfl, rfl, rfl⟩ hs
  · exact hedit.stored hs

theorem stored_of_frame {l : List Block} {s t : State} (h : Frame l s t)
    (hl : ∀ b ∈ [Block.time, .settings, .groups, .plans, .junctions, .selector, .inputs], b ∉ l) (hs : Stored s) :
    Stored t :=
  stored_of_same h (hl _ (by simp)) (hl _ (by simp))
    (sameConfiguration_of_blocks h fun b hb => hl b (List.mem_cons_of_mem _ hb))
    (sameNumbers_of_frame h (hl _ (by simp))) hs

theorem countOnce_time (y : Level) (l : Vector Level Config.inputCount) (s : State) :
    (countOnce y l s).time = ((countPRef s).time.count).sampleSync y := rfl

/-- The boundary mark is all of the time base that P_ref moves. -/
theorem countPRef_time (s : State) : ∃ b, (countPRef s).time = { s.time with boundaryDue := b } := by
  unfold countPRef
  split
  · split <;> exact ⟨_, rfl⟩
  · exact ⟨_, rfl⟩

theorem kept_stored : Kept fun s t => Stored s → Stored t where
  refl _ := id
  trans h g := g ∘ h
  change h := h.stored
  settle s t := stored_of_frame (frame_settle s t) (by simp)
  clock {s k} hk hs := by
    obtain ⟨a, ha⟩ := rederive_selector (s.setTime (s.time.setClock k))
    have hsame := sameConfiguration_clock k s
    have htime : (rederive (s.setTime (s.time.setClock k))).time = s.time.setClock k := frame_rederive _ .time (by simp)
    refine ⟨⟨?_, ?_⟩, corridorOk_of_same hsame hs.2.1,
      storeOk_of_same hsame (sameNumbers_of_selector ⟨a, _, ha⟩) hs.2.2⟩
    · rw [htime]
      exact hk.2
    · rw [htime, hsame.settings]
      exact hs.1.sync
  step {s d} _ hs := by
    obtain ⟨a, ha⟩ := stepPRef_selector d s
    have hsame := sameConfiguration_step d s
    refine ⟨⟨DayClock.stepTo_inRange hs.1.clock d, ?_⟩, corridorOk_of_same hsame hs.2.1,
      storeOk_of_same hsame (sameNumbers_of_selector ⟨a, _, ha⟩) hs.2.2⟩
    rw [hsame.settings]
    exact hs.1.sync
  config _ := stored_of_frame (frame_setAlerts _ _) (by simp)
  pulseEnd s := stored_of_frame (frame_setAlerts s _) (by simp)
  count y l s hs := by
    obtain ⟨a, ha⟩ := countPRef_selector s
    obtain ⟨b, hb⟩ := countPRef_time s
    have hsame := sameConfiguration_count y l s
    refine ⟨⟨?_, ?_⟩, corridorOk_of_same hsame hs.2.1,
      storeOk_of_same hsame (sameNumbers_of_selector ⟨a, _, ha⟩) hs.2.2⟩
    · rw [countOnce_time, hb]
      exact DayClock.tick_inRange hs.1.clock
    · rw [countOnce_time, hb, hsame.settings]
      exact hs.1.sync

/-! ## The state after reset -/

theorem stored_resetBy (e : ResetEdge) (l : List Instr) : Stored ((resetBy e).setPending l) := by
  have hreset : Stored State.reset := by
    refine ⟨⟨by simp [ClockInRange, State.reset, TimeBase.reset], nofun⟩,
      corridorOk_of_geometryOk (.inl rfl) (by simp [SettingsInRange, State.reset]) (fun k => ?_) nofun,
      ⟨fun k p h => ?_, fun k => ?_, by decide, by decide, by decide, nofun, fun k => ?_⟩⟩
    · have hk : State.reset.groups[k] = ⟨0, 0, Attributes.empty⟩ := Vector.getElem_replicate ..
      rw [hk]
      exact ⟨by decide, by decide, fun _ => rfl⟩
    · have hk : State.reset.plans[k] = none := Vector.getElem_replicate ..
      rw [hk] at h
      cases h
    · have hk : State.reset.selector.schedule[k] = ⟨false, 0, 0, 0, 0⟩ := Vector.getElem_replicate ..
      rw [hk]
      exact ⟨by decide, by decide, by decide⟩
    · have hk : State.reset.inputs[k] = Input.reset := Vector.getElem_replicate ..
      rw [hk]
      decide
  obtain ⟨htime, hcorridor, hstore⟩ := hreset
  cases e with
  | fall => exact ⟨⟨htime.clock, htime.sync⟩, ⟨hcorridor.1, hcorridor.2, hcorridor.3, hcorridor.4, hcorridor.5⟩,
      ⟨hstore.1, hstore.2, hstore.3, hstore.4, hstore.5, hstore.6, hstore.7⟩⟩
  | rise y => exact ⟨⟨htime.clock, htime.sync⟩, ⟨hcorridor.1, hcorridor.2, hcorridor.3, hcorridor.4, hcorridor.5⟩,
      ⟨hstore.1, hstore.2, hstore.3, hstore.4, hstore.5, hstore.6, hstore.7⟩⟩

end Sys2Proof.Machine

namespace Sys2Proof.Proofs

open Sys2Proof.Machine Sys2Proof.Safety

/-- Settles O8: every elementary change keeps the stored values in range, and so do the clock's own moves. -/
theorem storedValuesStayInRange : Obligations.StoredValuesStayInRange :=
  fun _ _ htime hcorridor hstore hstep => step_keeps kept_stored stored_resetBy
    (fun s l => stored_of_frame (frame_setPending s l) (by simp)) ⟨htime, hcorridor, hstore⟩ hstep

end Sys2Proof.Proofs
end

section
/-! SUPPORT. Retirement notes, latched sources, the pulse and the result frame at every step, and the statement about
them. -/

namespace Sys2Proof.Machine

open Sys2Proof.Safety

/-! ## Retirement notes (R102, R104, R125) -/

section
variable {α : Type} {n : Nat} {v : Vector (Slot α) n}

theorem notesKept_put {k : Fin n} {x : Slot α} (hv : notesKept v)
    (hx : ∀ note, x.note = some note → x.live = none ∧ note.gen = x.gen) : notesKept (put v k x) := by
  intro i
  rw [put_get]
  split
  · exact hx
  · exact hv i

theorem notesKept_rewrite {k : Fin n} {r r' : α} (hv : notesKept v) (hlive : v[k].live = some r) :
    notesKept (rewrite v k r') :=
  notesKept_put hv fun note hnote => by
    have hempty := (hv k note hnote).1
    rw [hlive] at hempty
    cases hempty

theorem notesKept_place {k : Fin n} (hv : notesKept v) (r : α) : notesKept (put v k (v[k].place r)) :=
  notesKept_put hv nofun

theorem Slot.retire_note {s : Slot α} (hs : ∀ note, s.note = some note → s.live = none ∧ note.gen = s.gen)
    (c : RetireCause) (now : Ct) :
    ∀ note, (s.retire c now).note = some note → (s.retire c now).live = none ∧ note.gen = (s.retire c now).gen := by
  cases hlive : s.live with
  | none => rwa [Slot.retire_of_empty hlive]
  | some r =>
    rw [Slot.retire_of_live hlive]
    rintro note ⟨⟩
    exact ⟨rfl, rfl⟩

theorem notesKept_retireAt (hv : notesKept v) (k : Fin n) (c : RetireCause) (now : Ct) :
    notesKept (retireAt v k c now) :=
  notesKept_put hv (Slot.retire_note (hv k) c now)

theorem notesKept_retireAll (hv : notesKept v) (c : RetireCause) (now : Ct) : notesKept (retireAll v c now) := by
  intro i
  rw [retireAll_get]
  exact Slot.retire_note (hv i) c now

end

theorem grantRecords_get (accept : Priority → Bool) (kind : GrantKind) (now : Ct)
    (v : Vector (Slot Priority) Config.prioritySlots) (k : Fin Config.prioritySlots) :
    (grantRecords accept kind now v)[k] =
      { v[k] with live := v[k].live.map fun r => if accept r then r.grantAs kind now else r } := mapTable_get ..

theorem PriorityMove.notesKept {s : State} {v : Vector (Slot Priority) Config.prioritySlots} (h : PriorityMove s v)
    (hs : notesKept s.priorities) : Safety.notesKept v := by
  cases h with
  | granted accept kind now =>
    intro k
    rw [grantRecords_get]
    intro note hnote
    obtain ⟨hempty, hgen⟩ := hs k note hnote
    exact ⟨by rw [hempty]; rfl, hgen⟩
  | rewritten hlive _ _ => exact notesKept_rewrite hs hlive
  | placed _ _ _ _ => exact notesKept_place hs _
  | retired k cause => exact notesKept_retireAt hs k cause _
  | cleared => exact notesKept_retireAll hs _ _

theorem PlatoonMove.notesKept {s : State} {v : Vector (Slot Platoon) Config.platoonSlots} (h : PlatoonMove s v)
    (hs : notesKept s.platoons) : Safety.notesKept v := by
  cases h with
  | rewritten hlive _ _ => exact notesKept_rewrite hs hlive
  | placed _ _ _ _ => exact notesKept_place hs _
  | retired k cause => exact notesKept_retireAt hs k cause _
  | cleared => exact notesKept_retireAll hs _ _

theorem notesOk_of_frame {l : List Block} {s t : State} (h : Frame l s t) (hplatoons : .platoons ∉ l)
    (hpriorities : .priorities ∉ l) (hs : NotesOk s) : NotesOk t := by
  have hp : t.platoons = s.platoons := h .platoons hplatoons
  have hr : t.priorities = s.priorities := h .priorities hpriorities
  rw [NotesOk, hp, hr]
  exact hs

/-! ## The alert unit and the port (R168, R169, R173) -/

theorem alertsOk_of_frame {l : List Block} {s t : State} (h : Frame l s t) (hl : .alertConfig ∉ l)
    (hpulse : .pulseEnd ∉ l) (hlatched : t.alerts.latched &&& ~~~latchedSources = 0) (hs : AlertsOk s) :
    AlertsOk t := by
  obtain ⟨-, hglobal, hmode, -, -⟩ := h .alertConfig hl
  have hend : t.alerts.pulseEnd = s.alerts.pulseEnd := h .pulseEnd hpulse
  exact ⟨hlatched, by rw [hend, hmode, hglobal]; exact hs.pulse⟩

theorem alertsOk_settle (s t : State) (ht : AlertsOk t) : AlertsOk (settle s t) := by
  refine ⟨by rw [settle_latched]; exact ht.latched, ?_⟩
  rw [settle_mode, settle_global, settle_eq]
  by_cases hjoin : t.alerts.mode = .pulse ∧ joined s t ≠ 0
  · refine fun _ => ⟨hjoin.1, ?_⟩
    cases hglobal : t.alerts.global with
    | true => rfl
    | false => exact absurd (by simp [joined, State.activeSet, hglobal]) hjoin.2
  · simp only [if_neg hjoin]
    exact ht.pulse

theorem alertsOk_of_config {q : AlertFields} {s : State} {a : Alerts} (h : q.config s.alerts = some a)
    (hs : AlertsOk s) : AlertsOk (s.setAlerts a) := by
  unfold AlertFields.config at h
  split at h
  · cases h
    refine ⟨hs.latched, ?_⟩
    simp only [State.setAlerts_alerts]
    split
    · next hon =>
      simp only [Bool.and_eq_true, beq_iff_eq] at hon
      exact fun _ => ⟨hon.2, hon.1⟩
    · nofun
  · simp at h

/-- Notes, alert unit and result frame, as the statement takes them together. -/
def Sound (s : State) : Prop := NotesOk s ∧ AlertsOk s ∧ FrameFits s.port.state

theorem sound_of_frame {l : List Block} {s t : State} (h : Frame l s t)
    (hl : ∀ b ∈ [Block.platoons, .priorities, .alertConfig, .pulseEnd, .latched, .port], b ∉ l) (hs : Sound s) :
    Sound t := by
  obtain ⟨hnotes, halerts, hfits⟩ := hs
  have hlatched : t.alerts.latched = s.alerts.latched := h .latched (hl _ (by simp))
  have hport : t.port.state = s.port.state := (h .port (hl _ (by simp))).1
  exact ⟨notesOk_of_frame h (hl _ (by simp)) (hl _ (by simp)) hnotes,
    alertsOk_of_frame h (hl _ (by simp)) (hl _ (by simp)) (hlatched ▸ halerts.latched) halerts, hport ▸ hfits⟩

theorem latch_planChanged {s : State} (h : s.alerts.latched &&& ~~~latchedSources = 0) :
    (s.latch .planChanged).alerts.latched &&& ~~~latchedSources = 0 := by
  rw [latch_eq, State.setAlerts_alerts, BitVec.and_or_distrib_right, h]
  rfl

theorem PlanMove.sound {s t : State} (h : PlanMove s t) (hs : Sound s) : Sound t := by
  obtain ⟨hnotes, halerts, hfits⟩ := hs
  have halert : t.alerts.latched &&& ~~~latchedSources = 0 → AlertsOk t := fun hlatched =>
    alertsOk_of_frame h.frame (by simp) (by simp) hlatched halerts
  have hport : t.port.state = s.port.state := (h.frame .port (by simp)).1
  refine ⟨?_, halert ?_, hport ▸ hfits⟩
  · cases h with
    | plan0 _ => exact ⟨notesKept_retireAll hnotes.1 _ _, notesKept_retireAll hnotes.2 _ _⟩
    | _ => exact hnotes
  · cases h with
    | cancelled | pends _ _ _ => exact halerts.latched
    | _ => exact latch_planChanged halerts.latched

theorem EditMove.frame {s t : State} (h : EditMove s t) :
    Frame [.time, .settings, .groups, .junctions, .plans, .selector, .inputs] s t := by
  cases h with
  | corridor _ _ _ => exact (frame_applyCorridor _ _ s).mono (by simp)
  | junction _ _ _ _ _ => exact (frame_updateJunction _ _ s).mono (by simp)
  | group _ => exact (frame_applyGroup _ _ s).mono (by simp)
  | plan _ _ _ => exact (frame_setPlans s _).mono (by simp)
  | entry _ => exact (frame_setSelector s _).mono (by simp)
  | input _ _ => exact (frame_setInputs s _).mono (by simp)

theorem Change.sound {s t : State} (h : Change s t) (hs : Sound s) : Sound t := by
  cases h with
  | outside hframe _ hlatched hfits =>
    exact ⟨notesOk_of_frame hframe (by simp) (by simp) hs.1,
      alertsOk_of_frame hframe (by simp) (by simp) (hlatched hs.2.1.latched) hs.2.1, hfits hs.2.2⟩
  | flags _ _ _ => exact sound_of_frame (frame_setTime s _) (by simp) hs
  | numbers _ _ _ _ => exact sound_of_frame (frame_setSelector s _) (by simp) hs
  | plan h => exact h.sound hs
  | edit _ h => exact sound_of_frame h.frame (by simp) hs
  | validated _ => exact sound_of_frame (frame_setValidated _ _ s) (by simp) hs
  | corridorFree _ =>
    exact sound_of_frame (frame_corridorFreeChange _ _) (by simp)
      (sound_of_frame (frame_setValidated _ _ s) (by simp) hs)
  | junction _ _ => exact sound_of_frame (frame_setJunctions s _) (by simp) hs
  | priorities h => exact ⟨⟨hs.1.1, h.notesKept hs.1.2⟩, ⟨hs.2.1.latched, hs.2.1.pulse⟩, hs.2.2⟩
  | platoons h => exact ⟨⟨h.notesKept hs.1.1, hs.1.2⟩, ⟨hs.2.1.latched, hs.2.1.pulse⟩, hs.2.2⟩

theorem kept_sound : Kept fun s t => Sound s → Sound t where
  refl _ := id
  trans h g := g ∘ h
  change h := h.sound
  settle s t ht :=
    ⟨notesOk_of_frame (frame_settle s t) (by simp) (by simp) ht.1, alertsOk_settle s t ht.2.1,
      by rw [settle_port]; exact ht.2.2⟩
  clock _ := sound_of_frame (frame_setClock _ _) (by simp)
  step _ := sound_of_frame (frame_applyStep _ _) (by simp)
  config h hs := ⟨hs.1, alertsOk_of_config h hs.2.1, hs.2.2⟩
  pulseEnd s hs := ⟨hs.1, ⟨hs.2.1.latched, nofun⟩, hs.2.2⟩
  count y l s := sound_of_frame (frame_countOnce y l s) (by simp)

theorem sound_resetBy (e : ResetEdge) (l : List Instr) : Sound ((resetBy e).setPending l) := by
  have hnotes : NotesOk State.reset := by
    refine ⟨fun k note h => ?_, fun k note h => ?_⟩
    · have hk : State.reset.platoons[k] = ⟨0, none, none⟩ := Vector.getElem_replicate ..
      rw [hk] at h
      cases h
    · have hk : State.reset.priorities[k] = ⟨0, none, none⟩ := Vector.getElem_replicate ..
      rw [hk] at h
      cases h
  have hlatched : (0 : SourceSet) &&& ~~~latchedSources = 0 := by decide
  cases e <;> exact ⟨hnotes, ⟨hlatched, nofun⟩, trivial⟩

end Sys2Proof.Machine

namespace Sys2Proof.Proofs

open Sys2Proof.Machine Sys2Proof.Safety

/-- Settles O9: the table moves keep the notes, a joining source needs the global enable, and every owner's payload
fits. -/
theorem notesAlertsAndFramesStaySound : Obligations.NotesAlertsAndFramesStaySound :=
  fun _ _ hnotes halerts hfits hstep => step_keeps kept_sound sound_resetBy
    (fun s l => sound_of_frame (frame_setPending s l) (by simp)) ⟨hnotes, halerts, hfits⟩ hstep

end Sys2Proof.Proofs
end

section
/-! SUPPORT. The active and the pending plan at every step (R36, R38, R40), and the statement about them. -/

namespace Sys2Proof.Machine

open Sys2Proof.Safety

/-! ## Validation reads the geometry alone (R36) -/

theorem firstOverfull_congr (p : Plan) {js ks : List Junction} (h : geometry ks = geometry js) (i : Nat) :
    firstOverfull p i ks = firstOverfull p i js := by
  induction js generalizing i ks with
  | nil =>
    obtain rfl : ks = [] := List.length_eq_zero_iff.mp (geometry_length h)
    rfl
  | cons q js ih =>
    obtain ⟨r, ks, rfl⟩ := List.exists_cons_of_length_eq_add_one (geometry_length h)
    simp only [geometry, List.map_cons, List.cons.injEq, Prod.mk.injEq] at h
    obtain ⟨⟨-, hsmin⟩, htail⟩ := h
    simp only [firstOverfull, hsmin, ih htail]

theorem failedCheck_congr (p : Plan) {js ks : List Junction} (h : geometry ks = geometry js) :
    failedCheck p ks = failedCheck p js := by
  simp only [failedCheck, geometry_length h, firstOverfull_congr p h]

theorem planRecord_congr {s t : State} (h : t.plans = s.plans) (n : Nat) : t.planRecord n = s.planRecord n := by
  simp only [State.planRecord, h]

theorem validPlan_congr {s t : State} (hplans : t.plans = s.plans) (hgeometry : geometry t.junctions = geometry s.junctions)
    {n : Nat} (h : ValidPlan n s) : ValidPlan n t := by
  obtain ⟨p, hrecord, hcheck⟩ := h
  exact ⟨p, (planRecord_congr hplans n).trans hrecord, (failedCheck_congr p hgeometry).trans hcheck⟩

/-- What a plan that passes the checks has (R36). -/
theorem cycle_of_valid {p : Plan} {js : List Junction} (h : failedCheck p js = none) :
    2 ≤ js.length ∧ p.b < p.c ∧ p.o0 < p.c := by
  obtain ⟨hlength, hb⟩ := size_and_cycle_of_valid h
  refine ⟨hlength, hb, ?_⟩
  unfold failedCheck at h
  split_ifs at h
  omega

theorem derivePRef_lt {p : Plan} (hc : 0 < p.c) (k : DayClock) : derivePRef p k < p.c := by
  have h := derivePRef_eq hc k
  have hlt := Int.emod_lt_of_pos ((k.tod : Int) - p.b) (by omega : (0 : Int) < p.c)
  omega

theorem nextOffset_lt {c : Nat} (hc : 0 < c) (w tIn tOut prev : Nat) : nextOffset c w tIn tOut prev < c := by
  have hlt := Int.emod_lt_of_pos ((prev : Int) + offsetIncrement c w tIn tOut) (by omega : (0 : Int) < c)
  simp only [nextOffset]
  omega

theorem mem_offsetsAfter_lt {c w prev o : Nat} (hc : 0 < c) {links : List (Nat × Nat)}
    (ho : o ∈ offsetsAfter c w prev links) : o < c := by
  induction links generalizing prev with
  | nil => simp [offsetsAfter] at ho
  | cons x links ih =>
    rcases List.mem_cons.mp ho with rfl | ho
    · exact nextOffset_lt hc ..
    · exact ih ho

theorem formActive_agrees {s : State} {p : Plan} (number : Nat) (h : failedCheck p s.junctions = none) :
    ActiveAgrees (formActive number p s) p s.n := by
  obtain ⟨hlength, hb, ho⟩ := cycle_of_valid h
  have hc : 0 < p.c := by omega
  have hn : 2 ≤ s.n := hlength
  have hoffsets := formActive_offsets hn number p
  have hlinks : (formActive number p s).tIn.length + 1 = s.n ∧ (formActive number p s).tOut.length + 1 = s.n := by
    simp only [formActive, linkTimes_length, State.n] at *
    omega
  refine ⟨derivePRef_lt hc _, ?_, ?_, hlinks⟩
  · rw [hoffsets, planOffsets_length p (by omega), hlinks.1]
  · rw [hoffsets]
    intro o hmem
    rcases List.mem_cons.mp hmem with rfl | hmem
    · exact ho
    · exact mem_offsetsAfter_lt hc hmem

/-! ## What leaves the plans as they are -/

theorem plansOk_of_same {s t : State} (hactive : t.selector.active = s.selector.active)
    (hpending : t.selector.pendingPlan = s.selector.pendingPlan) (hclock : t.time.clock.valid = s.time.clock.valid)
    (hplans : t.plans = s.plans) (hgeometry : geometry t.junctions = geometry s.junctions) (hs : PlansOk s) :
    PlansOk t where
  active a ha := by
    obtain ⟨hvalid, p, hrecord, hcheck, hagrees⟩ := hs.active a (hactive ▸ ha)
    refine ⟨hclock.trans hvalid, p, (planRecord_congr hplans _).trans hrecord,
      (failedCheck_congr p hgeometry).trans hcheck, ?_⟩
    rw [State.n, geometry_length hgeometry]
    exact hagrees
  pending q hq := by
    obtain ⟨hsome, hne, hvalid⟩ := hs.pending q (hpending ▸ hq)
    refine ⟨hactive ▸ hsome, ?_, hvalid.imp_right (validPlan_congr hplans hgeometry)⟩
    rw [State.activeNumber, hactive]
    exact hne

theorem plansOk_of_frame {l : List Block} {s t : State} (h : Frame l s t)
    (hl : ∀ b ∈ [Block.time, .plans, .junctions, .selector], b ∉ l) (hs : PlansOk s) : PlansOk t := by
  have hselector : t.selector = s.selector := h .selector (hl _ (by simp))
  have htime : t.time = s.time := h .time (hl _ (by simp))
  exact plansOk_of_same (by rw [hselector]) (by rw [hselector]) (by rw [htime]) (h .plans (hl _ (by simp)))
    (congrArg geometry (h .junctions (hl _ (by simp)))) hs

/-- While no plan is active none is pending, and nothing is asked of the plans. -/
theorem plansOk_of_inactive {s t : State} (hs : PlansOk s) (hinactive : s.selector.active = none)
    (hselector : t.selector = s.selector) : PlansOk t where
  active a ha := by
    rw [hselector, hinactive] at ha
    cases ha
  pending q hq := by
    have hsome := (hs.pending q (hselector ▸ hq)).1
    rw [hinactive] at hsome
    cases hsome

/-! ## P_ref moves below C (R12 to R14) -/

/-- Only the position within the cycle of the active plan has moved, and it lies below C. -/
theorem plansOk_of_pRef {s t : State} {a : ActivePlan} {p : Plan} {x : Nat} (hs : PlansOk s)
    (hplan : s.activeRecord = some (a, p)) (hx : x < p.c)
    (hselector : t.selector = { s.selector with active := some { a with pRef := x } })
    (hclock : s.time.clock.valid = true → t.time.clock.valid = true) (hplans : t.plans = s.plans)
    (hjunctions : t.junctions = s.junctions) : PlansOk t where
  active b hb := by
    obtain ⟨ha, hrecord⟩ := active_of_activeRecord hplan
    obtain ⟨hvalid, p', hrecord', hcheck, -, hrest⟩ := hs.active a ha
    obtain rfl := Option.some.inj (hrecord.symm.trans hrecord')
    rw [hselector] at hb
    obtain rfl := Option.some.inj hb
    exact ⟨hclock hvalid, p, (planRecord_congr hplans _).trans hrecord, hjunctions ▸ hcheck, hx,
      by rw [State.n, hjunctions]; exact hrest⟩
  pending q hq := by
    obtain ⟨ha, -⟩ := active_of_activeRecord hplan
    rw [hselector] at hq
    obtain ⟨-, hne, hvalid⟩ := hs.pending q hq
    refine ⟨by rw [hselector]; rfl, ?_, hvalid.imp_right (validPlan_congr hplans (congrArg geometry hjunctions))⟩
    rw [State.activeNumber, ha] at hne
    rw [State.activeNumber, hselector]
    exact hne

theorem inactive_of_no_record {s : State} (hs : PlansOk s) (h : s.activeRecord = none) : s.selector.active = none := by
  cases ha : s.selector.active with
  | none => rfl
  | some a =>
    obtain ⟨-, p, hrecord, -⟩ := hs.active a ha
    simp [State.activeRecord, ha, hrecord] at h

/-- The record of the active plan passes its checks, so its cycle is not empty. -/
theorem cycle_pos_of_active {s : State} {a : ActivePlan} {p : Plan} (hs : PlansOk s)
    (hplan : s.activeRecord = some (a, p)) : 0 < p.c := by
  obtain ⟨ha, hrecord⟩ := active_of_activeRecord hplan
  obtain ⟨-, p', hrecord', hcheck, -⟩ := hs.active a ha
  obtain rfl := Option.some.inj (hrecord.symm.trans hrecord')
  have hcycle := (cycle_of_valid hcheck).2.1
  omega

@[simp] theorem DayClock.carryDay_valid (k : DayClock) : k.carryDay.valid = k.valid := rfl

@[simp] theorem DayClock.carryHour_valid (k : DayClock) : k.carryHour.valid = k.valid := by
  unfold DayClock.carryHour
  split <;> rfl

@[simp] theorem DayClock.carryMinute_valid (k : DayClock) : k.carryMinute.valid = k.valid := by
  unfold DayClock.carryMinute
  split
  · rfl
  · rw [DayClock.carryHour_valid]

@[simp] theorem DayClock.tick_valid (k : DayClock) : k.tick.valid = k.valid := by
  unfold DayClock.tick DayClock.carrySecond
  split
  · rfl
  · split
    · rfl
    · rw [DayClock.carryMinute_valid]

@[simp] theorem DayClock.stepTo_valid (k : DayClock) (d : Int) : (k.stepTo d).valid = k.valid := by
  unfold DayClock.stepTo
  split
  · rfl
  · rw [DayClock.carryMinute_valid]

/-! ## Every elementary change -/

theorem plansOk_takeEffect {n : Nat} {p : Plan} {s : State} (hclock : s.time.clock.valid = true)
    (hrecord : s.planRecord n = some p) (hcheck : failedCheck p s.junctions = none) : PlansOk (takeEffect n p s) where
  active a ha := by
    have ha : some (formActive n p s) = some a := ha
    obtain rfl := Option.some.inj ha
    have hgeometry : geometry (takeEffect n p s).junctions = geometry s.junctions :=
      geometry_mapIndexed (fun _ q => planEffect_geometry _ _ _ q) 0 _
    refine ⟨hclock, p, hrecord, (failedCheck_congr p hgeometry).trans hcheck, ?_⟩
    rw [State.n, geometry_length hgeometry]
    exact formActive_agrees n hcheck
  pending q hq := by
    have hq : none = some q := hq
    cases hq

theorem PlanMove.plansOk {s t : State} (h : PlanMove s t) (hs : PlansOk s) : PlansOk t := by
  cases h with
  | cancelled => exact ⟨hs.active, nofun⟩
  | pends hn hactive hvalid =>
    refine ⟨hs.active, fun q hq => ?_⟩
    obtain rfl := Option.some.inj hq
    exact ⟨hactive, hn, hvalid⟩
  | takes _ hclock hrecord hcheck => exact plansOk_takeEffect hclock hrecord hcheck
  | boundary hpending hn hrecord =>
    obtain ⟨hactive, -, hvalid⟩ := hs.pending _ hpending
    obtain ⟨a, ha⟩ := Option.isSome_iff_exists.mp hactive
    obtain ⟨p', hrecord', hcheck⟩ := hvalid.resolve_left hn
    obtain rfl := Option.some.inj (hrecord.symm.trans hrecord')
    exact plansOk_takeEffect (hs.active a ha).1 hrecord hcheck
  | plan0 _ => exact ⟨nofun, nofun⟩

theorem planRecord_put {s : State} {k : Fin Config.planCount} {p : Plan} {n : Nat} (hn : n ≠ k.val + 1) :
    (s.setPlans (put s.plans k (some p))).planRecord n = s.planRecord n := by
  unfold State.planRecord
  split
  · rfl
  · cases hi : index? Config.planCount (n - 1) with
    | none => rfl
    | some i =>
      have hne : i ≠ k := by
        rintro rfl
        have := index?_eq_some.mp hi
        omega
      show (put s.plans k (some p))[i] = s.plans[i]
      rw [put_get, if_neg hne]

theorem plansOk_setPlan {s : State} {k : Fin Config.planCount} {p : Plan} (hactive : k.val + 1 ≠ s.activeNumber)
    (hpending : s.selector.pendingPlan ≠ some (k.val + 1)) (hs : PlansOk s) :
    PlansOk (s.setPlans (put s.plans k (some p))) where
  active a ha := by
    obtain ⟨hvalid, p', hrecord, hrest⟩ := hs.active a ha
    have hne : a.number ≠ k.val + 1 := by
      have ha : s.selector.active = some a := ha
      rw [State.activeNumber, ha] at hactive
      exact fun e => hactive e.symm
    exact ⟨hvalid, p', (planRecord_put hne).trans hrecord, hrest⟩
  pending q hq := by
    obtain ⟨hsome, hne, hvalid⟩ := hs.pending q hq
    refine ⟨hsome, hne, hvalid.imp_right ?_⟩
    rintro ⟨p', hrecord, hcheck⟩
    have hq' : q ≠ k.val + 1 := fun e => hpending (e ▸ hq)
    exact ⟨p', (planRecord_put hq').trans hrecord, hcheck⟩

theorem EditMove.plansOk {s t : State} (h : EditMove s t) (hs : PlansOk s) : PlansOk t := by
  cases h with
  | corridor hactive _ _ => exact plansOk_of_inactive hs hactive rfl
  | junction hactive _ _ _ _ => exact plansOk_of_inactive hs hactive rfl
  | group _ =>
    exact plansOk_of_same (s := s) rfl rfl rfl rfl (geometry_mapIndexed (fun _ q => excludeChange_geometry _ _ _ _ _ q) 0 _)
      hs
  | plan _ hactive hpending => exact plansOk_setPlan hactive hpending hs
  | entry _ => exact plansOk_of_same (s := s) rfl rfl rfl rfl rfl hs
  | input _ _ => exact plansOk_of_same (s := s) rfl rfl rfl rfl rfl hs

theorem Change.plansOk {s t : State} (h : Change s t) (hs : PlansOk s) : PlansOk t := by
  cases h with
  | outside hframe _ _ _ => exact plansOk_of_frame hframe (by simp) hs
  | flags _ hclock _ => exact plansOk_of_same (s := s) rfl rfl (congrArg DayClock.valid hclock) rfl rfl hs
  | numbers _ hactive hpending _ => exact plansOk_of_same (s := s) hactive hpending rfl rfl rfl hs
  | plan h => exact h.plansOk hs
  | edit _ h => exact h.plansOk hs
  | validated _ => exact plansOk_of_frame (frame_setValidated _ _ s) (by simp) hs
  | @corridorFree k v _ =>
    have hframe := frame_corridorFreeChange s.corridorFree (setValidated k v s)
    exact plansOk_of_same (s := s) (congrArg Selector.active (hframe .selector (by simp)))
      (congrArg Selector.pendingPlan (hframe .selector (by simp)))
      (congrArg (fun b : TimeBase => b.clock.valid) (hframe .time (by simp))) (hframe .plans (by simp))
      (corridorFreeChange_geometry _ _) hs
  | junction hq h => exact plansOk_of_same (s := s) rfl rfl rfl rfl (geometry_set hq h.geometry) hs
  | priorities _ => exact plansOk_of_frame (frame_setPriorities s _) (by simp) hs
  | platoons _ => exact plansOk_of_frame (frame_setPlatoons s _) (by simp) hs

theorem activeRecord_setTime (s : State) (v : TimeBase) : (s.setTime v).activeRecord = s.activeRecord := rfl

theorem plansOk_rederive {s : State} {k : DayClock} (hk : Settable k) (hs : PlansOk s) :
    PlansOk (rederive (s.setTime (s.time.setClock k))) := by
  unfold rederive
  rw [activeRecord_setTime]
  split
  · next a p hplan =>
    exact plansOk_of_pRef hs hplan (derivePRef_lt (cycle_pos_of_active hs hplan) _) rfl (fun _ => hk.1) rfl rfl
  · next hnone => exact plansOk_of_inactive hs (inactive_of_no_record hs hnone) rfl

theorem emod_toNat_lt {c : Nat} (hc : 0 < c) (x : Int) : (x % (c : Int)).toNat < c := by
  have hlt := Int.emod_lt_of_pos x (by omega : (0 : Int) < c)
  omega

theorem plansOk_applyStep {s : State} (d : Int) (hs : PlansOk s) : PlansOk (applyStep d s) := by
  unfold applyStep stepPRef
  split
  · next a p hplan =>
    exact plansOk_of_pRef hs hplan (emod_toNat_lt (cycle_pos_of_active hs hplan) _) rfl
      (fun h => (DayClock.stepTo_valid _ d).trans h) rfl rfl
  · next hnone => exact plansOk_of_inactive hs (inactive_of_no_record hs hnone) rfl

theorem plansOk_countOnce {s : State} (y : Level) (l : Vector Level Config.inputCount) (hs : PlansOk s) :
    PlansOk (countOnce y l s) := by
  unfold countOnce countPRef
  split
  · next a p hplan =>
    split
    · next hlt =>
      exact plansOk_of_pRef hs hplan hlt rfl (fun h => (DayClock.tick_valid _).trans h) rfl rfl
    · exact plansOk_of_pRef hs hplan (cycle_pos_of_active hs hplan) rfl (fun h => (DayClock.tick_valid _).trans h) rfl rfl
  · next hnone => exact plansOk_of_inactive hs (inactive_of_no_record hs hnone) rfl

theorem kept_plansOk : Kept fun s t => PlansOk s → PlansOk t where
  refl _ := id
  trans h g := g ∘ h
  change h := h.plansOk
  settle s t := plansOk_of_frame (frame_settle s t) (by simp)
  clock hk := plansOk_rederive hk
  step {_ d} _ := plansOk_applyStep d
  config _ := plansOk_of_frame (frame_setAlerts _ _) (by simp)
  pulseEnd s := plansOk_of_frame (frame_setAlerts s _) (by simp)
  count y l _ := plansOk_countOnce y l

theorem plansOk_resetBy (e : ResetEdge) (l : List Instr) : PlansOk ((resetBy e).setPending l) := by
  cases e <;> exact ⟨nofun, nofun⟩

end Sys2Proof.Machine

namespace Sys2Proof.Proofs

open Sys2Proof.Machine Sys2Proof.Safety

/-- Settles O10: validation reads the geometry alone, and what takes effect or becomes pending has passed it. -/
theorem planInEffectStaysValid : Obligations.PlanInEffectStaysValid :=
  fun _ _ hs hstep => step_keeps kept_plansOk plansOk_resetBy
    (fun s l => plansOk_of_frame (frame_setPending s l) (by simp)) hs hstep

end Sys2Proof.Proofs
end

section
/-! SUPPORT. The states of the junctions at every step (R28, R29, R44, R47, R63, R148, R149), the records under plan 0
(R48), and the statement about them. -/

namespace Sys2Proof.Machine

open Sys2Proof.Safety

/-! ## One junction -/

section
variable {b free x : Bool} {q : Junction}

/-- Stage 5 of R40: whatever plan was active, the state suits the new coordinated one. -/
theorem planEffect_suits (now : Ct) (h : stateSuits b free x q.state = true) :
    stateSuits true free x (planEffect now x free q).state = true := by
  unfold planEffect
  cases hq : q.state with
  | seek w | inStep w =>
    rw [hq] at h
    simp only [stateSuits, Bool.and_eq_true] at h
    exact Bool.and_eq_true_iff.mpr ⟨h.1.2, h.2⟩
  | free cause =>
    rw [hq] at h
    cases cause <;> cases x <;> cases free <;> simp_all [stateSuits, joinPlan, enterSeek]
  | preempt start deadline r => cases x <;> cases free <;> rfl

/-- Stage 3 of R47: whatever plan was active, the state suits plan 0. -/
theorem plan0Effect_suits (h : stateSuits b free x q.state = true) :
    stateSuits false free x (plan0Effect x q).state = true := by
  unfold plan0Effect
  cases hq : q.state with
  | seek w | inStep w => cases x <;> rfl
  | free cause =>
    rw [hq] at h
    cases cause <;> cases x <;> simp_all [stateSuits, leaveToPlan0]
  | preempt start deadline r => cases x <;> rfl

theorem gainExclude_suits : stateSuits b free true (gainExclude q).state = true := by
  unfold gainExclude
  cases q.state <;> rfl

theorem afterExclude_suits (now : Ct) : stateSuits b free false ((afterExclude b free).enter now) = true := by
  cases b <;> cases free <;> rfl

theorem loseExclude_suits (now : Ct) (h : stateSuits b free true q.state = true) :
    stateSuits b free false (loseExclude now b free q).state = true := by
  unfold loseExclude
  cases hq : q.state with
  | seek w | inStep w => simp [hq, stateSuits] at h
  | free cause =>
    rw [hq] at h
    cases cause with
    | excluded => exact afterExclude_suits now
    | plan0 | corridorFree | fault => simp [stateSuits] at h
  | preempt start deadline r =>
    rw [hq] at h
    cases r with
    | excluded => cases b <;> cases free <;> rfl
    | plan0 | corridorFree | seek => simp [stateSuits, returnSuits] at h

/-- R28, R29: the state suits the EXCLUDE membership as it is. -/
theorem excludeChange_suits (now : Ct) {was is : Bool} (h : stateSuits b free was q.state = true) :
    stateSuits b free is (excludeChange now b free was is q).state = true := by
  cases was <;> cases is
  · exact h
  · exact gainExclude_suits
  · exact loseExclude_suits now h
  · exact h

/-- R148: the state suits CORRIDOR_FREE validated. -/
theorem freeByCorridor_suits (h : stateSuits b false x q.state = true) :
    stateSuits b true x (freeByCorridor q).state = true := by
  unfold freeByCorridor
  cases hq : q.state with
  | seek w | inStep w => simpa [hq, stateSuits] using h
  | free cause => cases cause <;> simp_all [stateSuits]
  | preempt start deadline r => cases r <;> simp_all [stateSuits, returnSuits]

/-- R149: the state suits CORRIDOR_FREE released. -/
theorem rejoinCorridor_suits (now : Ct) (h : stateSuits b true x q.state = true) :
    stateSuits b false x (rejoinCorridor now q).state = true := by
  unfold rejoinCorridor
  cases hq : q.state with
  | seek w | inStep w => simp [hq, stateSuits] at h
  | free cause => cases cause <;> simp_all [stateSuits, enterSeek]
  | preempt start deadline r => cases r <;> simp_all [stateSuits, returnSuits]

theorem resynced_suits (now : Ct) (hfault : q.state = .free .fault) (h : stateSuits b free x q.state = true) :
    stateSuits b free x (q.resynced now free).state = true := by
  rw [hfault] at h
  cases free <;> simpa [stateSuits, Junction.resynced, enterSeek] using h

theorem beginPreempt_suits (now : Ct) (pmax : Nat) (h : stateSuits b free x q.state = true) :
    stateSuits b free x (beginPreempt now pmax free q).state = true := by
  unfold beginPreempt
  cases hq : q.state with
  | seek w | inStep w => simpa [hq, stateSuits, returnSuits, returnOf] using h
  | free cause => cases cause <;> cases free <;> simp_all [stateSuits, returnSuits, returnOf]
  | preempt start deadline r => simpa [hq, stateSuits, returnOf] using h

theorem endPreempt_suits (now : Ct) (h : stateSuits b free x q.state = true) :
    stateSuits b free x (endPreempt now q).state = true := by
  unfold endPreempt
  cases hq : q.state with
  | seek w | inStep w | free cause => rwa [hq] at h ⊢
  | preempt start deadline r =>
    rw [hq] at h
    cases r <;> exact h

/-- A booking leaves a coordinated junction coordinated, or faulted; any other as it is. -/
theorem bookJunction_suits (now : Ct) (p : Plan) (j : Nat) (e : Int) (h : stateSuits b free x q.state = true) :
    stateSuits b free x (bookJunction now p j e q).state = true := by
  have hfault : ∀ w, q.state = .seek w ∨ q.state = .inStep w → stateSuits b free x (.free .fault) = true := by
    rintro w (hq | hq) <;> rw [hq] at h <;> simp_all [stateSuits]
  unfold bookJunction
  cases hq : q.state with
  | seek w | inStep w =>
    rw [hq] at h
    dsimp only
    split
    · exact h
    · exact h
    · exact hfault w (by simp [hq])
  | free cause | preempt start deadline r => rwa [hq] at h ⊢

theorem setCycle_suits (c : Cycle) : stateSuits b free x (q.setCycle c).state = stateSuits b free x q.state := by
  unfold Junction.setCycle
  cases hq : q.state <;> simp [Coordination.window?, Coordination.setWindow, stateSuits, hq]

theorem JunctionMove.suits {s : State} {j : Nat} {q' : Junction} (hmove : JunctionMove s j q q')
    (h : stateSuits b s.corridorFree x q.state = true) : stateSuits b s.corridorFree x q'.state = true := by
  cases hmove with
  | resync hfault => exact resynced_suits s.now hfault h
  | spill d e => cases d <;> exact h
  | begins => exact beginPreempt_suits _ _ h
  | ends => exact endPreempt_suits _ h
  | books _ => exact bookJunction_suits _ _ _ _ h
  | closes _ | stretches _ _ _ | shortens _ _ _ => rwa [setCycle_suits]
  | grants _ => exact h

end

/-! ## Every junction -/

theorem junctionsSuit_iff {s : State} : JunctionsSuit s ↔ ∀ j q, s.junctions[j]? = some q →
    stateSuits s.selector.active.isSome s.corridorFree (s.attributes j).exclude q.state = true := by
  constructor
  · intro h j q hq
    obtain ⟨hj, rfl⟩ := List.getElem?_eq_some_iff.mp hq
    exact h j hj
  · intro h j hj
    exact h j _ (List.getElem?_eq_getElem hj)

theorem corridorFree_congr {s t : State} (h : ∀ k : Fin 4, t.inputs[k].func = s.inputs[k].func ∧
    t.inputs[k].validated = s.inputs[k].validated) : t.corridorFree = s.corridorFree := by
  rw [Bool.eq_iff_iff, corridorFree_eq_true, corridorFree_eq_true]
  exact exists_congr fun k => by rw [(h k).1, (h k).2]

theorem corridorFree_of_inputs {s t : State} (h : t.inputs = s.inputs) : t.corridorFree = s.corridorFree := by
  rw [State.corridorFree, h, State.corridorFree]

theorem corridorFree_setJunctions (s : State) (js : List Junction) :
    (s.setJunctions js).corridorFree = s.corridorFree := rfl

/-- What keeps the attributes, CORRIDOR_FREE and whether a coordinated plan is active, and every junction. -/
theorem junctionsSuit_of_same {s t : State} (hactive : t.selector.active.isSome = s.selector.active.isSome)
    (hfree : t.corridorFree = s.corridorFree) (hgroups : t.groups = s.groups) (hjunctions : t.junctions = s.junctions)
    (hs : JunctionsSuit s) : JunctionsSuit t := by
  refine junctionsSuit_iff.mpr fun j q hq => ?_
  rw [hactive, hfree, State.attributes, hgroups]
  exact junctionsSuit_iff.mp hs j q (hjunctions ▸ hq)

theorem junctionsSuit_of_frame {l : List Block} {s t : State} (h : Frame l s t)
    (hl : ∀ b ∈ [Block.groups, .junctions, .selector, .inputs], b ∉ l) (hs : JunctionsSuit s) : JunctionsSuit t := by
  have hselector : t.selector = s.selector := h .selector (hl _ (by simp))
  exact junctionsSuit_of_same (by rw [hselector]) (corridorFree_of_inputs (h .inputs (hl _ (by simp))))
    (h .groups (hl _ (by simp))) (h .junctions (hl _ (by simp))) hs

theorem junctionsSuit_takeEffect {s : State} (n : Nat) (p : Plan) (hs : JunctionsSuit s) :
    JunctionsSuit (takeEffect n p s) := by
  refine junctionsSuit_iff.mpr fun j q hq => ?_
  rw [takeEffect_junctions_get] at hq
  obtain ⟨old, hold, rfl⟩ := Option.map_eq_some_iff.mp hq
  exact planEffect_suits s.now (junctionsSuit_iff.mp hs j old hold)

theorem takeEffectPlan0_junctions_get (s : State) (j : Nat) :
    (takeEffectPlan0 s).junctions[j]? = (s.junctions[j]?).map (plan0Effect (s.attributes j).exclude) := by
  simp [takeEffectPlan0, latch_eq, mapIndexed_get]

theorem PlanMove.junctionsSuit {s t : State} (h : PlanMove s t) (hs : JunctionsSuit s) : JunctionsSuit t := by
  cases h with
  | cancelled | pends _ _ _ => exact junctionsSuit_of_same (s := s) rfl rfl rfl rfl hs
  | takes _ _ _ _ | boundary _ _ _ => exact junctionsSuit_takeEffect _ _ hs
  | plan0 _ =>
    refine junctionsSuit_iff.mpr fun j q hq => ?_
    rw [takeEffectPlan0_junctions_get] at hq
    obtain ⟨old, hold, rfl⟩ := Option.map_eq_some_iff.mp hq
    exact plan0Effect_suits (junctionsSuit_iff.mp hs j old hold)

theorem applyGroup_junctions_get (k : Fin Config.groupCount) (g : GroupRange) (s : State) (j : Nat) :
    (applyGroup k g s).junctions[j]? = (s.junctions[j]?).map (excludeChange s.now s.selector.active.isSome
      s.corridorFree (s.attributes j).exclude (effective (put s.groups k g) j).exclude) := by
  simp [applyGroup, mapIndexed_get]

theorem junctionsSuit_applyGroup {s : State} (k : Fin Config.groupCount) (g : GroupRange) (hs : JunctionsSuit s) :
    JunctionsSuit (applyGroup k g s) := by
  refine junctionsSuit_iff.mpr fun j q hq => ?_
  rw [applyGroup_junctions_get] at hq
  obtain ⟨old, hold, rfl⟩ := Option.map_eq_some_iff.mp hq
  exact excludeChange_suits s.now (junctionsSuit_iff.mp hs j old hold)

theorem newJunction_suits (link : Option Nat) (free x : Bool) :
    stateSuits false free x (newJunction link x).state = true := by
  cases x <;> rfl

theorem setLastLink_state {js : List Junction} {link : Option Nat} {j : Nat} {q : Junction}
    (h : (setLastLink js link)[j]? = some q) : ∃ old, js[j]? = some old ∧ q.state = old.state := by
  rw [setLastLink, List.getElem?_modify] at h
  obtain ⟨old, hold, rfl⟩ := Option.map_eq_some_iff.mp h
  exact ⟨old, hold, by split <;> rfl⟩

/-- A junction of the resized corridor is one that stood there before, or a new one (R19, R20). -/
theorem resize_cases {groups : Vector GroupRange Config.groupCount} {js : List Junction} {n j : Nat} {q : Junction}
    (h : (resize groups js n)[j]? = some q) : (∃ old, js[j]? = some old ∧ q.state = old.state) ∨
      ∃ link, q = newJunction link (effective groups j).exclude := by
  have hj : j < n := resize_length groups js n ▸ (List.getElem?_eq_some_iff.mp h).1
  by_cases hold : j < js.length
  · refine .inl ?_
    unfold resize at h
    split at h
    · rw [List.getElem?_append_left (by simpa using hold)] at h
      exact setLastLink_state h
    · split at h
      · obtain ⟨old, hget, hstate⟩ := setLastLink_state h
        rw [List.getElem?_take, if_pos hj] at hget
        exact ⟨old, hget, hstate⟩
      · exact ⟨q, h, rfl⟩
  · rw [resize_get_of_new (by omega) hj] at h
    exact .inr ⟨_, (Option.some.inj h).symm⟩

theorem junctionsSuit_applyCorridor {s : State} (v : Settings) (n : Nat) (hactive : s.selector.active = none)
    (hs : JunctionsSuit s) : JunctionsSuit (applyCorridor v n s) := by
  refine junctionsSuit_iff.mpr fun j q hq => ?_
  rcases resize_cases hq with ⟨old, hold, hstate⟩ | ⟨link, rfl⟩
  · rw [hstate]
    exact junctionsSuit_iff.mp hs j old hold
  · have hnone : (applyCorridor v n s).selector.active.isSome = false := by
      rw [show (applyCorridor v n s).selector = s.selector from rfl, hactive]
      rfl
    rw [hnone]
    exact newJunction_suits ..

/-- An input that is not validated active does not count for CORRIDOR_FREE, whatever its function. -/
theorem configureInput_corridorFree {s : State} {k : Fin Config.inputCount} (h : s.inputs[k].validated = false)
    (f : InputFunction) (p : Polarity) (a r : Nat) : (configureInput k f p a r s).corridorFree = s.corridorFree := by
  rw [Bool.eq_iff_iff, corridorFree_eq_true, corridorFree_eq_true]
  refine exists_congr fun m => ?_
  have hget : (configureInput k f p a r s).inputs[m] = if m = k then
      { s.inputs[k] with func := f, polarity := p, assertTime := a, releaseTime := r, runStart := none }
      else s.inputs[m] := put_get ..
  rw [hget]
  split
  · next hm =>
    subst hm
    exact iff_of_false (fun hself => by rw [h] at hself; cases hself.2) fun hself => by rw [h] at hself; cases hself.2
  · rfl

theorem junctionsSuit_updateJunction {s : State} {j : Nat} {f : Junction → Junction}
    (hf : ∀ q, (f q).state = q.state) (hs : JunctionsSuit s) : JunctionsSuit (s.updateJunction j f) := by
  refine junctionsSuit_iff.mpr fun i q hq => ?_
  rw [updateJunction_get] at hq
  split at hq
  · obtain ⟨old, hold, rfl⟩ := Option.map_eq_some_iff.mp hq
    rw [hf]
    exact junctionsSuit_iff.mp hs i old hold
  · exact junctionsSuit_iff.mp hs i q hq

theorem EditMove.junctionsSuit {s t : State} (h : EditMove s t) (hs : JunctionsSuit s) : JunctionsSuit t := by
  cases h with
  | corridor hactive _ _ => exact junctionsSuit_applyCorridor _ _ hactive hs
  | junction _ _ _ _ _ => exact junctionsSuit_updateJunction (fun _ => rfl) hs
  | group _ => exact junctionsSuit_applyGroup _ _ hs
  | plan _ _ _ | entry _ => exact junctionsSuit_of_same (s := s) rfl rfl rfl rfl hs
  | input _ hreleased => exact junctionsSuit_of_same (s := s) rfl (configureInput_corridorFree hreleased _ _ _ _) rfl rfl hs

/-- The junctions of a state once each has been moved by `f` as CORRIDOR_FREE goes from `s` to `t`. -/
theorem junctionsSuit_map {s t : State} {f : Junction → Junction}
    (hf : ∀ b x q, stateSuits b s.corridorFree x q.state = true → stateSuits b t.corridorFree x (f q).state = true)
    (hs : JunctionsSuit s) (hactive : t.selector.active = s.selector.active) (hgroups : t.groups = s.groups)
    (hjunctions : t.junctions = s.junctions.map f) : JunctionsSuit t := by
  refine junctionsSuit_iff.mpr fun j q hq => ?_
  rw [hjunctions, List.getElem?_map] at hq
  obtain ⟨old, hold, rfl⟩ := Option.map_eq_some_iff.mp hq
  rw [hactive, State.attributes, hgroups]
  exact hf _ _ old (junctionsSuit_iff.mp hs j old hold)

/-- The junctions follow the combined CORRIDOR_FREE from what it was to what it is (R148). -/
theorem junctionsSuit_corridorFreeChange {s : State} (k : Fin Config.inputCount) (v : Bool) (hs : JunctionsSuit s) :
    JunctionsSuit (corridorFreeChange s.corridorFree (setValidated k v s)) := by
  cases hwas : s.corridorFree <;> cases his : (setValidated k v s).corridorFree
  · rw [corridorFreeChange_of_same his]
    exact junctionsSuit_of_same (s := s) rfl (his.trans hwas.symm) rfl rfl hs
  · rw [corridorFreeChange_of_validated his]
    refine junctionsSuit_map (f := freeByCorridor) (fun b x q h => ?_) hs rfl rfl rfl
    rw [hwas] at h
    rw [corridorFree_setJunctions, his]
    exact freeByCorridor_suits h
  · rw [corridorFreeChange_of_released his]
    refine junctionsSuit_map (f := rejoinCorridor s.now) (fun b x q h => ?_) hs rfl rfl rfl
    rw [hwas] at h
    rw [corridorFree_setJunctions, his]
    exact rejoinCorridor_suits s.now h
  · rw [corridorFreeChange_of_same his]
    exact junctionsSuit_of_same (s := s) rfl (his.trans hwas.symm) rfl rfl hs

theorem junctionsSuit_set {s : State} {j : Nat} {q q' : Junction} (hq : s.junctions[j]? = some q)
    (h : JunctionMove s j q q') (hs : JunctionsSuit s) : JunctionsSuit (s.setJunctions (s.junctions.set j q')) := by
  refine junctionsSuit_iff.mpr fun i r hr => ?_
  have hr : (s.junctions.set j q')[i]? = some r := hr
  by_cases hij : j = i
  · subst hij
    rw [List.getElem?_set_self (List.getElem?_eq_some_iff.mp hq).1] at hr
    obtain rfl := Option.some.inj hr
    exact h.suits (junctionsSuit_iff.mp hs j q hq)
  · rw [List.getElem?_set_ne hij] at hr
    exact junctionsSuit_iff.mp hs i r hr

theorem Change.junctionsSuit {s t : State} (h : Change s t) (hs : JunctionsSuit s) : JunctionsSuit t := by
  cases h with
  | outside hframe _ _ _ => exact junctionsSuit_of_frame hframe (by simp) hs
  | flags _ _ _ => exact junctionsSuit_of_same (s := s) rfl rfl rfl rfl hs
  | numbers _ hactive _ _ => exact junctionsSuit_of_same (s := s) (congrArg Option.isSome hactive) rfl rfl rfl hs
  | plan h => exact h.junctionsSuit hs
  | edit _ h => exact h.junctionsSuit hs
  | validated hfunc => exact junctionsSuit_of_same (s := s) rfl (setValidated_corridorFree_of_func hfunc _) rfl rfl hs
  | corridorFree _ => exact junctionsSuit_corridorFreeChange _ _ hs
  | junction hq h => exact junctionsSuit_set hq h hs
  | priorities _ | platoons _ => exact junctionsSuit_of_same (s := s) rfl rfl rfl rfl hs

/-! ## Whether a coordinated plan is active -/

theorem setActive_isSome {s : State} {a b : ActivePlan} {p : Plan} (h : s.activeRecord = some (a, p)) :
    (s.setActive b).selector.active.isSome = s.selector.active.isSome := by
  rw [(active_of_activeRecord h).1]
  rfl

theorem rederive_isSome (s : State) : (rederive s).selector.active.isSome = s.selector.active.isSome := by
  unfold rederive
  split
  · next h => exact setActive_isSome h
  · rfl

theorem applyStep_isSome (d : Int) (s : State) :
    (applyStep d s).selector.active.isSome = s.selector.active.isSome := by
  unfold applyStep stepPRef
  split
  · next h => exact setActive_isSome (s := s) h
  · rfl

theorem countPRef_isSome (s : State) : (countPRef s).selector.active.isSome = s.selector.active.isSome := by
  unfold countPRef
  split
  · next h => split <;> exact setActive_isSome h
  · rfl

theorem countOnce_isSome (y : Level) (l : Vector Level Config.inputCount) (s : State) :
    (countOnce y l s).selector.active.isSome = s.selector.active.isSome := countPRef_isSome s

theorem countOnce_corridorFree (y : Level) (l : Vector Level Config.inputCount) (s : State) :
    (countOnce y l s).corridorFree = s.corridorFree := by
  refine corridorFree_congr fun k => ?_
  have hget : (countOnce y l s).inputs[k] = (countPRef s).inputs[k].sample l[k] _ := sampleInputs_get_exists _ _ _ k
  rw [hget, countPRef_inputs, Input.sample_eq]
  exact ⟨rfl, rfl⟩

theorem kept_junctionsSuit : Kept fun s t => JunctionsSuit s → JunctionsSuit t where
  refl _ := id
  trans h g := g ∘ h
  change h := h.junctionsSuit
  settle s t := junctionsSuit_of_frame (frame_settle s t) (by simp)
  clock {s k} _ :=
    junctionsSuit_of_same (rederive_isSome _) (corridorFree_of_inputs (frame_setClock k s .inputs (by simp)))
      (frame_setClock k s .groups (by simp)) (frame_setClock k s .junctions (by simp))
  step {s d} _ :=
    junctionsSuit_of_same (applyStep_isSome d s) (corridorFree_of_inputs (frame_applyStep d s .inputs (by simp)))
      (frame_applyStep d s .groups (by simp)) (frame_applyStep d s .junctions (by simp))
  config _ := junctionsSuit_of_frame (frame_setAlerts _ _) (by simp)
  pulseEnd s := junctionsSuit_of_frame (frame_setAlerts s _) (by simp)
  count y l s :=
    junctionsSuit_of_same (countOnce_isSome y l s) (countOnce_corridorFree y l s)
      (frame_countOnce y l s .groups (by simp)) (frame_countOnce y l s .junctions (by simp))

theorem junctionsSuit_resetBy (e : ResetEdge) (l : List Instr) : JunctionsSuit ((resetBy e).setPending l) := by
  cases e <;> exact fun _ h => absurd h (Nat.not_lt_zero _)

/-! ## The records under plan 0 (R48) -/

/-- What keeps the records and whether a coordinated plan is active. -/
theorem quiet_of_same {s t : State} (hactive : t.selector.active.isSome = s.selector.active.isSome)
    (hplatoons : t.platoons = s.platoons) (hpriorities : t.priorities = s.priorities) (hs : QuietUnderPlan0 s) :
    QuietUnderPlan0 t := by
  intro hnone
  have hinactive : s.selector.active = none := by
    rw [hnone] at hactive
    exact Option.isSome_eq_false_iff.mp hactive.symm |> Option.isNone_iff_eq_none.mp
  rw [State.livePlatoons, State.livePriorities, hplatoons, hpriorities]
  exact hs hinactive

theorem quiet_of_frame {l : List Block} {s t : State} (h : Frame l s t)
    (hl : ∀ b ∈ [Block.selector, .platoons, .priorities], b ∉ l) (hs : QuietUnderPlan0 s) : QuietUnderPlan0 t := by
  have hselector : t.selector = s.selector := h .selector (hl _ (by simp))
  exact quiet_of_same (by rw [hselector]) (h .platoons (hl _ (by simp))) (h .priorities (hl _ (by simp))) hs

theorem PlanMove.quiet {s t : State} (h : PlanMove s t) (hs : QuietUnderPlan0 s) : QuietUnderPlan0 t := by
  cases h with
  | cancelled | pends _ _ _ => exact quiet_of_same (s := s) rfl rfl rfl hs
  | takes _ _ _ _ | boundary _ _ _ => exact nofun
  | plan0 _ => exact fun _ => ⟨lives_retireAll .., lives_retireAll ..⟩

theorem EditMove.quiet {s t : State} (h : EditMove s t) (hs : QuietUnderPlan0 s) : QuietUnderPlan0 t := by
  cases h <;> exact quiet_of_same (s := s) rfl rfl rfl hs

theorem lives_map_eq_nil {α : Type} {n : Nat} {v w : Vector (Slot α) n}
    (h : ∀ k : Fin n, v[k].live = none → w[k].live = none) (hv : lives v = []) : lives w = [] :=
  lives_eq_nil.mpr fun k => h k (lives_eq_nil.mp hv k)

/-- Nothing live comes into an empty priority list under plan 0. -/
theorem PriorityMove.lives_eq_nil {s : State} {v : Vector (Slot Priority) Config.prioritySlots}
    (h : PriorityMove s v) (hactive : s.selector.active = none) (hs : lives s.priorities = []) : lives v = [] := by
  cases h with
  | granted accept kind now =>
    refine lives_map_eq_nil (fun k hk => ?_) hs
    rw [grantRecords, mapTable_get, hk]
    rfl
  | rewritten hlive _ _ =>
    rw [Machine.lives_eq_nil.mp hs] at hlive
    cases hlive
  | placed _ hsome _ _ =>
    rw [hactive] at hsome
    cases hsome
  | retired k cause =>
    refine lives_map_eq_nil (fun m hm => ?_) hs
    rw [retireAt_get]
    split
    · exact (Slot.retire_spec ..).1
    · exact hm
  | cleared => exact lives_retireAll ..

/-- Nothing live comes into an empty platoon table under plan 0. -/
theorem PlatoonMove.lives_eq_nil {s : State} {v : Vector (Slot Platoon) Config.platoonSlots}
    (h : PlatoonMove s v) (hactive : s.selector.active = none) (hs : lives s.platoons = []) : lives v = [] := by
  cases h with
  | rewritten hlive _ _ =>
    rw [Machine.lives_eq_nil.mp hs] at hlive
    cases hlive
  | placed _ hsome _ _ =>
    rw [hactive] at hsome
    cases hsome
  | retired k cause =>
    refine lives_map_eq_nil (fun m hm => ?_) hs
    rw [retireAt_get]
    split
    · exact (Slot.retire_spec ..).1
    · exact hm
  | cleared => exact lives_retireAll ..

theorem Change.quiet {s t : State} (h : Change s t) (hs : QuietUnderPlan0 s) : QuietUnderPlan0 t := by
  cases h with
  | outside hframe _ _ _ => exact quiet_of_frame hframe (by simp) hs
  | flags _ _ _ => exact quiet_of_same (s := s) rfl rfl rfl hs
  | numbers _ hactive _ _ => exact quiet_of_same (s := s) (congrArg Option.isSome hactive) rfl rfl hs
  | plan h => exact h.quiet hs
  | edit _ h => exact h.quiet hs
  | validated _ => exact quiet_of_same (s := s) rfl rfl rfl hs
  | @corridorFree k v _ =>
    exact quiet_of_frame (((frame_setValidated k v s).mono (by simp)).trans ((frame_corridorFreeChange _ _).mono (by simp))
      : Frame [.inputs, .junctions] s _) (by simp) hs
  | junction _ _ => exact quiet_of_same (s := s) rfl rfl rfl hs
  | priorities h => exact fun hnone => ⟨(hs hnone).1, h.lives_eq_nil hnone (hs hnone).2⟩
  | platoons h => exact fun hnone => ⟨h.lives_eq_nil hnone (hs hnone).1, (hs hnone).2⟩

theorem kept_quiet : Kept fun s t => QuietUnderPlan0 s → QuietUnderPlan0 t where
  refl _ := id
  trans h g := g ∘ h
  change h := h.quiet
  settle s t := quiet_of_frame (frame_settle s t) (by simp)
  clock {s k} _ := quiet_of_same (rederive_isSome _) (frame_setClock k s .platoons (by simp))
    (frame_setClock k s .priorities (by simp))
  step {s d} _ := quiet_of_same (applyStep_isSome d s) (frame_applyStep d s .platoons (by simp))
    (frame_applyStep d s .priorities (by simp))
  config _ := quiet_of_frame (frame_setAlerts _ _) (by simp)
  pulseEnd s := quiet_of_frame (frame_setAlerts s _) (by simp)
  count y l s := quiet_of_same (countOnce_isSome y l s) (frame_countOnce y l s .platoons (by simp))
    (frame_countOnce y l s .priorities (by simp))

theorem quiet_resetBy (e : ResetEdge) (l : List Instr) : QuietUnderPlan0 ((resetBy e).setPending l) := by
  have hplatoons : lives State.reset.platoons = [] := lives_eq_nil.mpr fun k => by
    rw [show State.reset.platoons[k] = ⟨0, none, none⟩ from Vector.getElem_replicate ..]
  have hpriorities : lives State.reset.priorities = [] := lives_eq_nil.mpr fun k => by
    rw [show State.reset.priorities[k] = ⟨0, none, none⟩ from Vector.getElem_replicate ..]
  cases e <;> exact fun _ => ⟨hplatoons, hpriorities⟩

end Sys2Proof.Machine

namespace Sys2Proof.Proofs

open Sys2Proof.Machine Sys2Proof.Safety

/-- Settles O11: every move of a junction leads to a state that suits it, and a record comes only under a coordinated
plan. -/
theorem junctionsStaySuited : Obligations.JunctionsStaySuited :=
  fun _ _ hsuit hquiet hstep =>
    ⟨step_keeps kept_junctionsSuit junctionsSuit_resetBy
      (fun s l => junctionsSuit_of_frame (frame_setPending s l) (by simp)) hsuit hstep,
     step_keeps kept_quiet quiet_resetBy (fun s l => quiet_of_frame (frame_setPending s l) (by simp)) hquiet hstep⟩

end Sys2Proof.Proofs
end

section
/-! SUPPORT. The cycles and the lockouts of the junctions at every step (R46, R86, R96), and the statement about
them. -/

namespace Sys2Proof.Machine

open Sys2Proof.Safety

/-! ## One junction -/

/-- The booked cycle, if there is one, and the lockout are in bounds. -/
def CycleOk (q : Junction) : Prop := (∀ c, q.cycle? = some c → CycleInBounds c) ∧ q.lockout ≤ 7

section
variable {q q' : Junction}

theorem cycleOk_of_same (hcycle : ∀ c, q'.cycle? = some c → q.cycle? = some c) (hlockout : q'.lockout ≤ q.lockout)
    (h : CycleOk q) : CycleOk q' :=
  ⟨fun c hc => h.1 c (hcycle c hc), hlockout.trans h.2⟩

/-- A junction that leaves its window loses its cycle (R66). -/
theorem cycleOk_of_none (hcycle : q'.cycle? = none) (hlockout : q'.lockout ≤ q.lockout) (h : CycleOk q) :
    CycleOk q' :=
  cycleOk_of_same (fun c hc => by rw [hcycle] at hc; cases hc) hlockout h

theorem cycleOk_planEffect (now : Ct) (x free : Bool) (h : CycleOk q) : CycleOk (planEffect now x free q) := by
  unfold planEffect
  cases hq : q.state with
  | seek w | inStep w =>
    exact cycleOk_of_same (q := q) (fun c hc => by rw [Junction.cycle?, hq]; exact hc) le_rfl h
  | free cause =>
    have hjoin : CycleOk (joinPlan now free q) :=
      cycleOk_of_none (by cases free <;> rfl) (Nat.zero_le _) h
    cases cause with
    | plan0 | fault => cases x <;> assumption
    | excluded | corridorFree => exact h
  | preempt start deadline r => exact cycleOk_of_none (q := q) rfl le_rfl h

theorem cycleOk_plan0Effect (x : Bool) (h : CycleOk q) : CycleOk (plan0Effect x q) := by
  have hleave : CycleOk (leaveToPlan0 x q) := cycleOk_of_none rfl (Nat.zero_le _) h
  unfold plan0Effect
  cases hq : q.state with
  | seek w | inStep w => exact hleave
  | free cause => cases cause <;> assumption
  | preempt start deadline r => exact cycleOk_of_none (q := q) rfl le_rfl h

theorem cycleOk_gainExclude (h : CycleOk q) : CycleOk (gainExclude q) := by
  unfold gainExclude
  cases q.state <;> exact cycleOk_of_none (q := q) rfl le_rfl h

theorem cycle?_enter (r : ReturnState) (now : Ct) : (r.enter now).window?.bind Window.cycle = none := by
  cases r <;> rfl

theorem cycleOk_loseExclude (now : Ct) (coordinated free : Bool) (h : CycleOk q) :
    CycleOk (loseExclude now coordinated free q) := by
  unfold loseExclude
  split
  · exact cycleOk_of_none (q := q) (cycle?_enter _ _) le_rfl h
  · exact cycleOk_of_none (q := q) (cycle?_enter _ _) le_rfl h
  · exact cycleOk_of_none (q := q) rfl le_rfl h
  · exact cycleOk_of_none (q := q) rfl le_rfl h
  all_goals exact h

theorem cycleOk_excludeChange (now : Ct) (coordinated free was is : Bool) (h : CycleOk q) :
    CycleOk (excludeChange now coordinated free was is q) := by
  unfold excludeChange
  split
  · exact cycleOk_gainExclude h
  · split
    · exact cycleOk_loseExclude _ _ _ h
    · exact h

theorem cycleOk_freeByCorridor (h : CycleOk q) : CycleOk (freeByCorridor q) := by
  unfold freeByCorridor
  split
  · exact cycleOk_of_none (q := q) rfl le_rfl h
  · exact cycleOk_of_none (q := q) rfl le_rfl h
  · exact cycleOk_of_none (q := q) rfl le_rfl h
  all_goals exact h

theorem cycleOk_rejoinCorridor (now : Ct) (h : CycleOk q) : CycleOk (rejoinCorridor now q) := by
  unfold rejoinCorridor
  split
  · exact cycleOk_of_none (q := q) rfl le_rfl h
  · exact cycleOk_of_none (q := q) rfl le_rfl h
  all_goals exact h

/-- The limits of a record in range bound a fresh cycle (R46, R75). -/
theorem bookedCycle_inBounds (now : Ct) {p : Plan} (hp : p.inRange = true) (j smin : Nat) (e : Int) :
    CycleInBounds (bookedCycle now p j smin e) := by
  unfold Plan.inRange at hp
  simp only [Bool.and_eq_true, decide_eq_true_eq] at hp
  obtain ⟨⟨⟨⟨⟨-, hx⟩, he⟩, hm⟩, hr⟩, -⟩ := hp
  exact ⟨Nat.zero_le _, hx, Nat.zero_le _, he, hr, hm⟩

theorem cycleOk_bookInto (now : Ct) {p : Plan} (hp : p.inRange = true) (j : Nat) (e : Int) (inStep : Bool)
    (count : Nat) (h : CycleOk q) : CycleOk (bookInto now p j e inStep count q) := by
  refine ⟨fun c hc => ?_, (Nat.sub_le _ _).trans h.2⟩
  have hbooked : some (bookedCycle now p j q.smin e) = some c := by
    cases inStep <;> exact hc
  obtain rfl := Option.some.inj hbooked
  exact bookedCycle_inBounds now hp ..

theorem cycleOk_bookJunction (now : Ct) {p : Plan} (hp : p.inRange = true) (j : Nat) (e : Int) (h : CycleOk q) :
    CycleOk (bookJunction now p j e q) := by
  unfold bookJunction
  split
  · split
    · exact cycleOk_bookInto now hp j e true 0 h
    · exact cycleOk_bookInto now hp j e false _ h
    · exact cycleOk_of_none (q := q) rfl le_rfl h
  · split
    · exact cycleOk_bookInto now hp j e true 0 h
    · exact cycleOk_bookInto now hp j e false _ h
    · exact cycleOk_of_none (q := q) rfl le_rfl h
  all_goals exact h

theorem setCycle_lockout (q : Junction) (c : Cycle) : (q.setCycle c).lockout = q.lockout := by
  unfold Junction.setCycle
  split <;> rfl

/-- A cycle that stays in bounds takes the place of one. -/
theorem cycleOk_setCycle {c c' : Cycle} (hc : q.cycle? = some c) (hbounds : CycleInBounds c → CycleInBounds c')
    (h : CycleOk q) : CycleOk (q.setCycle c') := by
  obtain ⟨w, hw, -⟩ := window_of_cycle hc
  refine ⟨fun d hd => ?_, (setCycle_lockout q c').symm ▸ h.2⟩
  rw [cycle?_setCycle hw] at hd
  obtain rfl := Option.some.inj hd
  exact hbounds (h.1 c hc)

/-- R86: the extension stays within X_max. -/
theorem extendCycle_inBounds {start : Ct} {smin : Nat} {now newEnd : Ct} {c : Cycle}
    (hreach : c.held.xMax ≤ 300 → ahead now newEnd ≤ c.held.xMax - c.x) (h : CycleInBounds c) :
    CycleInBounds (extendCycle start smin now newEnd c) := by
  obtain ⟨hx, hxMax, hrest⟩ := h
  have hlimit := hreach hxMax
  exact ⟨show c.x + ahead now newEnd ≤ c.held.xMax by omega, hxMax, hrest⟩

/-- R96: the early shortening stays within E_max. -/
theorem shortenCycle_inBounds {start newEnd : Ct} {c : Cycle}
    (hroom : c.held.eMax ≤ 300 → ahead newEnd (plus start c.lc) ≤ c.held.eMax - c.y) (h : CycleInBounds c) :
    CycleInBounds (shortenCycle start newEnd c) := by
  obtain ⟨hx, hxMax, hy, heMax, hrest⟩ := h
  have hlimit := hroom heMax
  exact ⟨hx, hxMax, show c.y + ahead newEnd (plus start c.lc) ≤ c.held.eMax by omega, heMax, hrest⟩

theorem JunctionMove.cycleOk {s : State} {j : Nat} (hmove : JunctionMove s j q q')
    (hplans : ∀ a p, s.activeRecord = some (a, p) → p.inRange = true) (h : CycleOk q) : CycleOk q' := by
  cases hmove with
  | resync hfault => exact cycleOk_of_none (q := q) (by cases s.corridorFree <;> rfl) le_rfl h
  | spill d e => exact cycleOk_of_same (fun c hc => by cases d <;> exact hc) (by cases d <;> exact le_rfl) h
  | begins => exact cycleOk_of_none (q := q) rfl le_rfl h
  | ends =>
    rcases endPreempt_cases s.now q with ⟨_, _, r, -, e⟩ | ⟨-, e⟩ <;> rw [e]
    · exact cycleOk_of_none (q := q) (cycle?_enter _ _) le_rfl h
    · exact h
  | books hplan => exact cycleOk_bookJunction _ (hplans _ _ hplan) _ _ h
  | closes hc => exact cycleOk_setCycle hc id h
  | stretches _ hc hreach => exact cycleOk_setCycle hc (extendCycle_inBounds hreach) h
  | shortens _ hc hroom => exact cycleOk_setCycle hc (shortenCycle_inBounds hroom) h
  | @grants c hc => exact ⟨h.1, (h.1 c hc).2.2.2.2.1⟩

end

/-! ## Every junction -/

/-- Every record that is stored is in range (table of 3.1). -/
def PlansInRange (s : State) : Prop := ∀ k : Fin Config.planCount, ∀ p, s.plans[k] = some p → p.inRange = true

theorem planRecord_inRange {s : State} (h : PlansInRange s) {n : Nat} {p : Plan} (hrecord : s.planRecord n = some p) :
    p.inRange = true := by
  unfold State.planRecord at hrecord
  split at hrecord
  · cases hrecord
  · obtain ⟨k, -, hk⟩ := Option.bind_eq_some_iff.mp hrecord
    exact h k p hk

theorem cyclesOk_iff {s : State} :
    CyclesOk s ↔ PlansInRange s ∧ ∀ (j : Nat) q, s.junctions[j]? = some q → CycleOk q := by
  constructor
  · rintro ⟨hplans, hcycles, hlockouts⟩
    refine ⟨hplans, fun j q hq => ?_⟩
    have hmem := List.mem_of_getElem? hq
    exact ⟨hcycles q hmem, hlockouts q hmem⟩
  · rintro ⟨hplans, h⟩
    refine ⟨hplans, fun q hq => ?_, fun q hq => ?_⟩ <;> obtain ⟨j, hj⟩ := List.mem_iff_getElem?.mp hq
    · exact (h j q hj).1
    · exact (h j q hj).2

theorem cyclesOk_of_same {s t : State} (hplans : t.plans = s.plans) (hjunctions : t.junctions = s.junctions)
    (hs : CyclesOk s) : CyclesOk t :=
  ⟨hplans ▸ hs.plans, hjunctions ▸ hs.cycles, hjunctions ▸ hs.lockouts⟩

theorem cyclesOk_of_frame {l : List Block} {s t : State} (h : Frame l s t)
    (hl : ∀ b ∈ [Block.plans, .junctions], b ∉ l) (hs : CyclesOk s) : CyclesOk t :=
  cyclesOk_of_same (h .plans (hl _ (by simp))) (h .junctions (hl _ (by simp))) hs

/-- Every junction is moved by a function that keeps cycles in bounds. -/
theorem cyclesOk_of_moves {s t : State} (hplans : t.plans = s.plans)
    (hmoves : ∀ (j : Nat) q', t.junctions[j]? = some q' → ∃ q, s.junctions[j]? = some q ∧ (CycleOk q → CycleOk q'))
    (hs : CyclesOk s) : CyclesOk t := by
  obtain ⟨hrange, hjunctions⟩ := cyclesOk_iff.mp hs
  refine cyclesOk_iff.mpr ⟨fun k p => by rw [hplans]; exact hrange k p, fun j q' hq' => ?_⟩
  obtain ⟨q, hq, hmove⟩ := hmoves j q' hq'
  exact hmove (hjunctions j q hq)

theorem cyclesOk_takeEffect {n : Nat} {p : Plan} {s : State} (hs : CyclesOk s) : CyclesOk (takeEffect n p s) := by
  refine cyclesOk_of_moves (s := s) rfl (fun j q' hq' => ?_) hs
  rw [takeEffect_junctions_get] at hq'
  obtain ⟨q, hq, rfl⟩ := Option.map_eq_some_iff.mp hq'
  exact ⟨q, hq, cycleOk_planEffect _ _ _⟩

theorem PlanMove.cyclesOk {s t : State} (h : PlanMove s t) (hs : CyclesOk s) : CyclesOk t := by
  cases h with
  | cancelled | pends _ _ _ => exact cyclesOk_of_same (s := s) rfl rfl hs
  | takes _ _ _ _ | boundary _ _ _ => exact cyclesOk_takeEffect hs
  | plan0 _ =>
    refine cyclesOk_of_moves (s := s) rfl (fun j q' hq' => ?_) hs
    rw [takeEffectPlan0_junctions_get] at hq'
    obtain ⟨q, hq, rfl⟩ := Option.map_eq_some_iff.mp hq'
    exact ⟨q, hq, cycleOk_plan0Effect _⟩

theorem newJunction_cycleOk (link : Option Nat) (x : Bool) : CycleOk (newJunction link x) :=
  ⟨by cases x <;> exact nofun, Nat.zero_le _⟩

theorem setLastLink_cycleOk {js : List Junction} {link : Option Nat} {j : Nat} {q : Junction}
    (h : (setLastLink js link)[j]? = some q) : ∃ old, js[j]? = some old ∧ (CycleOk old → CycleOk q) := by
  rw [setLastLink, List.getElem?_modify] at h
  obtain ⟨old, hold, rfl⟩ := Option.map_eq_some_iff.mp h
  exact ⟨old, hold, by split <;> exact id⟩

theorem resize_cycleOk {groups : Vector GroupRange Config.groupCount} {js : List Junction} {n : Nat}
    (hjs : ∀ (j : Nat) q, js[j]? = some q → CycleOk q) (j : Nat) (q : Junction) (h : (resize groups js n)[j]? = some q) :
    CycleOk q := by
  have hj : j < n := resize_length groups js n ▸ (List.getElem?_eq_some_iff.mp h).1
  by_cases hold : j < js.length
  · unfold resize at h
    split at h
    · rw [List.getElem?_append_left (by simpa using hold)] at h
      obtain ⟨old, hget, hok⟩ := setLastLink_cycleOk h
      exact hok (hjs j old hget)
    · split at h
      · obtain ⟨old, hget, hok⟩ := setLastLink_cycleOk h
        rw [List.getElem?_take, if_pos hj] at hget
        exact hok (hjs j old hget)
      · exact hjs j q h
  · rw [resize_get_of_new (by omega) hj] at h
    obtain rfl := Option.some.inj h
    exact newJunction_cycleOk _ _

theorem EditMove.cyclesOk {s t : State} (h : EditMove s t) (hs : CyclesOk s) : CyclesOk t := by
  cases h with
  | corridor _ _ _ =>
    obtain ⟨hrange, hjunctions⟩ := cyclesOk_iff.mp hs
    exact cyclesOk_iff.mpr ⟨hrange, resize_cycleOk hjunctions⟩
  | junction _ _ _ _ _ =>
    refine cyclesOk_of_moves (s := s) rfl (fun i q' hq' => ?_) hs
    rw [updateJunction_get] at hq'
    split at hq'
    · obtain ⟨q, hq, rfl⟩ := Option.map_eq_some_iff.mp hq'
      exact ⟨q, hq, id⟩
    · exact ⟨q', hq', id⟩
  | group _ =>
    refine cyclesOk_of_moves (s := s) rfl (fun j q' hq' => ?_) hs
    rw [applyGroup_junctions_get] at hq'
    obtain ⟨q, hq, rfl⟩ := Option.map_eq_some_iff.mp hq'
    exact ⟨q, hq, cycleOk_excludeChange _ _ _ _ _⟩
  | @plan k _ hp _ _ =>
    have hplans := put_inRange (k := k) (P := fun x : Option Plan => ∀ p : Plan, x = some p → p.inRange = true)
      (fun _ h => Option.some.inj h ▸ hp) hs.plans
    exact ⟨hplans, hs.cycles, hs.lockouts⟩
  | entry _ | input _ _ => exact cyclesOk_of_same (s := s) rfl rfl hs

theorem cyclesOk_map {s : State} {f : Junction → Junction} (hf : ∀ q, CycleOk q → CycleOk (f q)) (hs : CyclesOk s) :
    CyclesOk (s.setJunctions (s.junctions.map f)) := by
  refine cyclesOk_of_moves (s := s) rfl (fun j q' hq' => ?_) hs
  rw [State.setJunctions_junctions, List.getElem?_map] at hq'
  obtain ⟨q, hq, rfl⟩ := Option.map_eq_some_iff.mp hq'
  exact ⟨q, hq, hf q⟩

theorem cyclesOk_corridorFreeChange {s : State} (was : Bool) (hs : CyclesOk s) : CyclesOk (corridorFreeChange was s) := by
  unfold corridorFreeChange
  split
  · exact cyclesOk_map (fun _ => cycleOk_freeByCorridor) hs
  · split
    · exact cyclesOk_map (fun _ => cycleOk_rejoinCorridor _) hs
    · exact hs

theorem cyclesOk_set {s : State} {j : Nat} {q q' : Junction} (hq : s.junctions[j]? = some q)
    (h : JunctionMove s j q q') (hs : CyclesOk s) : CyclesOk (s.setJunctions (s.junctions.set j q')) := by
  have hplans : ∀ a p, s.activeRecord = some (a, p) → p.inRange = true := fun a p hplan =>
    planRecord_inRange hs.plans (active_of_activeRecord hplan).2
  refine cyclesOk_of_moves (s := s) rfl (fun i r hr => ?_) hs
  rw [State.setJunctions_junctions] at hr
  by_cases hij : j = i
  · subst hij
    rw [List.getElem?_set_self (List.getElem?_eq_some_iff.mp hq).1] at hr
    obtain rfl := Option.some.inj hr
    exact ⟨q, hq, h.cycleOk hplans⟩
  · rw [List.getElem?_set_ne hij] at hr
    exact ⟨r, hr, id⟩

theorem Change.cyclesOk {s t : State} (h : Change s t) (hs : CyclesOk s) : CyclesOk t := by
  cases h with
  | outside hframe _ _ _ => exact cyclesOk_of_frame hframe (by simp) hs
  | plan h => exact h.cyclesOk hs
  | edit _ h => exact h.cyclesOk hs
  | @corridorFree k v _ => exact cyclesOk_corridorFreeChange _ (cyclesOk_of_same (s := s) (t := setValidated k v s) rfl rfl hs)
  | junction hq h => exact cyclesOk_set hq h hs
  | flags _ _ _ | numbers _ _ _ _ | validated _ | priorities _ | platoons _ =>
    exact cyclesOk_of_same (s := s) rfl rfl hs

theorem kept_cyclesOk : Kept fun s t => CyclesOk s → CyclesOk t where
  refl _ := id
  trans h g := g ∘ h
  change h := h.cyclesOk
  settle s t := cyclesOk_of_frame (frame_settle s t) (by simp)
  clock {s k} _ := cyclesOk_of_frame (frame_setClock k s) (by simp)
  step {s d} _ := cyclesOk_of_frame (frame_applyStep d s) (by simp)
  config _ := cyclesOk_of_frame (frame_setAlerts _ _) (by simp)
  pulseEnd s := cyclesOk_of_frame (frame_setAlerts s _) (by simp)
  count y l s := cyclesOk_of_frame (frame_countOnce y l s) (by simp)

theorem cyclesOk_resetBy (e : ResetEdge) (l : List Instr) : CyclesOk ((resetBy e).setPending l) := by
  have hplans := (stored_resetBy e l).2.2.plans
  cases e <;> exact ⟨hplans, nofun, nofun⟩

end Sys2Proof.Machine

namespace Sys2Proof.Proofs

open Sys2Proof.Machine Sys2Proof.Safety

/-- Settles O12: a booking holds the limits of a record in range, and every extension and early shortening stays within
the limits held. -/
theorem cyclesStayInBounds : Obligations.CyclesStayInBounds :=
  fun _ _ hs hstep => step_keeps kept_cyclesOk cyclesOk_resetBy
    (fun s l => cyclesOk_of_frame (frame_setPending s l) (by simp)) hs hstep

end Sys2Proof.Proofs
end

section
/-! SUPPORT. The live records at every step: platoon records in range and their heads apart (R105, R111), priority
records in range and unique (R126, R130), and the statements about them. -/

namespace Sys2Proof.Machine

open Sys2Proof.Safety

/-! ## The tables under the elementary changes -/

theorem livePlatoons_congr {s t : State} (h : t.platoons = s.platoons) : t.livePlatoons = s.livePlatoons := by
  rw [State.livePlatoons, h, State.livePlatoons]

theorem livePriorities_congr {s t : State} (h : t.priorities = s.priorities) : t.livePriorities = s.livePriorities := by
  rw [State.livePriorities, h, State.livePriorities]

theorem frame_setValidated_corridorFreeChange (was : Bool) (k : Fin Config.inputCount) (v : Bool) (s : State) :
    Frame [.inputs, .junctions] s (corridorFreeChange was (setValidated k v s)) :=
  ((frame_setValidated k v s).mono (by simp)).trans ((frame_corridorFreeChange _ _).mono (by simp))

/-- The platoon table stays, or it is moved. -/
theorem Change.table {s t : State} (h : Change s t) : t.platoons = s.platoons ∨ PlatoonMove s t.platoons := by
  cases h with
  | outside hframe _ _ _ => exact .inl (hframe .platoons (by simp))
  | plan h =>
    cases h with
    | plan0 _ => exact .inr .cleared
    | cancelled | pends _ _ _ | takes _ _ _ _ | boundary _ _ _ => exact .inl rfl
  | edit _ h => cases h <;> exact .inl rfl
  | corridorFree _ => exact .inl (frame_setValidated_corridorFreeChange _ _ _ s .platoons (by simp))
  | platoons h => exact .inr h
  | flags _ _ _ | numbers _ _ _ _ | validated _ | junction _ _ | priorities _ => exact .inl rfl

/-- The priority list stays, or it is moved. -/
theorem Change.list {s t : State} (h : Change s t) : t.priorities = s.priorities ∨ PriorityMove s t.priorities := by
  cases h with
  | outside hframe _ _ _ => exact .inl (hframe .priorities (by simp))
  | plan h =>
    cases h with
    | plan0 _ => exact .inr .cleared
    | cancelled | pends _ _ _ | takes _ _ _ _ | boundary _ _ _ => exact .inl rfl
  | edit _ h => cases h <;> exact .inl rfl
  | corridorFree _ => exact .inl (frame_setValidated_corridorFreeChange _ _ _ s .priorities (by simp))
  | priorities h => exact .inr h
  | flags _ _ _ | numbers _ _ _ _ | validated _ | junction _ _ | platoons _ => exact .inl rfl

/-- Plan 0 becomes the active plan only with every record retired (R47). -/
theorem Change.inactive {s t : State} (h : Change s t) (hnone : t.selector.active = none) :
    s.selector.active = none ∨ t.livePlatoons = [] ∧ t.livePriorities = [] := by
  cases h with
  | outside hframe _ _ _ => exact .inl (by rw [← hnone, hframe .selector (by simp)])
  | numbers _ hactive _ _ => exact .inl (hactive ▸ hnone)
  | plan h =>
    cases h with
    | plan0 _ => exact .inr ⟨lives_retireAll .., lives_retireAll ..⟩
    | takes _ _ _ _ | boundary _ _ _ => cases hnone
    | cancelled | pends _ _ _ => exact .inl hnone
  | edit _ h => cases h <;> exact .inl hnone
  | corridorFree _ =>
    exact .inl (by rw [← hnone, frame_setValidated_corridorFreeChange _ _ _ s .selector (by simp)])
  | flags _ _ _ | validated _ | junction _ _ | priorities _ | platoons _ => exact .inl hnone

theorem Change.platoons_quiet {s t : State} (h : Change s t) (hs : s.selector.active = none → s.livePlatoons = [])
    (hnone : t.selector.active = none) : t.livePlatoons = [] := by
  rcases h.inactive hnone with hinactive | ⟨hnil, -⟩
  · rcases h.table with htable | hmove
    · rw [livePlatoons_congr htable]
      exact hs hinactive
    · exact hmove.lives_eq_nil hinactive (hs hinactive)
  · exact hnil

theorem Change.priorities_quiet {s t : State} (h : Change s t) (hs : s.selector.active = none → s.livePriorities = [])
    (hnone : t.selector.active = none) : t.livePriorities = [] := by
  rcases h.inactive hnone with hinactive | ⟨-, hnil⟩
  · rcases h.list with hlist | hmove
    · rw [livePriorities_congr hlist]
      exact hs hinactive
    · exact hmove.lives_eq_nil hinactive (hs hinactive)
  · exact hnil

theorem EditMove.active {s t : State} (h : EditMove s t) : t.selector.active = s.selector.active := by
  cases h <;> rfl

/-- N and the settings change only by a SET CORRIDOR, under plan 0 (R18). -/
theorem Change.corridor_cases {s t : State} (h : Change s t) : (t.n = s.n ∧ t.settings = s.settings) ∨
    (s.selector.active = none ∧ t.selector.active = none ∧ SettingsInRange t.settings) := by
  have hsame : ∀ {u : State}, SameConfiguration s u → u.n = s.n ∧ u.settings = s.settings := fun h =>
    ⟨geometry_length h.geometry, h.settings⟩
  rcases h.sameConfiguration with h | ⟨-, h⟩
  · exact .inl (hsame h)
  · cases h with
    | corridor hactive _ hv => exact .inr ⟨hactive, hactive, hv⟩
    | junction _ _ _ _ _ => exact .inl ⟨updateJunction_length .., rfl⟩
    | group _ =>
      refine .inl ⟨?_, rfl⟩
      rw [State.n, applyGroup, State.setJunctions_junctions, mapIndexed_length]
      rfl
    | plan _ _ _ | entry _ | input _ _ => exact .inl ⟨rfl, rfl⟩

/-! ## The records of a table with one slot replaced -/

theorem mem_lives_put {α : Type} {n : Nat} {v : Vector (Slot α) n} {k i : Fin n} {slot : Slot α} {r : α} :
    (i, r) ∈ lives (put v k slot) ↔ (i = k ∧ slot.live = some r) ∨ (i ≠ k ∧ (i, r) ∈ lives v) := by
  rw [mem_lives, put_get, mem_lives]
  by_cases h : i = k
  · simp [h]
  · simp [h]

/-! ## Platoon records in range (R105) -/

theorem PlatoonMove.inRange {s : State} {v : Vector (Slot Platoon) Config.platoonSlots} (h : PlatoonMove s v)
    (hs : PlatoonsOk s) : ∀ e ∈ lives v, PlatoonInRange s.n s.settings.dl e.2 := by
  rintro ⟨i, x⟩ he
  cases h with
  | rewritten hlive hrange _ =>
    rcases mem_lives_put.mp he with ⟨-, hx⟩ | ⟨-, hold⟩
    · obtain rfl := Option.some.inj hx
      exact hrange (hs.records _ (mem_lives.mpr hlive))
    · exact hs.records _ hold
  | placed _ hactive hrange _ =>
    rcases mem_lives_put.mp he with ⟨-, hx⟩ | ⟨-, hold⟩
    · rw [Slot.place_eq] at hx
      obtain rfl := Option.some.inj hx
      exact hrange (hs.size hactive)
    · exact hs.records _ hold
  | retired k cause =>
    rcases mem_lives_put.mp he with ⟨-, hx⟩ | ⟨-, hold⟩
    · rw [(Slot.retire_spec ..).1] at hx
      cases hx
    · exact hs.records _ hold
  | cleared =>
    rw [lives_retireAll] at he
    cases he

theorem size_of_plansOk {s : State} (h : PlansOk s) (hactive : s.selector.active.isSome = true) : 2 ≤ s.n := by
  obtain ⟨a, ha⟩ := Option.isSome_iff_exists.mp hactive
  obtain ⟨-, p, -, hcheck, -⟩ := h.active a ha
  exact (cycle_of_valid hcheck).1

theorem Change.platoonsOk {s t : State} (h : Change s t) (hplans : PlansOk t) (hs : PlatoonsOk s) : PlatoonsOk t := by
  have hquiet := h.platoons_quiet hs.quiet
  refine ⟨hquiet, size_of_plansOk hplans, fun e he => ?_⟩
  rcases h.corridor_cases with ⟨hn, hsettings⟩ | ⟨-, hnone, -⟩
  · rw [hn, hsettings]
    rcases h.table with htable | hmove
    · exact hs.records e (livePlatoons_congr htable ▸ he)
    · exact hmove.inRange hs e he
  · rw [hquiet hnone] at he
    cases he

theorem active_none_of_isSome {s t : State} (h : t.selector.active.isSome = s.selector.active.isSome)
    (hnone : t.selector.active = none) : s.selector.active = none := by
  rw [hnone] at h
  exact Option.isNone_iff_eq_none.mp (Option.isSome_eq_false_iff.mp h.symm)

theorem platoonsOk_of_same {s t : State} (hactive : t.selector.active.isSome = s.selector.active.isSome)
    (hn : t.junctions = s.junctions) (hsettings : t.settings = s.settings) (htable : t.platoons = s.platoons)
    (hs : PlatoonsOk s) : PlatoonsOk t where
  quiet hnone := livePlatoons_congr htable ▸ hs.quiet (active_none_of_isSome hactive hnone)
  size h := by rw [State.n, hn]; exact hs.size (hactive ▸ h)
  records e he := by
    rw [State.n, hn, hsettings]
    exact hs.records e (livePlatoons_congr htable ▸ he)

theorem platoonsOk_of_frame {l : List Block} {s t : State} (h : Frame l s t)
    (hl : ∀ b ∈ [Block.settings, .junctions, .selector, .platoons], b ∉ l) (hs : PlatoonsOk s) : PlatoonsOk t := by
  have hselector : t.selector = s.selector := h .selector (hl _ (by simp))
  exact platoonsOk_of_same (by rw [hselector]) (h .junctions (hl _ (by simp))) (h .settings (hl _ (by simp)))
    (h .platoons (hl _ (by simp))) hs

theorem kept_platoonsOk :
    Kept fun s t => PlansOk s ∧ PlatoonsOk s → PlansOk t ∧ PlatoonsOk t where
  refl _ := id
  trans h g := g ∘ h
  change h := fun ⟨hplans, hs⟩ => ⟨h.plansOk hplans, h.platoonsOk (h.plansOk hplans) hs⟩
  settle s t := fun ⟨hplans, hs⟩ => ⟨kept_plansOk.settle s t hplans, platoonsOk_of_frame (frame_settle s t) (by simp) hs⟩
  clock {s k} hk := fun ⟨hplans, hs⟩ => ⟨kept_plansOk.clock hk hplans,
    platoonsOk_of_same (s := s) (rederive_isSome _) (frame_setClock k s .junctions (by simp))
      (frame_setClock k s .settings (by simp)) (frame_setClock k s .platoons (by simp)) hs⟩
  step {s d} hd := fun ⟨hplans, hs⟩ => ⟨kept_plansOk.step hd hplans,
    platoonsOk_of_same (applyStep_isSome d s) (frame_applyStep d s .junctions (by simp))
      (frame_applyStep d s .settings (by simp)) (frame_applyStep d s .platoons (by simp)) hs⟩
  config hq := fun ⟨hplans, hs⟩ => ⟨kept_plansOk.config hq hplans,
    platoonsOk_of_frame (frame_setAlerts _ _) (by simp) hs⟩
  pulseEnd s := fun ⟨hplans, hs⟩ => ⟨kept_plansOk.pulseEnd s hplans,
    platoonsOk_of_frame (frame_setAlerts s _) (by simp) hs⟩
  count y l s := fun ⟨hplans, hs⟩ => ⟨kept_plansOk.count y l s hplans,
    platoonsOk_of_same (countOnce_isSome y l s) (frame_countOnce y l s .junctions (by simp))
      (frame_countOnce y l s .settings (by simp)) (frame_countOnce y l s .platoons (by simp)) hs⟩

theorem platoonsOk_resetBy (e : ResetEdge) (l : List Instr) : PlatoonsOk ((resetBy e).setPending l) := by
  have hquiet := quiet_resetBy e l
  have hnone : ((resetBy e).setPending l).selector.active = none := by cases e <;> rfl
  refine ⟨fun h => (hquiet h).1, fun h => ?_, fun x hx => ?_⟩
  · rw [hnone] at h
    cases h
  · rw [(hquiet hnone).1] at hx
    cases hx

/-! ## Heads at least Gm apart (R111) -/

theorem apart_comm (a b : Ct) : apart a b = apart b a := Nat.min_comm ..

/-- One record is replaced by `r`, whose head is clear of all others. -/
theorem apart_of_headClear {s : State} {k : Fin Config.platoonSlots} {r : Platoon} {slot : Slot Platoon}
    (hslot : slot.live = some r) (hclear : HeadClear s k r) (hs : PlatoonsApart s) :
    ∀ e ∈ lives (put s.platoons k slot), ∀ f ∈ lives (put s.platoons k slot), e.1 ≠ f.1 → e.2.dir = f.2.dir →
      e.2.cur = f.2.cur → s.settings.gm ≤ apart e.2.head f.2.head := by
  rintro ⟨i, x⟩ he ⟨m, y⟩ hf hne hdir hcur
  rcases mem_lives_put.mp he with ⟨rfl, hx⟩ | ⟨hi, hx⟩ <;> rcases mem_lives_put.mp hf with ⟨rfl, hy⟩ | ⟨hm, hy⟩
  · exact absurd rfl hne
  · obtain rfl := Option.some.inj (hslot.symm.trans hx)
    rw [apart_comm]
    exact hclear _ hy hm hdir.symm hcur.symm
  · obtain rfl := Option.some.inj (hslot.symm.trans hy)
    exact hclear _ hx hi hdir hcur
  · exact hs.apart _ hx _ hy hne hdir hcur

theorem PlatoonMove.apart {s : State} {v : Vector (Slot Platoon) Config.platoonSlots} (h : PlatoonMove s v)
    (hs : PlatoonsApart s) : ∀ e ∈ lives v, ∀ f ∈ lives v, e.1 ≠ f.1 → e.2.dir = f.2.dir → e.2.cur = f.2.cur →
      s.settings.gm ≤ apart e.2.head f.2.head := by
  cases h with
  | rewritten _ _ hclear => exact apart_of_headClear rfl (hclear hs) hs
  | placed _ _ _ hclear => exact apart_of_headClear (by rw [Slot.place_eq]) hclear hs
  | retired k cause =>
    have hold : ∀ e ∈ lives (retireAt s.platoons k cause s.now), e ∈ s.livePlatoons := by
      rintro ⟨i, x⟩ he
      rcases mem_lives_put.mp he with ⟨-, hx⟩ | ⟨-, hx⟩
      · rw [(Slot.retire_spec ..).1] at hx
        cases hx
      · exact hx
    exact fun e he f hf => hs.apart e (hold e he) f (hold f hf)
  | cleared =>
    intro e he
    rw [lives_retireAll] at he
    cases he

theorem Change.platoonsApart {s t : State} (h : Change s t) (hs : PlatoonsApart s) : PlatoonsApart t := by
  have hquiet := h.platoons_quiet hs.quiet
  rcases h.corridor_cases with ⟨-, hsettings⟩ | ⟨-, hnone, hv⟩
  · refine ⟨hquiet, hsettings ▸ hs.gap, ?_⟩
    rw [hsettings]
    rcases h.table with htable | hmove
    · rw [livePlatoons_congr htable]
      exact hs.apart
    · exact hmove.apart hs
  · obtain ⟨-, -, -, hgap, -⟩ := hv
    refine ⟨hquiet, hgap, fun e he => ?_⟩
    rw [hquiet hnone] at he
    cases he

theorem platoonsApart_of_same {s t : State} (hactive : t.selector.active.isSome = s.selector.active.isSome)
    (hsettings : t.settings = s.settings) (htable : t.platoons = s.platoons) (hs : PlatoonsApart s) :
    PlatoonsApart t where
  quiet hnone := livePlatoons_congr htable ▸ hs.quiet (active_none_of_isSome hactive hnone)
  gap := hsettings ▸ hs.gap
  apart := by
    rw [livePlatoons_congr htable, hsettings]
    exact hs.apart

theorem platoonsApart_of_frame {l : List Block} {s t : State} (h : Frame l s t)
    (hl : ∀ b ∈ [Block.settings, .selector, .platoons], b ∉ l) (hs : PlatoonsApart s) : PlatoonsApart t := by
  have hselector : t.selector = s.selector := h .selector (hl _ (by simp))
  exact platoonsApart_of_same (by rw [hselector]) (h .settings (hl _ (by simp))) (h .platoons (hl _ (by simp))) hs

theorem kept_platoonsApart : Kept fun s t => PlatoonsApart s → PlatoonsApart t where
  refl _ := id
  trans h g := g ∘ h
  change h := h.platoonsApart
  settle s t := platoonsApart_of_frame (frame_settle s t) (by simp)
  clock {s k} _ := platoonsApart_of_same (rederive_isSome _) (frame_setClock k s .settings (by simp))
    (frame_setClock k s .platoons (by simp))
  step {s d} _ := platoonsApart_of_same (applyStep_isSome d s) (frame_applyStep d s .settings (by simp))
    (frame_applyStep d s .platoons (by simp))
  config _ := platoonsApart_of_frame (frame_setAlerts _ _) (by simp)
  pulseEnd s := platoonsApart_of_frame (frame_setAlerts s _) (by simp)
  count y l s := platoonsApart_of_same (countOnce_isSome y l s) (frame_countOnce y l s .settings (by simp))
    (frame_countOnce y l s .platoons (by simp))

theorem platoonsApart_resetBy (e : ResetEdge) (l : List Instr) : PlatoonsApart ((resetBy e).setPending l) := by
  have hquiet := quiet_resetBy e l
  have hnone : ((resetBy e).setPending l).selector.active = none := by cases e <;> rfl
  refine ⟨fun h => (hquiet h).1, by cases e <;> exact (by decide : 50 ≤ 300), fun x hx => ?_⟩
  rw [(hquiet hnone).1] at hx
  cases hx

/-! ## Priority records in range and unique (R126, R130) -/

/-- The live records of a list lie in range for `n` junctions, one for each tag at a junction. -/
def PriorityListOk (n : Nat) (v : Vector (Slot Priority) Config.prioritySlots) : Prop :=
  (∀ e ∈ lives v, PriorityInRange n e.2) ∧
    ∀ e ∈ lives v, ∀ f ∈ lives v, e.2.tag = f.2.tag → e.2.junction = f.2.junction → e.1 = f.1

/-- Each live record of `w` stands for one of `v` in its slot, with its tag and its junction. -/
theorem priorityListOk_of_same {n : Nat} {v w : Vector (Slot Priority) Config.prioritySlots}
    (h : ∀ i x, (i, x) ∈ lives w → ∃ y, (i, y) ∈ lives v ∧ x.tag = y.tag ∧ x.junction = y.junction)
    (hv : PriorityListOk n v) : PriorityListOk n w := by
  refine ⟨fun ⟨i, x⟩ he => ?_, fun ⟨i, x⟩ he ⟨m, z⟩ hf htag hjunction => ?_⟩
  · obtain ⟨y, hy, htag, hjunction⟩ := h i x he
    obtain ⟨hlow, hhigh, hj⟩ := hv.1 _ hy
    exact ⟨htag ▸ hlow, htag ▸ hhigh, hjunction ▸ hj⟩
  · obtain ⟨y, hy, hytag, hyjunction⟩ := h i x he
    obtain ⟨u, hu, hutag, hujunction⟩ := h m z hf
    exact hv.2 (i, y) hy (m, u) hu ((hytag.symm.trans htag).trans hutag) ((hyjunction.symm.trans hjunction).trans hujunction)

theorem PriorityMove.listOk {s : State} {v : Vector (Slot Priority) Config.prioritySlots} (h : PriorityMove s v)
    (hs : PriorityListOk s.n s.priorities) : PriorityListOk s.n v := by
  cases h with
  | granted accept kind now =>
    refine priorityListOk_of_same (fun i x hx => ?_) hs
    rw [mem_lives, grantRecords_get] at hx
    obtain ⟨y, hy, rfl⟩ := Option.map_eq_some_iff.mp hx
    exact ⟨y, mem_lives.mpr hy, by split <;> exact ⟨rfl, rfl⟩⟩
  | rewritten hlive htag hjunction =>
    refine priorityListOk_of_same (fun i x hx => ?_) hs
    rcases mem_lives_put.mp hx with ⟨rfl, hx⟩ | ⟨-, hx⟩
    · obtain rfl := Option.some.inj hx
      exact ⟨_, mem_lives.mpr hlive, htag, hjunction⟩
    · exact ⟨x, hx, rfl, rfl⟩
  | placed _ _ hrange hnew =>
    obtain ⟨hrecords, hunique⟩ := hs
    refine ⟨fun ⟨i, x⟩ he => ?_, fun ⟨i, x⟩ he ⟨m, y⟩ hf htag hjunction => ?_⟩
    · rcases mem_lives_put.mp he with ⟨-, hx⟩ | ⟨-, hx⟩
      · rw [Slot.place_eq] at hx
        obtain rfl := Option.some.inj hx
        exact hrange
      · exact hrecords _ hx
    · rcases mem_lives_put.mp he with ⟨rfl, hx⟩ | ⟨-, hx⟩ <;> rcases mem_lives_put.mp hf with ⟨rfl, hy⟩ | ⟨-, hy⟩
      · rfl
      · rw [Slot.place_eq] at hx
        obtain rfl := Option.some.inj hx
        exact absurd hjunction.symm (hnew _ hy htag.symm)
      · rw [Slot.place_eq] at hy
        obtain rfl := Option.some.inj hy
        exact absurd hjunction (hnew _ hx htag)
      · exact hunique _ hx _ hy htag hjunction
  | retired k cause =>
    refine priorityListOk_of_same (fun i x hx => ?_) hs
    rcases mem_lives_put.mp hx with ⟨-, hx⟩ | ⟨-, hx⟩
    · rw [(Slot.retire_spec ..).1] at hx
      cases hx
    · exact ⟨x, hx, rfl, rfl⟩
  | cleared =>
    refine ⟨fun e he => ?_, fun e he => ?_⟩ <;> rw [lives_retireAll] at he <;> cases he

theorem Change.prioritiesOk {s t : State} (h : Change s t) (hs : PrioritiesOk s) : PrioritiesOk t := by
  have hquiet := h.priorities_quiet hs.quiet
  have hlist : PriorityListOk t.n t.priorities := by
    rcases h.corridor_cases with ⟨hn, -⟩ | ⟨-, hnone, -⟩
    · rw [hn]
      rcases h.list with hlist | hmove
      · rw [hlist]
        exact ⟨hs.records, hs.unique⟩
      · exact hmove.listOk ⟨hs.records, hs.unique⟩
    · have hnil : lives t.priorities = [] := hquiet hnone
      refine ⟨fun e he => ?_, fun e he => ?_⟩ <;> rw [hnil] at he <;> cases he
  exact ⟨hquiet, hlist.1, hlist.2⟩

theorem prioritiesOk_of_same {s t : State} (hactive : t.selector.active.isSome = s.selector.active.isSome)
    (hn : t.junctions = s.junctions) (hlist : t.priorities = s.priorities) (hs : PrioritiesOk s) : PrioritiesOk t where
  quiet hnone := livePriorities_congr hlist ▸ hs.quiet (active_none_of_isSome hactive hnone)
  records e he := by
    rw [State.n, hn]
    exact hs.records e (livePriorities_congr hlist ▸ he)
  unique := livePriorities_congr hlist ▸ hs.unique

theorem prioritiesOk_of_frame {l : List Block} {s t : State} (h : Frame l s t)
    (hl : ∀ b ∈ [Block.junctions, .selector, .priorities], b ∉ l) (hs : PrioritiesOk s) : PrioritiesOk t := by
  have hselector : t.selector = s.selector := h .selector (hl _ (by simp))
  exact prioritiesOk_of_same (by rw [hselector]) (h .junctions (hl _ (by simp))) (h .priorities (hl _ (by simp))) hs

theorem kept_prioritiesOk : Kept fun s t => PrioritiesOk s → PrioritiesOk t where
  refl _ := id
  trans h g := g ∘ h
  change h := h.prioritiesOk
  settle s t := prioritiesOk_of_frame (frame_settle s t) (by simp)
  clock {s k} _ := prioritiesOk_of_same (rederive_isSome _) (frame_setClock k s .junctions (by simp))
    (frame_setClock k s .priorities (by simp))
  step {s d} _ := prioritiesOk_of_same (applyStep_isSome d s) (frame_applyStep d s .junctions (by simp))
    (frame_applyStep d s .priorities (by simp))
  config _ := prioritiesOk_of_frame (frame_setAlerts _ _) (by simp)
  pulseEnd s := prioritiesOk_of_frame (frame_setAlerts s _) (by simp)
  count y l s := prioritiesOk_of_same (countOnce_isSome y l s) (frame_countOnce y l s .junctions (by simp))
    (frame_countOnce y l s .priorities (by simp))

theorem prioritiesOk_resetBy (e : ResetEdge) (l : List Instr) : PrioritiesOk ((resetBy e).setPending l) := by
  have hquiet := quiet_resetBy e l
  have hnone : ((resetBy e).setPending l).selector.active = none := by cases e <;> rfl
  refine ⟨fun h => (hquiet h).2, fun x hx => ?_, fun x hx => ?_⟩ <;> rw [(hquiet hnone).2] at hx <;> cases hx

end Sys2Proof.Machine

namespace Sys2Proof.Proofs

open Sys2Proof.Machine Sys2Proof.Safety

/-- Settles O13: every record that a move places or rewrites is in range and its head clear of the others. -/
theorem platoonRecordsStayApart : Obligations.PlatoonRecordsStayApart :=
  ⟨fun _ _ hplans hs hstep =>
    (step_keeps kept_platoonsOk (fun e l => ⟨plansOk_resetBy e l, platoonsOk_resetBy e l⟩)
      (fun s l h => ⟨plansOk_of_frame (frame_setPending s l) (by simp) h.1,
        platoonsOk_of_frame (frame_setPending s l) (by simp) h.2⟩) ⟨hplans, hs⟩ hstep).2,
   fun _ _ hs hstep => step_keeps kept_platoonsApart platoonsApart_resetBy
    (fun s l => platoonsApart_of_frame (frame_setPending s l) (by simp)) hs hstep⟩

/-- Settles O14: a new record's tag is not live at its junction, and no move of a record changes its tag or junction. -/
theorem priorityRecordsStayUnique : Obligations.PriorityRecordsStayUnique :=
  fun _ _ hs hstep => step_keeps kept_prioritiesOk prioritiesOk_resetBy
    (fun s l => prioritiesOk_of_frame (frame_setPending s l) (by simp)) hs hstep

end Sys2Proof.Proofs
end

section
/-! SUPPORT. P_ref against the day clock (R12 to R14), the moves of CT and of the day clock (R1, R3, R4, R10), and the
statements about them. -/

namespace Sys2Proof.Machine

open Sys2Proof.Safety

/-! ## The day clock (R3, R10) -/

/-- The day after a day of the week. -/
def nextDay (day : Nat) : Nat := if day < 7 then day + 1 else 1

/-- The clock moves by `d` within its day, or it passes a midnight. -/
def MovesBy (d : Int) (k k' : DayClock) : Prop :=
  (k'.day = k.day ∧ (k'.tod : Int) = k.tod + d) ∨ k'.day = nextDay k.day

/-- The same move, told from a clock of the same day. -/
theorem MovesBy.of_tod {d e : Int} {k m k' : DayClock} (h : MovesBy d m k') (hday : m.day = k.day)
    (htod : (m.tod : Int) + d = k.tod + e) : MovesBy e k k' := by
  rcases h with ⟨hsame, hmoved⟩ | hnext
  · exact .inl ⟨hsame.trans hday, hmoved.trans htod⟩
  · exact .inr (hday ▸ hnext)

theorem DayClock.carryHour_moves (k : DayClock) : MovesBy 36000 k k.carryHour := by
  unfold DayClock.carryHour
  split
  · exact .inl ⟨rfl, by simp only [DayClock.tod]; push_cast; ring⟩
  · exact .inr rfl

theorem DayClock.carryMinute_moves {k : DayClock} (h : k.minute ≤ 59) : MovesBy 600 k k.carryMinute := by
  unfold DayClock.carryMinute
  split
  · exact .inl ⟨rfl, by simp only [DayClock.tod]; push_cast; ring⟩
  · have hcarried := DayClock.carryHour_moves { k with minute := 0 }
    exact hcarried.of_tod rfl (by simp only [DayClock.tod]; omega)

theorem DayClock.carrySecond_moves {k : DayClock} (h : k.minute ≤ 59) (hsecond : k.second ≤ 59) :
    MovesBy 10 k k.carrySecond := by
  unfold DayClock.carrySecond
  split
  · exact .inl ⟨rfl, by simp only [DayClock.tod]; push_cast; ring⟩
  · have hcarried := DayClock.carryMinute_moves (k := { k with second := 0 }) h
    exact hcarried.of_tod rfl (by simp only [DayClock.tod]; omega)

theorem DayClock.tick_moves {k : DayClock} (h : ClockInRange k) : MovesBy 1 k k.tick := by
  obtain ⟨-, -, -, hminute, hsecond, htenth⟩ := h
  unfold DayClock.tick
  split
  · exact .inl ⟨rfl, by simp only [DayClock.tod]; push_cast; ring⟩
  · have hcarried := DayClock.carrySecond_moves (k := { k with tenth := 0 }) hminute hsecond
    exact hcarried.of_tod rfl (by simp only [DayClock.tod]; omega)

theorem DayClock.stepTo_moves {k : DayClock} (h : ClockInRange k) (hd : syncStep k.minutePosition ≠ 0) :
    MovesBy (syncStep k.minutePosition) k (k.stepTo (syncStep k.minutePosition)) := by
  have hposition := DayClock.minutePosition_lt h
  obtain ⟨-, -, -, hminute, -, -⟩ := h
  by_cases hr : k.minutePosition ≤ 300
  · rw [syncStep_of_le hr] at hd ⊢
    rw [DayClock.stepTo_of_neg (by omega)]
    exact .inl ⟨rfl, by simp only [DayClock.tod, DayClock.minutePosition]; push_cast; ring⟩
  · rw [syncStep_of_gt (by omega), DayClock.stepTo_of_nonneg (by omega)]
    exact (DayClock.carryMinute_moves (k := { k with second := 0, tenth := 0 }) hminute).of_tod rfl
      (by simp only [DayClock.tod, DayClock.minutePosition]; omega)

theorem nextDay_ne (day : Nat) : nextDay day ≠ day := by
  unfold nextDay
  split <;> omega

theorem nextDay_nextDay_ne (day : Nat) : nextDay (nextDay day) ≠ day := by
  unfold nextDay
  split_ifs <;> omega

/-! ## CT and the day clock under the elementary changes -/

theorem enableSync_clock (b : TimeBase) (was is : Bool) :
    (b.enableSync was is).ct = b.ct ∧ (b.enableSync was is).clock = b.clock := by
  unfold TimeBase.enableSync
  split
  · exact ⟨rfl, rfl⟩
  · split <;> exact ⟨rfl, rfl⟩

/-- CT and the day clock read the same. -/
def SameTimes (s t : State) : Prop := t.time.ct = s.time.ct ∧ t.time.clock = s.time.clock

theorem SameTimes.of_frame {l : List Block} {s t : State} (h : Frame l s t) (hl : .time ∉ l) : SameTimes s t := by
  have htime : t.time = s.time := h .time hl
  exact ⟨congrArg _ htime, congrArg _ htime⟩

theorem Change.sameTimes {s t : State} (h : Change s t) : SameTimes s t := by
  cases h with
  | outside hframe _ _ _ => exact .of_frame hframe (by simp)
  | flags hct hclock _ => exact ⟨hct, hclock⟩
  | plan h => exact .of_frame h.frame (by simp)
  | edit _ h =>
    cases h with
    | corridor _ _ _ => exact enableSync_clock ..
    | junction _ _ _ _ _ | group _ | plan _ _ _ | entry _ | input _ _ => exact ⟨rfl, rfl⟩
  | corridorFree _ => exact .of_frame (frame_setValidated_corridorFreeChange _ _ _ s) (by simp)
  | numbers _ _ _ _ | validated _ | junction _ _ | priorities _ | platoons _ => exact ⟨rfl, rfl⟩

theorem Changes.sameTimes {s t : State} (h : Changes s t) : SameTimes s t := by
  induction h with
  | refl => exact ⟨rfl, rfl⟩
  | tail _ h ih => exact ⟨h.sameTimes.1.trans ih.1, h.sameTimes.2.trans ih.2⟩

/-! ## Agreement where the clock stands (R12) -/

theorem activeRecord_congr {s t : State} (hactive : t.selector.active = s.selector.active) (hplans : t.plans = s.plans) :
    t.activeRecord = s.activeRecord := by
  simp only [State.activeRecord, State.planRecord, hactive, hplans]

theorem pRefAgrees_of_same {s t : State} (hrecord : t.activeRecord = s.activeRecord)
    (hclock : t.time.clock = s.time.clock) (hs : PRefAgrees s) : PRefAgrees t := by
  intro a p hplan
  rw [hclock]
  exact hs a p (hrecord ▸ hplan)

theorem pRefAgrees_of_frame {l : List Block} {s t : State} (h : Frame l s t)
    (hl : ∀ b ∈ [Block.time, .plans, .selector], b ∉ l) (hs : PRefAgrees s) : PRefAgrees t := by
  have hselector : t.selector = s.selector := h .selector (hl _ (by simp))
  exact pRefAgrees_of_same (activeRecord_congr (by rw [hselector]) (h .plans (hl _ (by simp))))
    (SameTimes.of_frame h (hl _ (by simp))).2 hs

theorem pRefAgrees_of_inactive {s : State} (h : s.selector.active = none) : PRefAgrees s := by
  intro a p hplan
  rw [(active_of_activeRecord hplan).1] at h
  cases h

/-- P_ref of a plan that takes effect is derived from the clock (R40). -/
theorem pRefAgrees_takeEffect {n : Nat} {p : Plan} {s : State} (hrecord : s.planRecord n = some p) (hc : 0 < p.c) :
    PRefAgrees (takeEffect n p s) := by
  intro a q hplan
  obtain ⟨ha, hq⟩ := active_of_activeRecord hplan
  have ha : some (formActive n p s) = some a := ha
  obtain rfl := Option.some.inj ha
  obtain rfl := Option.some.inj (hrecord.symm.trans hq)
  exact derivePRef_eq hc _

theorem PlanMove.pRefAgrees {s t : State} (h : PlanMove s t) (hplans : PlansOk s) (hs : PRefAgrees s) :
    PRefAgrees t := by
  cases h with
  | cancelled | pends _ _ _ => exact hs
  | takes _ _ hrecord hcheck =>
    have hcycle := (cycle_of_valid hcheck).2.1
    exact pRefAgrees_takeEffect hrecord (by omega)
  | boundary hpending hn hrecord =>
    obtain ⟨p', hrecord', hcheck⟩ := (hplans.pending _ hpending).2.2.resolve_left hn
    obtain rfl := Option.some.inj (hrecord.symm.trans hrecord')
    have hcycle := (cycle_of_valid hcheck).2.1
    exact pRefAgrees_takeEffect hrecord (by omega)
  | plan0 _ => exact pRefAgrees_of_inactive rfl

/-- A plan that is not the active one is stored beside the active record. -/
theorem activeRecord_setPlans {s : State} {k : Fin Config.planCount} {p : Plan} (h : k.val + 1 ≠ s.activeNumber) :
    (s.setPlans (put s.plans k (some p))).activeRecord = s.activeRecord := by
  unfold State.activeRecord
  cases ha : s.selector.active with
  | none => rw [show (s.setPlans (put s.plans k (some p))).selector.active = none from ha]; rfl
  | some a =>
    rw [show (s.setPlans (put s.plans k (some p))).selector.active = some a from ha]
    have hne : a.number ≠ k.val + 1 := by
      rw [State.activeNumber, ha] at h
      exact fun e => h e.symm
    exact congrArg (Option.map fun p => (a, p)) (planRecord_put hne)

theorem Change.pRefAgrees {s t : State} (h : Change s t) (hplans : PlansOk s) (hs : PRefAgrees s) : PRefAgrees t := by
  have hclock := h.sameTimes.2
  cases h with
  | outside hframe _ _ _ => exact pRefAgrees_of_frame hframe (by simp) hs
  | numbers _ hactive _ _ => exact pRefAgrees_of_same (activeRecord_congr hactive rfl) rfl hs
  | plan h => exact h.pRefAgrees hplans hs
  | edit _ h =>
    cases h with
    | plan _ hactive _ => exact pRefAgrees_of_same (activeRecord_setPlans hactive) rfl hs
    | corridor _ _ _ | junction _ _ _ _ _ | group _ | entry _ | input _ _ =>
      exact pRefAgrees_of_same (s := s) rfl hclock hs
  | corridorFree _ => exact pRefAgrees_of_frame (frame_setValidated_corridorFreeChange _ _ _ s) (by simp) hs
  | flags _ _ _ | validated _ | junction _ _ | priorities _ | platoons _ =>
    exact pRefAgrees_of_same (s := s) rfl hclock hs

theorem Changes.agree {s t : State} (h : Changes s t) (hs : PlansOk s ∧ PRefAgrees s) : PlansOk t ∧ PRefAgrees t := by
  induction h with
  | refl => exact hs
  | tail _ h ih => exact ⟨h.plansOk ih.1, h.pRefAgrees ih.1 ih.2⟩

/-! ## Agreement where the clock moves (R4, R13, R14) -/

/-- The agreement of the live data with the record of the active plan, once both are given. -/
theorem pRefAgrees_setActive {s t : State} {a : ActivePlan} {p : Plan} {x : Nat} (hplan : s.activeRecord = some (a, p))
    (hactive : t.selector.active = some { a with pRef := x }) (hplans : t.plans = s.plans)
    (h : (x : Int) = ((t.time.clock.tod : Int) - p.b) % p.c) : PRefAgrees t := by
  intro b q hq
  obtain ⟨hb, hrecord⟩ := active_of_activeRecord hq
  obtain rfl := Option.some.inj (hactive.symm.trans hb)
  have hrecord' := (planRecord_congr hplans _).symm.trans hrecord
  obtain rfl := Option.some.inj ((active_of_activeRecord hplan).2.symm.trans hrecord')
  exact h

theorem pRefAgrees_rederive {s : State} {k : DayClock} (hplans : PlansOk s) :
    PRefAgrees (rederive (s.setTime (s.time.setClock k))) := by
  unfold rederive
  rw [activeRecord_setTime]
  split
  · next a p hplan => exact pRefAgrees_setActive hplan rfl rfl (derivePRef_eq (cycle_pos_of_active hplans hplan) _)
  · next hnone => exact pRefAgrees_of_inactive (inactive_of_no_record (s := s) hplans hnone)

/-- P_ref moved by `d` agrees with the clock moved by `d`. -/
theorem emod_moved {x t b c d : Int} (h : x = (t - b) % c) : (x + d) % c = (t + d - b) % c := by
  rw [h, Int.emod_add_emod]
  congr 1
  ring

theorem pRefAgrees_applyStep {s : State} {d : Int} (hplans : PlansOk s) (hs : PRefAgrees s)
    (hclock : ((s.time.clock.stepTo d).tod : Int) = s.time.clock.tod + d) : PRefAgrees (applyStep d s) := by
  unfold applyStep stepPRef
  split
  · next a p hplan =>
    have hc := cycle_pos_of_active hplans hplan
    refine pRefAgrees_setActive hplan rfl rfl ?_
    have hnonneg := Int.emod_nonneg ((a.pRef : Int) + d) (by omega : (p.c : Int) ≠ 0)
    show (((((a.pRef : Int) + d) % p.c).toNat : Nat) : Int) = (((s.time.clock.stepTo d).tod : Int) - p.b) % p.c
    rw [Int.toNat_of_nonneg hnonneg, hclock]
    exact emod_moved (hs a p hplan)
  · next hnone => exact pRefAgrees_of_inactive (inactive_of_no_record (s := s) hplans hnone)

theorem pRefAgrees_countOnce {s : State} (y : Level) (l : Vector Level Config.inputCount) (hplans : PlansOk s)
    (hs : PRefAgrees s) (hclock : (s.time.clock.tick.tod : Int) = s.time.clock.tod + 1) :
    PRefAgrees (countOnce y l s) := by
  unfold countOnce countPRef
  split
  · next a p hplan =>
    obtain ⟨ha, hrecord⟩ := active_of_activeRecord hplan
    obtain ⟨-, p', hrecord', -, hlt, -⟩ := hplans.active a ha
    obtain rfl := Option.some.inj (hrecord.symm.trans hrecord')
    have hmoved : ((a.pRef : Int) + 1) % p.c = (((s.time.clock.tick.tod : Nat) : Int) - p.b) % p.c := by
      rw [hclock]
      exact emod_moved (hs a p hplan)
    split
    · next hbelow =>
      refine pRefAgrees_setActive hplan rfl rfl (Eq.trans ?_ hmoved)
      rw [Int.emod_eq_of_lt (by omega) (by omega)]
      rfl
    · next hwrap =>
      refine pRefAgrees_setActive hplan rfl rfl (Eq.trans ?_ hmoved)
      have hend : ((a.pRef : Int) + 1) = p.c := by omega
      rw [hend, Int.emod_self]
      rfl
  · next hnone => exact pRefAgrees_of_inactive (inactive_of_no_record (s := s) hplans hnone)

/-! ## Every command -/

/-- P_ref agrees with a clock that is still on the day given, or the clock has passed into the next day. -/
def AgreesOn (day : Nat) (s : State) : Prop :=
  PlansOk s ∧ ClockInRange s.time.clock ∧
    ((s.time.clock.day = day ∧ PRefAgrees s) ∨ s.time.clock.day = nextDay day)

section
variable {day : Nat} {s t : State}

theorem AgreesOn.mono (hplans : PlansOk t) (hclock : t.time.clock = s.time.clock)
    (hagrees : PRefAgrees s → PRefAgrees t) (h : AgreesOn day s) : AgreesOn day t := by
  obtain ⟨-, hrange, hday⟩ := h
  refine ⟨hplans, hclock ▸ hrange, ?_⟩
  rw [hclock]
  exact hday.imp_left fun ⟨hsame, hs⟩ => ⟨hsame, hagrees hs⟩

theorem AgreesOn.changes (hst : Changes s t) (h : AgreesOn day s) : AgreesOn day t :=
  h.mono (kept_plansOk.changes hst h.1) hst.sameTimes.2 fun hs => (hst.agree ⟨h.1, hs⟩).2

theorem AgreesOn.of_frame {l : List Block} (hst : Frame l s t)
    (hl : ∀ b ∈ [Block.time, .plans, .junctions, .selector], b ∉ l) (h : AgreesOn day s) : AgreesOn day t :=
  h.mono (plansOk_of_frame hst hl h.1) (SameTimes.of_frame hst (hl _ (by simp))).2
    (pRefAgrees_of_frame hst fun b hb => hl b (by simp at hb ⊢; tauto))

/-- A SYNC step leaves P_ref agreeing, or crosses the midnight. -/
theorem agreesOn_step {d : Int} (hd : ClockSteps d s) (hplans : PlansOk s) (hrange : ClockInRange s.time.clock)
    (hs : PRefAgrees s) : AgreesOn s.time.clock.day (applyStep d s) := by
  have hmoves := DayClock.stepTo_moves hrange (hd.step ▸ hd.nonzero)
  rw [← hd.step] at hmoves
  refine ⟨plansOk_applyStep d hplans, DayClock.stepTo_inRange hrange d, ?_⟩
  rcases hmoves with ⟨hday, htod⟩ | hday
  · exact .inl ⟨hday, pRefAgrees_applyStep hplans hs htod⟩
  · exact .inr hday

/-- What one event or request other than SET CLOCK does. -/
theorem agreesOn_effect (h : Effect s t) (hplans : PlansOk s) (hrange : ClockInRange s.time.clock)
    (hs : PRefAgrees s) : (PlansOk t ∧ PRefAgrees t) ∨ AgreesOn s.time.clock.day t := by
  cases h with
  | changes h => exact .inl (h.agree ⟨hplans, hs⟩)
  | clock hu hk h =>
    have hu := (hu.agree ⟨hplans, hs⟩).1
    exact .inl (h.agree ⟨plansOk_rederive hk hu, pRefAgrees_rederive hu⟩)
  | step hu hd =>
    have hclock := hu.sameTimes.2
    obtain ⟨hplans, hs⟩ := hu.agree ⟨hplans, hs⟩
    rw [← hclock]
    exact .inr (agreesOn_step hd hplans (hclock ▸ hrange) hs)

/-- An event that is no rising edge leaves the clock as it is. -/
theorem AgreesOn.takeEvent {e : Event} (he : e ≠ .edge) (h : AgreesOn day s) : AgreesOn day (takeEvent e s) := by
  cases hdue : e.due s with
  | false => rwa [takeEvent_of_not_due hdue]
  | true =>
    rw [takeEvent_of_due hdue]
    refine AgreesOn.of_frame (frame_settle s _) (by simp) ?_
    by_cases hpulse : e = .pulseEnd
    · subst hpulse
      exact AgreesOn.of_frame (frame_setPulseEnd s none) (by simp) h
    · exact h.changes (changes_event hdue he hpulse)

theorem agreesOn_edge (hplans : PlansOk s) (hrange : ClockInRange s.time.clock) (hs : PRefAgrees s) :
    AgreesOn s.time.clock.day (takeEvent .edge s) := by
  have hstands : AgreesOn s.time.clock.day s := ⟨hplans, hrange, .inl ⟨rfl, hs⟩⟩
  cases hdue : Event.edge.due s with
  | false => rwa [takeEvent_of_not_due hdue]
  | true =>
    rw [takeEvent_of_due hdue]
    refine AgreesOn.of_frame (frame_settle s _) (by simp) ?_
    rcases takeEdge_changes s with h | ⟨u, d, hu, hd, e⟩
    · exact hstands.changes h
    · obtain ⟨hplansU, hrangeU, -⟩ := hstands.changes hu
      have hstep := agreesOn_step hd hplansU hrangeU (hu.agree ⟨hplans, hs⟩).2
      rw [hu.sameTimes.2] at hstep
      rw [show Event.edge.effect s = takeEdge s from rfl, e]
      exact hstep

/-- The edge is the first event that a count takes, and the only one that moves the clock. -/
theorem allEvents_eq : ∃ l, allEvents = .edge :: l ∧ ∀ e ∈ l, e ≠ Event.edge := by
  refine ⟨allEvents.tail, rfl, fun e he hedge => ?_⟩
  subst hedge
  simp [allEvents] at he

theorem agreesOn_takeDue (hplans : PlansOk s) (hrange : ClockInRange s.time.clock) (hs : PRefAgrees s) :
    AgreesOn s.time.clock.day (takeDue s) := by
  obtain ⟨l, hl, hnoEdge⟩ := allEvents_eq
  rw [takeDue, hl, List.foldl_cons]
  have h := agreesOn_edge hplans hrange hs
  generalize takeEvent .edge s = u at h ⊢
  clear hl
  induction l generalizing u with
  | nil => exact h
  | cons e l ih =>
    exact ih (fun f hf => hnoEdge f (List.mem_cons_of_mem _ hf)) _ (h.takeEvent (hnoEdge e List.mem_cons_self))

end

theorem countOnce_clock (y : Level) (l : Vector Level Config.inputCount) (s : State) :
    (countOnce y l s).time.ct = s.time.ct + 1 ∧ (countOnce y l s).time.clock = s.time.clock.tick := by
  obtain ⟨b, hb⟩ := countPRef_time s
  rw [countOnce_time, hb]
  exact ⟨rfl, rfl⟩

/-- Two midnights do not lead back to the day before them. -/
theorem pRefAgrees_of_agreesOn {day : Nat} {s : State} (h : AgreesOn day s) (hday : s.time.clock.day = day) :
    PRefAgrees s := by
  rcases h.2.2 with ⟨-, hs⟩ | hnext
  · exact hs
  · exact absurd (hnext.symm.trans hday) (nextDay_ne day)

theorem pRefAgrees_counted {s : State} (y : Level) (l : Vector Level Config.inputCount) {day : Nat}
    (h : AgreesOn day s) (hday : (countOnce y l s).time.clock.day = day) : PRefAgrees (countOnce y l s) := by
  obtain ⟨hplans, hrange, hs⟩ := h
  rw [(countOnce_clock y l s).2] at hday
  rcases DayClock.tick_moves hrange with ⟨hsame, htod⟩ | hnext
  · rcases hs with ⟨-, hs⟩ | hpassed
    · exact pRefAgrees_countOnce y l hplans hs htod
    · exact absurd ((hpassed.symm.trans hsame.symm).trans hday) (nextDay_ne day)
  · rcases hs with ⟨hstill, -⟩ | hpassed
    · rw [hnext, hstill] at hday
      exact absurd hday (nextDay_ne day)
    · rw [hnext, hpassed] at hday
      exact absurd hday (nextDay_nextDay_ne day)

theorem exec_pRefAgrees {c : Instr} {s t : State} (hrange : ClockInRange s.time.clock) (hplans : PlansOk s)
    (hs : PRefAgrees s) (h : exec c s = .next t) (hc : ∀ e, c ≠ .reset e)
    (hday : t.time.clock.day = s.time.clock.day) : PRefAgrees t := by
  cases exec_left h hc with
  | same => exact hs
  | @settled u heffect =>
    have hframe := frame_settle s u
    have htime : (settle s u).time = u.time := settle_time s u
    rw [htime] at hday
    refine pRefAgrees_of_frame hframe (by simp) ?_
    rcases agreesOn_effect heffect hplans hrange hs with ⟨-, hu⟩ | hu
    · exact hu
    · exact pRefAgrees_of_agreesOn hu hday
  | config _ _ _ _ | pulseEnd _ => exact pRefAgrees_of_frame (frame_settle s _) (by simp) hs
  | count _ _ => exact pRefAgrees_counted _ _ (agreesOn_takeDue hplans hrange hs) hday

end Sys2Proof.Machine

namespace Sys2Proof.Proofs

open Sys2Proof.Machine Sys2Proof.Safety

/-- Settles O15: a SYNC step and a count move both by the same amount, and a midnight that either passes is not
passed back. -/
theorem pRefFollowsDayClock : Obligations.PRefFollowsDayClock := by
  intro c s t htime hplans hs hexec hday
  by_cases hc : ∃ e, c = .reset e
  · obtain ⟨e, rfl⟩ := hc
    obtain rfl := Host.Outcome.next.inj hexec
    exact pRefAgrees_of_inactive (by cases e <;> rfl)
  · exact exec_pRefAgrees htime.clock hplans hs hexec (fun e he => hc ⟨e, he⟩) hday

end Sys2Proof.Proofs
end

section
/-! SUPPORT. What every command keeps of the hold, the queue and the pulse end, what moves CT and the day clock, and the
statements about the step, RESET, CT and the pulse. -/

namespace Sys2Proof.Machine

open Sys2Proof.Safety

/-! ## Commands under the hold in reset (R174) -/

/-- A command other than RESET acts on a part that runs. -/
theorem exec_run {c : Instr} (hc : ∀ e, c ≠ .reset e) : ∃ f, ∀ s, exec c s = run f s := by
  cases c with
  | reset e => exact absurd rfl (hc e)
  | _ => exact ⟨_, fun _ => rfl⟩

theorem exec_of_held {c : Instr} {s : State} (hs : s.inReset = true) (hc : ∀ e, c ≠ .reset e) : exec c s = .next s := by
  obtain ⟨f, hf⟩ := exec_run hc
  rw [hf, run_of_held hs]

theorem exec_next (c : Instr) (s : State) : ∃ t, exec c s = .next t := by
  by_cases hc : ∃ e, c = .reset e
  · obtain ⟨e, rfl⟩ := hc
    exact ⟨_, rfl⟩
  · obtain ⟨f, hf⟩ := exec_run fun e he => hc ⟨e, he⟩
    exact ⟨_, hf s⟩

/-! ## What no elementary change touches -/

/-- The hold, the queue, the alert configuration and the pulse end stay. -/
theorem Change.frame {s t : State} (h : Change s t) :
    Frame [.time, .settings, .groups, .junctions, .plans, .selector, .platoons, .priorities, .inputs, .blink, .port,
      .sequence, .editLock, .latched] s t := by
  cases h with
  | outside hframe _ _ _ => exact hframe.mono (by simp)
  | flags _ _ _ => exact (frame_setTime s _).mono (by simp)
  | numbers _ _ _ _ => exact (frame_setSelector s _).mono (by simp)
  | plan h => exact h.frame.mono (by simp)
  | edit _ h => exact h.frame.mono (by simp)
  | validated _ => exact (frame_setValidated _ _ s).mono (by simp)
  | corridorFree _ => exact (frame_setValidated_corridorFreeChange _ _ _ s).mono (by simp)
  | junction _ _ => exact (frame_setJunctions s _).mono (by simp)
  | priorities _ => exact (frame_setPriorities s _).mono (by simp)
  | platoons _ => exact (frame_setPlatoons s _).mono (by simp)

theorem Changes.frame {s t : State} (h : Changes s t) :
    Frame [.time, .settings, .groups, .junctions, .plans, .selector, .platoons, .priorities, .inputs, .blink, .port,
      .sequence, .editLock, .latched] s t := by
  induction h with
  | refl => exact .refl _ _
  | tail _ h ih => exact ih.trans h.frame

theorem Effect.frame {s t : State} (h : Effect s t) :
    Frame [.time, .settings, .groups, .junctions, .plans, .selector, .platoons, .priorities, .inputs, .blink, .port,
      .sequence, .editLock, .latched] s t := by
  cases h with
  | changes h => exact h.frame
  | clock hu _ h => exact hu.frame.trans (((frame_setClock _ _).mono (by simp)).trans h.frame)
  | step hu _ => exact hu.frame.trans ((frame_applyStep _ _).mono (by simp))

/-- Commands other than RESET leave the queue of waiting commands. -/
theorem kept_pending : Kept fun s t => t.pending = s.pending where
  refl _ := rfl
  trans h g := g.trans h
  change h := h.frame .queue (by simp)
  settle s t := settle_pending s t
  clock {s k} _ := frame_setClock k s .queue (by simp)
  step {s d} _ := frame_applyStep d s .queue (by simp)
  config _ := rfl
  pulseEnd _ := rfl
  count y l s := frame_countOnce y l s .queue (by simp)

theorem exec_pending {c : Instr} {s t : State} (h : exec c s = .next t) : t.pending = s.pending := by
  by_cases hc : ∃ e, c = .reset e
  · obtain ⟨e, rfl⟩ := hc
    obtain rfl := Host.Outcome.next.inj h
    rfl
  · exact kept_pending.exec h fun e he => hc ⟨e, he⟩

/-! ## CT and the validity of the day clock (R1, R3) -/

/-- CT stands and a valid clock stays valid. -/
def TimeStands (s t : State) : Prop :=
  t.time.ct = s.time.ct ∧ (s.time.clock.valid = true → t.time.clock.valid = true)

theorem TimeStands.trans {s t u : State} (h : TimeStands s t) (g : TimeStands t u) : TimeStands s u :=
  ⟨g.1.trans h.1, g.2 ∘ h.2⟩

theorem SameTimes.stands {s t : State} (h : SameTimes s t) : TimeStands s t := ⟨h.1, fun hv => h.2 ▸ hv⟩

theorem timeStands_of_time {s t : State} (h : t.time = s.time) : TimeStands s t := by
  unfold TimeStands
  rw [h]
  exact ⟨rfl, id⟩

theorem Effect.timeStands {s t : State} (h : Effect s t) : TimeStands s t := by
  cases h with
  | changes h => exact h.sameTimes.stands
  | @clock u _ k hu hk h =>
    have htime : (rederive (u.setTime (u.time.setClock k))).time = u.time.setClock k :=
      frame_rederive _ .time (by simp)
    refine hu.sameTimes.stands.trans (TimeStands.trans ⟨?_, fun _ => ?_⟩ h.sameTimes.stands) <;> rw [htime]
    · rfl
    · exact hk.1
  | @step u d hu _ =>
    exact hu.sameTimes.stands.trans ⟨rfl, fun hv => (DayClock.stepTo_valid u.time.clock d).trans hv⟩

theorem takeEvent_timeStands (e : Event) (s : State) : TimeStands s (takeEvent e s) := by
  cases hdue : e.due s with
  | false =>
    rw [takeEvent_of_not_due hdue]
    exact ⟨rfl, id⟩
  | true =>
    rw [takeEvent_of_due hdue]
    refine TimeStands.trans ?_ (timeStands_of_time (settle_time s _))
    by_cases he : e = .pulseEnd
    · subst he
      exact timeStands_of_time rfl
    · exact (effect_event hdue he).timeStands

theorem takeDue_timeStands (s : State) : TimeStands s (takeDue s) := by
  unfold takeDue
  generalize allEvents = l
  induction l generalizing s with
  | nil => exact ⟨rfl, id⟩
  | cons e es ih => exact (takeEvent_timeStands e s).trans (ih _)

theorem exec_ctCount_time {y i0 i1 i2 i3 : Level} {s t : State} (hs : Running s)
    (h : exec (.ctCount y i0 i1 i2 i3) s = .next t) :
    t.time.ct = s.time.ct + 1 ∧ (s.time.clock.valid = true → t.time.clock.valid = true) := by
  rw [exec_ctCount, run_of_running hs] at h
  obtain rfl := Host.Outcome.next.inj h
  obtain ⟨hct, hvalid⟩ := takeDue_timeStands s
  obtain ⟨hcount, hclock⟩ := countOnce_clock y #v[i0, i1, i2, i3] (takeDue s)
  rw [hcount, hclock, DayClock.tick_valid, hct]
  exact ⟨rfl, hvalid⟩

theorem exec_timeStands {c : Instr} {s t : State} (h : exec c s = .next t) (hc : ∀ e, c ≠ .reset e)
    (hcount : ∀ y a b d e, c ≠ .ctCount y a b d e) : TimeStands s t := by
  cases exec_left h hc with
  | same => exact ⟨rfl, id⟩
  | settled heffect => exact heffect.timeStands.trans (timeStands_of_time (settle_time s _))
  | config _ _ _ _ | pulseEnd _ => exact timeStands_of_time (settle_time s _)
  | count hcount' _ => exact absurd hcount' (hcount _ _ _ _ _)

/-! ## The pulse end (R169) -/

theorem activeSet_settle (s t : State) : (settle s t).activeSet = t.activeSet := by
  simp only [State.activeSet, settle_global, settle_pendingSet, settle_enable]

/-- The pulse end after an event or request that does not write it. -/
theorem settle_pulseEnd {s u : State} (h : u.alerts.pulseEnd = s.alerts.pulseEnd) :
    (settle s u).alerts.pulseEnd =
      if (settle s u).alerts.mode = .pulse ∧ (settle s u).activeSet &&& ~~~s.activeSet ≠ 0 then
        some ((settle s u).time.ct + 1) else s.alerts.pulseEnd := by
  rw [settle_mode, activeSet_settle, settle_time, settle_eq, ← h]
  rfl

/-! ## The state after reset -/

theorem pendingSet_reset (l : Level) (q : List Instr) : ((resetBy (.rise l)).setPending q).pendingSet = 1 := by
  have hreset : State.reset.pendingSet = 1 := by decide
  exact hreset

theorem safe_resetBy (e : ResetEdge) (l : List Instr) : Safe ((resetBy e).setPending l) := by
  obtain ⟨htime, hcorridor, hstore⟩ := stored_resetBy e l
  obtain ⟨hnotes, halerts, hport⟩ := sound_resetBy e l
  exact ⟨htime, hcorridor, hstore, plansOk_resetBy e l, junctionsSuit_resetBy e l, quiet_resetBy e l,
    cyclesOk_resetBy e l, platoonsOk_resetBy e l, platoonsApart_resetBy e l, prioritiesOk_resetBy e l, hnotes, halerts,
    hport⟩

end Sys2Proof.Machine

namespace Sys2Proof.Proofs

open Sys2Proof.Machine Sys2Proof.Safety

/-- Settles O1: RESET keeps the queue as it is, and so does every part of any other command. -/
theorem stepRunsFrontCommand : Obligations.StepRunsFrontCommand := by
  refine ⟨fun c s => ?_, fun c rest s h => ?_, fun s h => ?_⟩
  · obtain ⟨t, ht⟩ := exec_next c s
    exact ⟨t, ht, exec_pending ht⟩
  · rw [step, h]
  · rw [step, h]

/-- Settles O2: the reset values are written out in the model, and a held part answers each command with its state. -/
theorem resetGivesResetValues : Obligations.ResetGivesResetValues := by
  refine ⟨fun l s => ?_, fun s => ?_, fun c s hs hc => exec_of_held hs hc, fun cs s => ?_⟩
  · refine ⟨_, rfl, rfl, rfl, rfl, rfl, fun k => ?_, fun k => ?_, fun k => ?_, rfl, rfl, rfl, rfl, rfl, rfl, rfl, fun k => ?_,
      fun k => ?_, fun k => ?_, rfl, rfl, rfl, rfl, rfl, pendingSet_reset l _, rfl, rfl, rfl, rfl, rfl, rfl⟩
    · exact Vector.getElem_replicate ..
    · exact Vector.getElem_replicate ..
    · exact Vector.getElem_replicate ..
    · exact Vector.getElem_replicate ..
    · exact Vector.getElem_replicate ..
    · have hk : ((resetBy (.rise l)).setPending s.pending).inputs[k] = Input.reset := Vector.getElem_replicate ..
      rw [hk]
      exact ⟨rfl, rfl, rfl, rfl, rfl, rfl⟩
  · exact ⟨_, rfl, rfl, rfl, rfl, rfl⟩
  · refine ⟨fun hs => outputs_of_held hs cs, fun hs => ?_⟩
    rw [(outputs_of_running hs cs).2.2, beq_iff_eq]

/-- Settles O3: the base of every invariant's induction. -/
theorem resetStateIsSafe : Obligations.ResetStateIsSafe := by
  refine ⟨safe_resetBy (.rise .low) [], fun e s t h => ?_⟩
  obtain rfl := Host.Outcome.next.inj h
  exact safe_resetBy e s.pending

/-- Settles O4: nothing that an event or request does moves CT, and a count moves it once. -/
theorem onlyCountsMoveCorridorTime : Obligations.OnlyCountsMoveCorridorTime := by
  intro c s t h hc
  by_cases hcount : ∃ y a b d e, c = .ctCount y a b d e
  · obtain ⟨y, a, b, d, e, rfl⟩ := hcount
    by_cases hs : Running s
    · obtain ⟨hct, hvalid⟩ := exec_ctCount_time hs h
      exact ⟨fun _ _ => hct, fun hnot => absurd rfl (hnot.resolve_left (not_not_intro hs) y a b d e), hvalid⟩
    · have hheld := exec_of_held (Bool.not_eq_false _ ▸ hs : s.inReset = true) hc
      obtain rfl := Host.Outcome.next.inj (hheld.symm.trans h)
      exact ⟨fun hrun => absurd hrun hs, fun _ => rfl, id⟩
  · have hne : ∀ y a b d e, c ≠ .ctCount y a b d e := fun y a b d e heq => hcount ⟨y, a, b, d, e, heq⟩
    obtain ⟨hct, hvalid⟩ := exec_timeStands h hc hne
    exact ⟨fun _ hcount' => absurd hcount' hcount, fun _ => hct, hvalid⟩

/-- Settles O7: the effect of an event or request leaves the pulse end, and its end moves it for a joining source. -/
theorem pulseFollowsJoiningSources : Obligations.PulseFollowsJoiningSources := by
  intro c s t hplain h hc hcount hpulse hconfig
  cases exec_left h hc with
  | same => simp
  | settled heffect => exact settle_pulseEnd (heffect.frame .pulseEnd (by simp))
  | config hor _ _ _ =>
    rcases hor with ⟨ps, k, rfl⟩ | hnot
    · exact absurd rfl (hconfig ps k)
    · exact absurd hplain hnot
  | pulseEnd he => exact absurd he hpulse
  | count he _ => exact absurd he (hcount _ _ _ _ _)

end Sys2Proof.Proofs
end

section
/-! SUPPORT. What a refusal leaves, owner by owner (R160, R113), and the statement about it. -/

namespace Sys2Proof.Machine

open Sys2Proof.Safety

/-! ## Refusals at the owners (R160) -/

/-- A request is carried out, or it is refused. A refusal leaves the state as it was, but for PLATOON_REFUSED on a
PLATOON SEEN refused TABLE_FULL (R113). -/
def Clean (code : Byte) (s : State) (x : Reply × State) : Prop :=
  x.1.cls = .done ∨ (x.1.cls = .refused ∧
    (x.2 = s ∨ (code = 0x30 ∧ x.1.reason = .tableFull ∧ x.2 = s.latch .platoonRefused)))

section
variable {code : Byte} {s : State}

@[simp] theorem clean_refuse (reason : Reason) : Clean code s (refuse reason s) := .inr ⟨rfl, .inl rfl⟩

@[simp] theorem clean_refuseStale (note : Option RetirementNote) : Clean code s (refuseStale note s) :=
  .inr ⟨rfl, .inl rfl⟩

@[simp] theorem clean_refusedReply (reason : Reason) (payload : List Byte) :
    Clean code s (refusedReply reason payload, s) := .inr ⟨rfl, .inl rfl⟩

@[simp] theorem clean_done (reason : Reason) (payload : List Byte) (t : State) : Clean code s (done reason payload t) :=
  .inl rfl

@[simp] theorem clean_doneReply (reason : Reason) (payload : List Byte) (t : State) :
    Clean code s (doneReply reason payload, t) := .inl rfl

/-! ### The clock, the corridor table and the plan selector -/

theorem clean_ownSetClock (q : ClockFields) : Clean code s (ownSetClock q s) := by
  unfold ownSetClock
  split <;> simp

theorem clean_ownSetCorridor (q : CorridorFields) : Clean code s (ownSetCorridor q s) := by
  unfold ownSetCorridor
  split
  · simp
  · split
    · simp
    · split <;> simp

theorem clean_ownSetJunction (q : JunctionFields) : Clean code s (ownSetJunction q s) := by
  unfold ownSetJunction
  split
  · simp
  · split
    · simp
    · split
      · split <;> simp
      · simp

theorem clean_ownReadJunction (j : Nat) : Clean code s (ownReadJunction j s) := by
  unfold ownReadJunction
  split <;> simp

theorem clean_ownSetGroup (q : GroupFields) : Clean code s (ownSetGroup q s) := by
  unfold ownSetGroup
  split <;> simp

theorem clean_ownReadGroup (i : Nat) : Clean code s (ownReadGroup i s) := by
  unfold ownReadGroup
  split <;> simp

theorem clean_ownSetPlan (q : Nat × Plan) : Clean code s (ownSetPlan q s) := by
  unfold ownSetPlan
  split
  · simp
  · split
    · simp
    · split <;> simp

theorem clean_ownReadPlan (p : Nat) : Clean code s (ownReadPlan p s) := by
  unfold ownReadPlan
  split <;> simp

theorem clean_ownSetScheduleEntry (q : ScheduleFields) : Clean code s (ownSetScheduleEntry q s) := by
  unfold ownSetScheduleEntry
  split <;> simp

theorem clean_ownReadScheduleEntry (i : Nat) : Clean code s (ownReadScheduleEntry i s) := by
  unfold ownReadScheduleEntry
  split <;> simp

/-- An activation answers REFUSED only where it was refused, and then it left the state as it was (R35, R36). -/
theorem clean_ownActivatePlan (p : Nat) : Clean code s (ownActivatePlan p s) := by
  unfold ownActivatePlan
  split
  · simp
  · split
    · simp
    · rcases activate_cases p s with ⟨-, -, e⟩ | ⟨-, -, e⟩ | ⟨-, -, e⟩ | ⟨-, -, -, e⟩ | ⟨-, -, -, f, e, -⟩ |
        ⟨-, -, -, q, -, -, ⟨-, e⟩ | ⟨-, e⟩⟩ <;> rw [e]
      · exact .inl rfl
      · exact .inl rfl
      · exact .inl rfl
      · exact .inr ⟨rfl, .inl rfl⟩
      · exact .inr ⟨rfl, .inl rfl⟩
      · exact .inl rfl
      · exact .inl rfl

theorem clean_ownResyncJunction (j : Nat) : Clean code s (ownResyncJunction j s) := by
  unfold ownResyncJunction
  split
  · simp
  · split <;> simp

/-! ### The junctions -/

theorem clean_ownWindowQuery (j : Nat) : Clean code s (ownWindowQuery j s) := by
  unfold ownWindowQuery
  split <;> simp

theorem clean_ownSpillback (q : SpillbackFields) : Clean code s (ownSpillback q s) := by
  unfold ownSpillback
  split
  · split <;> simp
  · simp

theorem clean_ownPreemptBegin (j : Nat) : Clean code s (ownPreemptBegin j s) := by
  unfold ownPreemptBegin
  split <;> simp

theorem clean_ownPreemptEnd (j : Nat) : Clean code s (ownPreemptEnd j s) := by
  unfold ownPreemptEnd
  split
  · simp
  · split <;> simp

/-! ### The platoon table -/

theorem clean_seenEvict (formed : Platoon) (c : Clamps) : Clean 0x30 s (seenEvict formed c s) := by
  have hfull : Clean 0x30 s (refusedReply .tableFull [], s.latch .platoonRefused) := .inr ⟨rfl, .inr ⟨rfl, rfl, rfl⟩⟩
  unfold seenEvict
  split
  · split
    · exact .inl rfl
    · exact hfull
  · exact hfull

theorem clean_seenFormed (formed : Platoon) (c : Clamps) : Clean 0x30 s (seenFormed formed c s) := by
  unfold seenFormed
  split
  · simp
  · split
    · unfold seenMerge
      dsimp only
      split <;> exact .inl rfl
    · unfold seenPlace
      split
      · exact .inl rfl
      · exact clean_seenEvict formed c

theorem clean_ownPlatoonSeen (q : SeenFields) : Clean 0x30 s (ownPlatoonSeen q s) := by
  unfold ownPlatoonSeen
  split
  · simp
  · split
    · simp
    · split
      · split
        · simp
        · split
          · simp
          · unfold seenAtJunction
            split
            · simp
            · exact clean_seenFormed _ _
      · split
        · simp
        · split
          · simp
          · exact clean_seenFormed _ _

/-- A passage that moves its record on is carried out, whatever becomes of the record (R119). -/
theorem advanceOnward_cls (k : Fin Config.platoonSlots) (r : Platoon) (c : Clamps) (s : State) :
    (advanceOnward k r c s).1.cls = .done := by
  unfold advanceOnward
  split
  · rfl
  · split
    · unfold passageMerge
      dsimp only
      split <;> rfl
    · rfl

theorem advance_cls (k : Fin Config.platoonSlots) (r : Platoon) (j : Nat) (t : Ct) (a : ActivePlan) (p : Plan)
    (c : Clamps) (s : State) : (advance k r j t a p c s).1.cls = .done := by
  unfold advance
  split
  · rfl
  · exact advanceOnward_cls ..

theorem clean_ownPassage (q : PassageFields) : Clean code s (ownPassage q s) := by
  unfold ownPassage
  split
  · simp
  · split
    · simp
    · split
      · simp
      · split
        · simp
        · dsimp only
          split
          · unfold passageById
            split
            · simp
            · simp
            · split
              · exact Or.inl (advance_cls ..)
              · simp
          · unfold passageByMatch
            split
            · exact Or.inl (advance_cls ..)
            · simp

theorem clean_ownReadPlatoon (id : Identifier) : Clean code s (ownReadPlatoon id s) := by
  unfold ownReadPlatoon
  split <;> simp

theorem clean_ownCancelPlatoon (id : Identifier) : Clean code s (ownCancelPlatoon id s) := by
  unfold ownCancelPlatoon
  split <;> simp

/-! ### The priority list and the list sequences -/

theorem listStep_cls (f : ListFilter) (cursor : Option ListKey) (s : State) : (listStep f cursor s).1.cls = .done := by
  unfold listStep
  split
  · rfl
  · split <;> rfl

theorem clean_ownListPlatoons (q : Nat × Nat) : Clean code s (ownListPlatoons q s) := by
  unfold ownListPlatoons
  split
  · split
    · simp
    · exact Or.inl (listStep_cls ..)
  · simp

theorem clean_ownListPriority (q : Nat) : Clean code s (ownListPriority q s) := by
  unfold ownListPriority
  split
  · split
    · simp
    · exact Or.inl (listStep_cls ..)
  · simp

theorem clean_ownContinueList : Clean code s (ownContinueList () s) := by
  unfold ownContinueList
  split
  · simp
  · exact Or.inl (listStep_cls ..)

theorem checkInReply_cls (reason : Reason) (k : Fin Config.prioritySlots) (extra : List Byte) (q : CheckIn) (t : State) :
    (checkInReply reason k extra q t).1.cls = .done := by
  unfold checkInReply
  split <;> rfl

theorem clean_ownCheckIn (q : CheckInFields) : Clean code s (ownCheckIn q s) := by
  unfold ownCheckIn
  split
  · simp
  · split
    · split
      · simp
      · split
        · simp
        · split
          · simp
          · unfold checkIn
            split
            · exact Or.inl (checkInReply_cls ..)
            · unfold checkInCreate
              split
              · exact Or.inl (checkInReply_cls ..)
              · split
                · exact Or.inl (checkInReply_cls ..)
                · simp
                · simp
    · simp

theorem clean_ownCheckOut (q : CheckOutForm) : Clean code s (ownCheckOut q s) := by
  unfold ownCheckOut
  split
  · split
    · simp
    · simp
    · exact .inl rfl
  · split
    · simp
    · split
      · simp
      · split
        · exact .inl rfl
        · simp

theorem clean_ownReadPriority (id : Identifier) : Clean code s (ownReadPriority id s) := by
  unfold ownReadPriority
  split <;> simp

/-! ### The inputs and the alert unit -/

theorem clean_ownSetInput (q : InputFields) : Clean code s (ownSetInput q s) := by
  unfold ownSetInput
  split <;> simp

theorem clean_ownSetAlertConfig (q : AlertFields) : Clean code s (ownSetAlertConfig q s) := by
  unfold ownSetAlertConfig
  split <;> simp

theorem clean_ownAcknowledgeAlerts (q : Nat) : Clean code s (ownAcknowledgeAlerts q s) := by
  unfold ownAcknowledgeAlerts
  split <;> simp

theorem clean_ownLockEdits : Clean code s (ownLockEdits () s) := by
  unfold ownLockEdits
  split <;> simp

/-! ## Refusals at the port -/

/-- The owner of a request whose code names it. -/
theorem clean_owner {ps : List Byte} {q : Request} {owner : State → Reply × State}
    (hq : requestOf code ps = some q) (howner : q.body = some owner) : Clean code s (owner s) := by
  unfold requestOf at hq
  split at hq
  all_goals simp only [Option.some.injEq, reduceCtorEq] at hq
  all_goals
    subst hq
    obtain ⟨x, hx, rfl⟩ := Option.map_eq_some_iff.mp howner
  · exact clean_ownSetClock x
  · exact clean_done _ _ _
  · exact clean_done _ _ _
  · exact clean_ownSetCorridor x
  · exact clean_done _ _ _
  · exact clean_ownSetJunction x
  · exact clean_ownReadJunction x
  · exact clean_ownSetGroup x
  · exact clean_ownReadGroup x
  · exact clean_ownSetPlan x
  · exact clean_ownReadPlan x
  · exact clean_ownSetScheduleEntry x
  · exact clean_ownReadScheduleEntry x
  · exact clean_ownActivatePlan x
  · exact clean_done _ _ _
  · exact clean_ownResyncJunction x
  · exact clean_ownWindowQuery x
  · exact clean_ownSpillback x
  · exact clean_ownPreemptBegin x
  · exact clean_ownPreemptEnd x
  · next hcode =>
    have hcode : code = 0x30 := BitVec.eq_of_toNat_eq hcode
    exact hcode ▸ clean_ownPlatoonSeen x
  · exact clean_ownPassage x
  · exact clean_ownReadPlatoon x
  · exact clean_ownCancelPlatoon x
  · exact clean_ownListPlatoons x
  · exact clean_ownCheckIn x
  · exact clean_ownCheckOut x
  · exact clean_ownReadPriority x
  · exact clean_ownListPriority x
  · exact clean_done _ _ _
  · exact clean_ownSetInput x
  · exact clean_done _ _ _
  · exact clean_done _ _ _
  · exact clean_ownSetAlertConfig x
  · exact clean_ownAcknowledgeAlerts x
  · exact clean_ownContinueList
  · exact clean_ownLockEdits

theorem clean_serve (code : Byte) (ps : List Byte) (s : State) : Clean code s (serve (requestOf code ps) s) := by
  rcases serve_cases (requestOf code ps) s with ⟨-, e⟩ | ⟨q, -, -, e⟩ | ⟨q, o, -, -, -, -, e⟩ | ⟨q, o, hq, ho, -, e⟩ <;>
    rw [e]
  · exact clean_refuse _
  · exact clean_refuse _
  · exact clean_refuse _
  · exact clean_owner hq ho

end

/-- An IDLE port executes a request and answers with what its serving gives. -/
theorem exec_of_idle {c : Instr} {code : Byte} {ps : List Byte} {s u : State} {r : Reply} (hs : Idle s)
    (hc : c.code? = some code) (hp : c.params? = some ps)
    (h : serve (requestOf code ps) (accepted (2 + ps.length + c.extra) s) = (r, u)) :
    exec c s = .next (settle s (executing code r u)) := by
  rw [exec_request hc hp, run_send_of_serve hs h]

theorem params?_of_code? {c : Instr} {code : Byte} (hc : c.code? = some code) : ∃ ps, c.params? = some ps := by
  refine Option.isSome_iff_exists.mp ?_
  rw [← code?_isSome_iff, hc]
  rfl

end Sys2Proof.Machine

namespace Sys2Proof.Proofs

open Sys2Proof.Machine Sys2Proof.Safety

/-- Settles O5: every refusal, of the port or of an owner, leaves the state it was given, but for the alert of a PLATOON
SEEN on a full table. -/
theorem refusalChangesNothing : Obligations.RefusalChangesNothing := by
  intro c code s t f hc hs hexec hport hrefused
  obtain ⟨ps, hp⟩ := params?_of_code? hc
  cases hserve : serve (requestOf code ps) (accepted (2 + ps.length + c.extra) s) with
  | mk r u =>
    obtain rfl := Host.Outcome.next.inj ((exec_of_idle hs hc hp hserve).symm.trans hexec)
    have hframe : PortState.executing (frameOf code r u) false = .executing f false :=
      (congrArg Port.state (settle_port s _)).symm.trans hport
    obtain rfl := (PortState.executing.inj hframe).1
    have hclean := clean_serve code ps (accepted (2 + ps.length + c.extra) s)
    rw [hserve] at hclean
    have hnotDone : r.cls ≠ .done := fun h => by cases h.symm.trans hrefused
    rcases (hclean.resolve_left hnotDone).2 with rfl | ⟨hcode, hreason, rfl⟩
    · exact .inl (frame_executed_of_quiet hs.2 (.refl [] _) (by simp) code r)
    · refine .inr ⟨hcode, hreason, (frame_executed (frame_latch _ _) code r).mono (by simp), ?_⟩
      rw [settle_latched]
      rfl

end Sys2Proof.Proofs
end

section
/-! SUPPORT. REJECTED and the bytes clocked out play no part in what a request does (R153, R154); the answer to a whole
frame, and the statement about it. -/

namespace Sys2Proof.Machine

open Sys2Proof.Safety

/-! ## The state with other pins of the port -/

/-- The state with an IDLE port, REJECTED and the bytes clocked out replaced. -/
def State.withPins (s : State) (rejected : Bool) (out : List Byte) : State :=
  s.setPort { s.port with state := .idle, rejected := rejected, sdo := out }

theorem accepted_eq_withPins {s : State} (hs : s.port.state = .idle) (k : Nat) :
    accepted k s = s.withPins false (sendOut s k) := by
  rw [accepted, State.withPins, ← hs]

theorem withPins_self {s : State} (hs : s.port.state = .idle) : s.withPins s.port.rejected s.port.sdo = s := by
  rw [State.withPins, ← hs]
  rfl

section
variable (s : State) (r : Bool) (o : List Byte)

@[simp] theorem withPins_time : (s.withPins r o).time = s.time := rfl
@[simp] theorem withPins_settings : (s.withPins r o).settings = s.settings := rfl
@[simp] theorem withPins_groups : (s.withPins r o).groups = s.groups := rfl
@[simp] theorem withPins_junctions : (s.withPins r o).junctions = s.junctions := rfl
@[simp] theorem withPins_plans : (s.withPins r o).plans = s.plans := rfl
@[simp] theorem withPins_selector : (s.withPins r o).selector = s.selector := rfl
@[simp] theorem withPins_platoons : (s.withPins r o).platoons = s.platoons := rfl
@[simp] theorem withPins_priorities : (s.withPins r o).priorities = s.priorities := rfl
@[simp] theorem withPins_inputs : (s.withPins r o).inputs = s.inputs := rfl
@[simp] theorem withPins_alerts : (s.withPins r o).alerts = s.alerts := rfl
@[simp] theorem withPins_sequence : (s.withPins r o).port.sequence = s.port.sequence := rfl
@[simp] theorem withPins_editLock : (s.withPins r o).port.editLock = s.port.editLock := rfl
@[simp] theorem withPins_now : (s.withPins r o).now = s.now := rfl
@[simp] theorem withPins_n : (s.withPins r o).n = s.n := rfl
@[simp] theorem withPins_activeNumber : (s.withPins r o).activeNumber = s.activeNumber := rfl
@[simp] theorem withPins_planRecord (n : Nat) : (s.withPins r o).planRecord n = s.planRecord n := rfl
@[simp] theorem withPins_activeRecord : (s.withPins r o).activeRecord = s.activeRecord := rfl
@[simp] theorem withPins_target : (s.withPins r o).target = s.target := rfl
@[simp] theorem withPins_attributes (j : Nat) : (s.withPins r o).attributes j = s.attributes j := rfl
@[simp] theorem withPins_corridorFree : (s.withPins r o).corridorFree = s.corridorFree := rfl
@[simp] theorem withPins_forced : (s.withPins r o).forced = s.forced := rfl
@[simp] theorem withPins_arbitrate : (s.withPins r o).arbitrate = s.arbitrate := rfl
@[simp] theorem withPins_editsLocked : (s.withPins r o).editsLocked = s.editsLocked := rfl
@[simp] theorem withPins_livePlatoons : (s.withPins r o).livePlatoons = s.livePlatoons := rfl
@[simp] theorem withPins_livePriorities : (s.withPins r o).livePriorities = s.livePriorities := rfl

end

/-- A change of the state that the pins of the port play no part in. -/
def Through (f : State → State) : Prop := ∀ s r o, f (s.withPins r o) = (f s).withPins r o

/-- A state given with a reply or an outcome, with other pins of the port. -/
def pin {α : Type} (r : Bool) (o : List Byte) (x : α × State) : α × State := (x.1, x.2.withPins r o)

/-- The same for the owner of a request that an IDLE port executes, whose reply they play no part in either. -/
def Pinned (f : State → Reply × State) : Prop :=
  ∀ s r o, s.port.state = .idle → f (s.withPins r o) = pin r o (f s)

/-- A function moves through the branches of a test that reads the same. -/
theorem ite_map {α β : Type} (g : α → β) {c d : Prop} [Decidable c] [Decidable d] {a b : α} {a' b' : β} (h : d ↔ c)
    (ha : a' = g a) (hb : b' = g b) : (if d then a' else b') = g (if c then a else b) := by
  subst ha hb
  by_cases hc : c
  · rw [if_pos hc, if_pos (h.mpr hc)]
  · rw [if_neg hc, if_neg fun hd => hc (h.mp hd)]

/-! ## The shared changes -/

theorem through_rederive : Through rederive := by
  intro s r o
  simp only [rederive, withPins_activeRecord]
  split <;> rfl

theorem activate_withPins (n : Nat) (s : State) (r : Bool) (o : List Byte) :
    activate n (s.withPins r o) = pin r o (activate n s) := by
  simp only [activate, activateValid, withPins_activeNumber, withPins_selector, withPins_time, withPins_planRecord,
    withPins_junctions]
  refine ite_map (pin r o) .rfl (ite_map (pin r o) .rfl rfl rfl) (ite_map (pin r o) .rfl rfl
    (ite_map (pin r o) .rfl rfl ?_))
  split
  · rfl
  · split
    · rfl
    · split <;> rfl

theorem through_activateUnanswered (n : Nat) : Through (activateUnanswered n) := by
  intro s r o
  simp only [activateUnanswered, activate_withPins]
  exact ite_map (State.withPins · r o) .rfl rfl rfl

theorem through_select (reconcile : Bool) : Through (select reconcile) := by
  intro s r o
  simp only [select, withPins_arbitrate, withPins_selector, withPins_target]
  exact ite_map (State.withPins · r o) .rfl (through_activateUnanswered _ (reform s) r o) rfl

theorem through_catchUpSchedule : Through catchUpSchedule := by
  intro s r o
  simp only [catchUpSchedule, withPins_selector, withPins_time]
  refine ite_map (State.withPins · r o) .rfl ?_ rfl
  split <;> rfl

theorem through_catchUp : Through catchUp := by
  intro s r o
  rw [catchUp, through_catchUpSchedule, through_select, catchUp]

theorem through_corridorFreeChange (was : Bool) : Through (corridorFreeChange was) := by
  intro s r o
  exact ite_map (State.withPins · r o) .rfl rfl (ite_map (State.withPins · r o) .rfl rfl rfl)

theorem through_changeInput (k : Fin Config.inputCount) (v : Bool) : Through (changeInput k v) := by
  intro s r o
  have hfunc : (s.withPins r o).inputs[k].func = s.inputs[k].func := rfl
  cases hf : s.inputs[k].func with
  | none =>
    rw [changeInput_of_free (.inl (hfunc.trans hf)), changeInput_of_free (.inl hf)]
    rfl
  | editEnable =>
    rw [changeInput_of_free (.inr (hfunc.trans hf)), changeInput_of_free (.inr hf)]
    rfl
  | corridorFree =>
    rw [changeInput_of_corridorFree (hfunc.trans hf), changeInput_of_corridorFree hf]
    exact through_corridorFreeChange _ (setValidated k v s) r o
  | planForce p =>
    cases v with
    | true =>
      rw [changeInput_of_asserted (hfunc.trans hf), changeInput_of_asserted hf]
      exact through_select false (setValidated k true s) r o
    | false =>
      rw [changeInput_of_released (hfunc.trans hf), changeInput_of_released hf]
      exact through_catchUp (setValidated k false s) r o

theorem through_releaseInput (k : Fin Config.inputCount) : Through (releaseInput k) := by
  intro s r o
  exact ite_map (State.withPins · r o) .rfl (through_changeInput k false s r o) rfl

theorem earliestLate_withPins (j : Nat) (s : State) (r : Bool) (o : List Byte) :
    earliestLate j (s.withPins r o) = earliestLate j s := rfl

theorem through_evaluateEarly (j : Nat) : Through (evaluateEarly j) := by
  intro s r o
  simp only [evaluateEarly, withPins_junctions, withPins_attributes, earliestLate_withPins, withPins_now]
  split
  · rfl
  · split
    · refine ite_map (State.withPins · r o) .rfl ?_ rfl
      split
      · exact ite_map (State.withPins · r o) .rfl rfl rfl
      · rfl
    · rfl

/-! ## The owners -/

theorem pinned_ownSetClock (q : ClockFields) : Pinned (ownSetClock q) := by
  intro s r o hs
  unfold ownSetClock
  split
  · rfl
  · next k _ =>
    have hset : rederive ((s.withPins r o).setTime ((s.withPins r o).time.setClock k)) =
        (rederive (s.setTime (s.time.setClock k))).withPins r o := through_rederive (s.setTime _) r o
    rw [hset, through_catchUp]
    rfl

theorem pinned_ownSetCorridor (q : CorridorFields) : Pinned (ownSetCorridor q) := by
  intro s r o hs
  refine ite_map (pin r o) .rfl rfl ?_
  split
  · rfl
  · exact ite_map (pin r o) .rfl rfl rfl

theorem pinned_ownSetJunction (q : JunctionFields) : Pinned (ownSetJunction q) := by
  intro s r o hs
  refine ite_map (pin r o) .rfl rfl (ite_map (pin r o) .rfl rfl (ite_map (pin r o) .rfl ?_ rfl))
  simp only [withPins_n]
  split <;> rfl

theorem pinned_ownReadJunction (j : Nat) : Pinned (ownReadJunction j) := by
  intro s r o hs
  simp only [ownReadJunction, withPins_junctions]
  split <;> rfl

theorem pinned_ownSetGroup (q : GroupFields) : Pinned (ownSetGroup q) := by
  intro s r o hs
  unfold ownSetGroup
  split <;> rfl

theorem pinned_ownReadGroup (i : Nat) : Pinned (ownReadGroup i) := by
  intro s r o hs
  unfold ownReadGroup
  split <;> rfl

theorem pinned_ownSetPlan (q : Nat × Plan) : Pinned (ownSetPlan q) := by
  intro s r o hs
  unfold ownSetPlan
  split
  · rfl
  · exact ite_map (pin r o) .rfl rfl (ite_map (pin r o) .rfl rfl rfl)

theorem pinned_ownReadPlan (p : Nat) : Pinned (ownReadPlan p) := by
  intro s r o hs
  unfold ownReadPlan
  split <;> rfl

theorem pinned_ownSetScheduleEntry (q : ScheduleFields) : Pinned (ownSetScheduleEntry q) := by
  intro s r o hs
  unfold ownSetScheduleEntry
  split <;> rfl

theorem pinned_ownReadScheduleEntry (i : Nat) : Pinned (ownReadScheduleEntry i) := by
  intro s r o hs
  unfold ownReadScheduleEntry
  split <;> rfl

theorem pinned_ownActivatePlan (p : Nat) : Pinned (ownActivatePlan p) := by
  intro s r o hs
  refine ite_map (pin r o) .rfl rfl (ite_map (pin r o) .rfl rfl ?_)
  dsimp only
  rw [activate_withPins]
  exact congrArg (Prod.mk _) (ite_map (State.withPins · r o) .rfl rfl rfl)

theorem pinned_ownResumeSchedule : Pinned (ownResumeSchedule ()) := by
  intro s r o hs
  exact congrArg (Prod.mk (doneReply .none [])) (through_catchUp (setHold false 0 s) r o)

theorem pinned_ownResyncJunction (j : Nat) : Pinned (ownResyncJunction j) := by
  intro s r o hs
  simp only [ownResyncJunction, withPins_junctions]
  split
  · rfl
  · exact ite_map (pin r o) .rfl rfl rfl

theorem pinned_ownWindowQuery (j : Nat) : Pinned (ownWindowQuery j) := by
  intro s r o hs
  simp only [ownWindowQuery, withPins_junctions]
  split <;> rfl

theorem pinned_ownSpillback (q : SpillbackFields) : Pinned (ownSpillback q) := by
  intro s r o hs
  unfold ownSpillback
  split
  · exact ite_map (pin r o) .rfl rfl rfl
  · rfl

theorem pinned_ownPreemptBegin (j : Nat) : Pinned (ownPreemptBegin j) := by
  intro s r o hs
  simp only [ownPreemptBegin, withPins_junctions]
  split <;> rfl

theorem pinned_ownPreemptEnd (j : Nat) : Pinned (ownPreemptEnd j) := by
  intro s r o hs
  simp only [ownPreemptEnd, withPins_junctions]
  split
  · rfl
  · exact ite_map (pin r o) .rfl rfl rfl

theorem pinned_seenEvict (formed : Platoon) (c : Clamps) : Pinned (seenEvict formed c) := by
  intro s r o hs
  simp only [seenEvict, withPins_platoons]
  split
  · exact ite_map (pin r o) .rfl rfl rfl
  · rfl

theorem pinned_seenFormed (formed : Platoon) (c : Clamps) : Pinned (seenFormed formed c) := by
  intro s r o hs
  refine ite_map (pin r o) .rfl rfl ?_
  simp only [withPins_settings, withPins_platoons]
  split
  · exact ite_map (pin r o) .rfl rfl rfl
  · simp only [seenPlace, withPins_platoons]
    split
    · rfl
    · exact pinned_seenEvict formed c s r o hs

theorem pinned_ownPlatoonSeen (q : SeenFields) : Pinned (ownPlatoonSeen q) := by
  intro s r o hs
  simp only [ownPlatoonSeen, withPins_activeRecord]
  split
  · rfl
  · split
    · rfl
    · split
      · exact ite_map (pin r o) .rfl rfl (ite_map (pin r o) .rfl rfl
          (ite_map (pin r o) .rfl rfl (pinned_seenFormed _ _ s r o hs)))
      · split
        · rfl
        · exact ite_map (pin r o) .rfl rfl (pinned_seenFormed _ _ s r o hs)

theorem pinned_advance (k : Fin Config.platoonSlots) (x : Platoon) (j : Nat) (t : Ct) (a : ActivePlan) (p : Plan)
    (c : Clamps) : Pinned (advance k x j t a p c) := by
  intro s r o hs
  refine ite_map (pin r o) .rfl rfl (ite_map (pin r o) .rfl rfl ?_)
  simp only [withPins_settings, withPins_platoons]
  split
  · exact ite_map (pin r o) .rfl rfl rfl
  · rfl

theorem pinned_ownPassage (q : PassageFields) : Pinned (ownPassage q) := by
  intro s r o hs
  have hmatch : ∀ j d t, matchPassage j d t (s.withPins r o) = matchPassage j d t s := fun _ _ _ => rfl
  simp only [ownPassage, withPins_activeRecord]
  split
  · rfl
  · split
    · rfl
    · refine ite_map (pin r o) .rfl rfl (ite_map (pin r o) .rfl rfl ?_)
      split
      · simp only [passageById, withPins_platoons]
        split
        · rfl
        · rfl
        · exact ite_map (pin r o) .rfl (pinned_advance _ _ _ _ _ _ _ s r o hs) rfl
      · simp only [passageByMatch, hmatch, withPins_now]
        split
        · exact pinned_advance _ _ _ _ _ _ _ s r o hs
        · rfl

theorem pinned_ownReadPlatoon (id : Identifier) : Pinned (ownReadPlatoon id) := by
  intro s r o hs
  simp only [ownReadPlatoon, withPins_platoons]
  split <;> rfl

theorem pinned_ownCancelPlatoon (id : Identifier) : Pinned (ownCancelPlatoon id) := by
  intro s r o hs
  simp only [ownCancelPlatoon, withPins_platoons]
  split <;> rfl

theorem pinned_listStep (f : ListFilter) (cursor : Option ListKey) : Pinned (listStep f cursor) := by
  intro s r o hs
  have hpassing : passing f (s.withPins r o) = passing f s := by cases f <;> rfl
  simp only [listStep, hpassing]
  split
  · rfl
  · exact ite_map (pin r o) .rfl rfl rfl

theorem pinned_ownListPlatoons (q : Nat × Nat) : Pinned (ownListPlatoons q) := by
  intro s r o hs
  unfold ownListPlatoons
  split
  · exact ite_map (pin r o) .rfl rfl (pinned_listStep _ _ s r o hs)
  · rfl

theorem pinned_ownListPriority (q : Nat) : Pinned (ownListPriority q) := by
  intro s r o hs
  unfold ownListPriority
  split
  · exact ite_map (pin r o) .rfl rfl (pinned_listStep _ _ s r o hs)
  · rfl

theorem pinned_ownContinueList : Pinned (ownContinueList ()) := by
  intro s r o hs
  simp only [ownContinueList, withPins_sequence]
  split
  · rfl
  · exact pinned_listStep _ _ s r o hs

theorem through_afterCheckIn (q : CheckIn) : Through (afterCheckIn q) := by
  intro s r o
  unfold afterCheckIn
  split
  · exact through_evaluateEarly q.j s r o
  · rfl

theorem checkInReply_withPins (reason : Reason) (k : Fin Config.prioritySlots) (extra : List Byte) (q : CheckIn)
    (s : State) (r : Bool) (o : List Byte) :
    checkInReply reason k extra q (s.withPins r o) = pin r o (checkInReply reason k extra q s) := by
  have hlive : (s.withPins r o).priorities[k].live = s.priorities[k].live := rfl
  unfold checkInReply
  rw [hlive]
  cases s.priorities[k].live <;> rfl

/-- The record of a check-in stored, then the evaluation, then the reply. -/
theorem stored_withPins {f : State → State} (hf : Through f) (reason : Reason) (k : Fin Config.prioritySlots)
    (extra : List Byte) (q : CheckIn) (s : State) (r : Bool) (o : List Byte) :
    checkInReply reason k extra q (afterCheckIn q (f (s.withPins r o))) =
      pin r o (checkInReply reason k extra q (afterCheckIn q (f s))) := by
  rw [hf, through_afterCheckIn, checkInReply_withPins]

theorem pinned_checkInCreate (q : CheckIn) : Pinned (checkInCreate q) := by
  intro s r o hs
  have hvictim : priorityVictim (s.withPins r o) = priorityVictim s := rfl
  simp only [checkInCreate, withPins_priorities, withPins_settings, withPins_now, hvictim]
  split
  · next k _ =>
    exact stored_withPins (f := createPriority k (newPriority q s.settings.lm)) (fun _ _ _ => rfl) _ k [] q s r o
  · split
    · next k _ _ _ =>
      exact stored_withPins (f := fun t => createPriority k (newPriority q s.settings.lm)
        (t.setPriorities (retireAt s.priorities k .evicted s.now))) (fun _ _ _ => rfl) _ k _ q s r o
    · rfl
    · rfl

theorem pinned_checkIn (q : CheckIn) : Pinned (checkIn q) := by
  intro s r o hs
  have hrecord : recordOf q.tag q.j (s.withPins r o) = recordOf q.tag q.j s := rfl
  simp only [checkIn, hrecord, withPins_priorities, withPins_settings]
  split
  · next k x _ =>
    exact stored_withPins (f := fun t => t.setPriorities
      (rewrite s.priorities k (updatePriority q s.settings.lm x))) (fun _ _ _ => rfl) _ k [] q s r o
  · exact pinned_checkInCreate q s r o hs

theorem pinned_ownCheckIn (q : CheckInFields) : Pinned (ownCheckIn q) := by
  intro s r o hs
  refine ite_map (pin r o) .rfl rfl ?_
  split
  · exact ite_map (pin r o) .rfl rfl (ite_map (pin r o) .rfl rfl
      (ite_map (pin r o) .rfl rfl (pinned_checkIn _ s r o hs)))
  · rfl

theorem pinned_ownCheckOut (q : CheckOutForm) : Pinned (ownCheckOut q) := by
  intro s r o hs
  have hrecord : ∀ tag j, recordOf tag j (s.withPins r o) = recordOf tag j s := fun _ _ => rfl
  unfold ownCheckOut
  split
  · simp only [withPins_priorities]
    split <;> rfl
  · refine ite_map (pin r o) .rfl rfl (ite_map (pin r o) .rfl rfl ?_)
    simp only [hrecord]
    split <;> rfl

theorem pinned_ownReadPriority (id : Identifier) : Pinned (ownReadPriority id) := by
  intro s r o hs
  simp only [ownReadPriority, withPins_priorities]
  split <;> rfl

theorem pinned_ownSetInput (q : InputFields) : Pinned (ownSetInput q) := by
  intro s r o hs
  unfold ownSetInput
  split
  · next k f p _ _ =>
    exact congrArg (fun t => done .none [] (configureInput k f p q.assertTime q.releaseTime t))
      (through_releaseInput k s r o)
  · rfl

/-- RESULT_READY is the one alert source that the port forms. -/
theorem pendingSet_withPins {s : State} (hs : s.port.state = .idle) (r : Bool) (o : List Byte) :
    (s.withPins r o).pendingSet = s.pendingSet :=
  pendingSet_congr rfl rfl rfl (by rw [State.resultReady, State.resultReady, hs]; rfl)

theorem pinned_ownReadAlerts : Pinned (ownReadAlerts ()) := by
  intro s r o hs
  have hpayload : readAlertsPayload (s.withPins r o) = readAlertsPayload s := by
    simp only [readAlertsPayload, State.alertPin, State.alertWanted, State.activeSet, pendingSet_withPins hs,
      withPins_alerts]
    rfl
  rw [ownReadAlerts, ownReadAlerts, hpayload]
  rfl

theorem pinned_ownSetAlertConfig (q : AlertFields) : Pinned (ownSetAlertConfig q) := by
  intro s r o hs
  simp only [ownSetAlertConfig, withPins_alerts]
  split <;> rfl

theorem pinned_ownAcknowledgeAlerts (q : Nat) : Pinned (ownAcknowledgeAlerts q) := by
  intro s r o hs
  unfold ownAcknowledgeAlerts
  split <;> rfl

theorem pinned_ownLockEdits : Pinned (ownLockEdits ()) := by
  intro s r o hs
  exact ite_map (pin r o) .rfl rfl rfl

/-! ## The port -/

theorem pinned_owner {code : Byte} {ps : List Byte} {q : Request} {owner : State → Reply × State}
    (hq : requestOf code ps = some q) (howner : q.body = some owner) : Pinned owner := by
  unfold requestOf at hq
  split at hq
  all_goals simp only [Option.some.injEq, reduceCtorEq] at hq
  all_goals
    subst hq
    obtain ⟨x, hx, rfl⟩ := Option.map_eq_some_iff.mp howner
  · exact pinned_ownSetClock x
  · exact fun _ _ _ _ => rfl
  · exact fun _ _ _ _ => rfl
  · exact pinned_ownSetCorridor x
  · exact fun _ _ _ _ => rfl
  · exact pinned_ownSetJunction x
  · exact pinned_ownReadJunction x
  · exact pinned_ownSetGroup x
  · exact pinned_ownReadGroup x
  · exact pinned_ownSetPlan x
  · exact pinned_ownReadPlan x
  · exact pinned_ownSetScheduleEntry x
  · exact pinned_ownReadScheduleEntry x
  · exact pinned_ownActivatePlan x
  · exact pinned_ownResumeSchedule
  · exact pinned_ownResyncJunction x
  · exact pinned_ownWindowQuery x
  · exact pinned_ownSpillback x
  · exact pinned_ownPreemptBegin x
  · exact pinned_ownPreemptEnd x
  · exact pinned_ownPlatoonSeen x
  · exact pinned_ownPassage x
  · exact pinned_ownReadPlatoon x
  · exact pinned_ownCancelPlatoon x
  · exact pinned_ownListPlatoons x
  · exact pinned_ownCheckIn x
  · exact pinned_ownCheckOut x
  · exact pinned_ownReadPriority x
  · exact pinned_ownListPriority x
  · exact fun _ _ _ _ => rfl
  · exact pinned_ownSetInput x
  · exact fun _ _ _ _ => rfl
  · exact pinned_ownReadAlerts
  · exact pinned_ownSetAlertConfig x
  · exact pinned_ownAcknowledgeAlerts x
  · exact pinned_ownContinueList
  · exact pinned_ownLockEdits

theorem pinned_serve (code : Byte) (ps : List Byte) : Pinned (serve (requestOf code ps)) := by
  intro s r o hs
  cases hq : requestOf code ps with
  | none => rfl
  | some q =>
    cases howner : q.body with
    | none => simp only [serve, howner]; rfl
    | some owner =>
      simp only [serve, howner]
      exact ite_map (pin r o) .rfl rfl (pinned_owner hq howner s r o hs)

/-- A request leaves the port IDLE for the execution that holds its result. -/
theorem serve_idle {s : State} (hs : s.port.state = .idle) (code : Byte) (ps : List Byte) :
    (serve (requestOf code ps) s).2.port.state = .idle := by
  have h := pinned_serve code ps s s.port.rejected s.port.sdo hs
  rw [withPins_self hs] at h
  rw [h]
  rfl

/-- A request clocked in with `k` bytes leaves the same as with any other number, but for the bytes clocked out. -/
theorem exec_of_idle_withPins {c : Instr} {code : Byte} {ps : List Byte} {s : State} (hs : Idle s)
    (hc : c.code? = some code) (hp : c.params? = some ps) :
    exec c s = .next (settle s (executing code (serve (requestOf code ps) s).1
      ((serve (requestOf code ps) s).2.withPins false (sendOut s (2 + ps.length + c.extra))))) := by
  refine exec_of_idle hs hc hp ?_
  rw [accepted_eq_withPins hs.2]
  exact pinned_serve code ps s false _ hs.2

/-- What an execution answers, from a port that is still IDLE while W and F are formed (R161). -/
theorem answersList_of_idle {s u : State} (hidle : u.port.state = .idle) (hrejected : u.port.rejected = false)
    (code : Byte) (r : Reply) :
    AnswersList (settle s (executing code r u)) code r.cls r.reason r.payload r.more r.last := by
  have hw : (settle s (executing code r u)).wFlag = u.wFlag := by
    simp [State.wFlag, executing_pendingSet hidle]
  have hf : (settle s (executing code r u)).fFlag = u.fFlag := by
    simp [State.fFlag, State.junctionFault, State.anyJunction, executing_pendingSet hidle]
  refine ⟨?_, by simpa [executing] using hrejected⟩
  rw [hw, hf, settle_port]
  rfl

theorem settle_setSdo (s t : State) (o : List Byte) :
    settle s (t.setPort { t.port with sdo := o }) = (settle s t).setPort { (settle s t).port with sdo := o } := by
  rw [settle_eq, settle_eq]
  rfl

theorem exec_of_busy {c : Instr} {code : Byte} {ps : List Byte} {s : State} (hs : Running s)
    (hbusy : s.port.state ≠ .idle) (hc : c.code? = some code) (hp : c.params? = some ps) :
    exec c s = .next (discardSend (2 + ps.length + c.extra) s) := by
  rw [exec_request hc hp, run_of_running hs, send_of_busy hbusy]

end Sys2Proof.Machine

namespace Sys2Proof.Proofs

open Sys2Proof.Machine Sys2Proof.Safety

/-- Settles O16: what a request does is settled before the pins of the port are, so that these are its only trace of the
bytes beyond the frame. -/
theorem portAnswersWholeFrames : Obligations.PortAnswersWholeFrames := by
  intro c code ps s hs hc hp
  by_cases hidle : s.port.state = .idle
  · refine ⟨_, exec_of_idle_withPins ⟨hs, hidle⟩ hc hp, ?_, fun _ => ?_, fun h => absurd hidle h, fun c' hc' hp' => ?_⟩
    · rw [settle_port]
      rfl
    · have hcls : (serve (requestOf code ps) s).1.cls ≠ .none := by
        rcases clean_serve code ps s with h | ⟨h, -⟩ <;> rw [h] <;> exact nofun
      exact ⟨_, _, _, _, _, hcls, answersList_of_idle rfl rfl code _⟩
    · refine ⟨_, exec_of_idle_withPins ⟨hs, hidle⟩ hc' hp', ?_⟩
      rw [← settle_setSdo, settle_port]
      rfl
  · exact ⟨_, exec_of_busy hs hidle hc hp, rfl, fun h => absurd h hidle, fun _ => ⟨rfl, rfl, frame_discardSend _ s⟩,
      fun c' hc' hp' => ⟨_, exec_of_busy hs hidle hc' hp', rfl⟩⟩

end Sys2Proof.Proofs
end

section
/-! SUPPORT. The codes and lengths that the port knows (R154, R156, R165), the transactions as bytes (R153, R173), the
held result (R157, R160) and the status byte (R158), and the statements about them. -/

namespace Sys2Proof.Machine

open Sys2Proof.Safety

/-! ## The codes of the requests (R156) -/

/-- The codes of the requests as numbers (table of request codes, 12.2). -/
def codeNumbers : List Nat :=
  [0x01, 0x02, 0x03, 0x10, 0x11, 0x12, 0x13, 0x14, 0x15, 0x18, 0x19, 0x1A, 0x1B, 0x20, 0x21, 0x22, 0x28, 0x29, 0x2A,
    0x2B, 0x30, 0x31, 0x32, 0x33, 0x34, 0x38, 0x39, 0x3A, 0x3B, 0x3C, 0x40, 0x41, 0x48, 0x49, 0x4A, 0x50, 0x51]

theorem codeNumbers_eq : codeNumbers = Config.requestCodes.map BitVec.toNat := by decide

theorem mem_requestCodes {code : Byte} : code ∈ Config.requestCodes ↔ code.toNat ∈ codeNumbers := by
  rw [codeNumbers_eq, List.mem_map]
  exact ⟨fun h => ⟨code, h, rfl⟩, fun ⟨c, hc, h⟩ => BitVec.eq_of_toNat_eq h ▸ hc⟩

/-- A code is that of a row, or it has no row. -/
theorem mem_codeNumbers_of_eq {code : Byte} {n : Nat} (h : code.toNat = n) (hn : n ∈ codeNumbers) :
    code ∈ Config.requestCodes := mem_requestCodes.mpr (h ▸ hn)

theorem requestOf_of_unknown {code : Byte} (h : code ∉ Config.requestCodes) (ps : List Byte) :
    requestOf code ps = none := by
  unfold requestOf
  split
  case h_38 => rfl
  all_goals next hcode => exact absurd (mem_codeNumbers_of_eq hcode (by decide)) h

theorem decodeRequest_of_unknown {code : Byte} (h : code ∉ Config.requestCodes) (ps : List Byte) (k : Nat) :
    decodeRequest code ps k = .unknownRequest code ps k := by
  unfold decodeRequest
  split
  case h_38 => rfl
  all_goals next hcode => exact absurd (mem_codeNumbers_of_eq hcode (by decide)) h

/-! ## The lengths of the requests (R156) -/

/-- A list has as many elements as a pattern of `n` variables. -/
theorem parseNone_isSome (ps : List Byte) : (parseNone ps).isSome = decide (ps.length ∈ [0]) := by
  unfold parseNone
  split <;> simp

theorem parseByte_isSome (ps : List Byte) : (parseByte ps).isSome = decide (ps.length ∈ [1]) := by
  rcases ps with _ | ⟨_, _ | ⟨_, _⟩⟩ <;> simp [parseByte]

theorem parseIdentifier_isSome (ps : List Byte) : (parseIdentifier ps).isSome = decide (ps.length ∈ [2]) := by
  rcases ps with _ | ⟨_, _ | ⟨_, _ | ⟨_, _⟩⟩⟩ <;> simp [parseIdentifier]

theorem parseMask_isSome (ps : List Byte) : (parseMask ps).isSome = decide (ps.length ∈ [2]) := by
  rcases ps with _ | ⟨_, _ | ⟨_, _ | ⟨_, _⟩⟩⟩ <;> simp [parseMask]

theorem parseListPlatoons_isSome (ps : List Byte) : (parseListPlatoons ps).isSome = decide (ps.length ∈ [2]) := by
  rcases ps with _ | ⟨_, _ | ⟨_, _ | ⟨_, _⟩⟩⟩ <;> simp [parseListPlatoons]

theorem parseSpillback_isSome (ps : List Byte) : (parseSpillback ps).isSome = decide (ps.length ∈ [3]) := by
  rcases ps with _ | ⟨_, _ | ⟨_, _ | ⟨_, _ | ⟨_, _⟩⟩⟩⟩ <;> simp [parseSpillback]

theorem parseCheckOut_isSome (ps : List Byte) : (parseCheckOut ps).isSome = decide (ps.length ∈ [2, 3]) := by
  rcases ps with _ | ⟨_, _ | ⟨_, _ | ⟨_, _ | ⟨_, _⟩⟩⟩⟩ <;> simp [parseCheckOut]

theorem parseSetClock_isSome (ps : List Byte) : (parseSetClock ps).isSome = decide (ps.length ∈ [4]) := by
  rcases ps with _ | ⟨_, _ | ⟨_, _ | ⟨_, _ | ⟨_, _ | ⟨_, _⟩⟩⟩⟩⟩ <;> simp [parseSetClock]

theorem parseSetGroup_isSome (ps : List Byte) : (parseSetGroup ps).isSome = decide (ps.length ∈ [4]) := by
  rcases ps with _ | ⟨_, _ | ⟨_, _ | ⟨_, _ | ⟨_, _ | ⟨_, _⟩⟩⟩⟩⟩ <;> simp [parseSetGroup]

theorem parseSetJunction_isSome (ps : List Byte) : (parseSetJunction ps).isSome = decide (ps.length ∈ [5]) := by
  rcases ps with _ | ⟨_, _ | ⟨_, _ | ⟨_, _ | ⟨_, _ | ⟨_, _ | ⟨_, _⟩⟩⟩⟩⟩⟩ <;> simp [parseSetJunction]

theorem parseSetScheduleEntry_isSome (ps : List Byte) :
    (parseSetScheduleEntry ps).isSome = decide (ps.length ∈ [6]) := by
  rcases ps with _ | ⟨_, _ | ⟨_, _ | ⟨_, _ | ⟨_, _ | ⟨_, _ | ⟨_, _ | ⟨_, _⟩⟩⟩⟩⟩⟩⟩ <;> simp [parseSetScheduleEntry]

theorem parseSetInput_isSome (ps : List Byte) : (parseSetInput ps).isSome = decide (ps.length ∈ [6]) := by
  rcases ps with _ | ⟨_, _ | ⟨_, _ | ⟨_, _ | ⟨_, _ | ⟨_, _ | ⟨_, _ | ⟨_, _⟩⟩⟩⟩⟩⟩⟩ <;> simp [parseSetInput]

theorem parseSetAlertConfig_isSome (ps : List Byte) : (parseSetAlertConfig ps).isSome = decide (ps.length ∈ [8]) := by
  rcases ps with _ | ⟨_, _ | ⟨_, _ | ⟨_, _ | ⟨_, _ | ⟨_, _ | ⟨_, _ | ⟨_, _ | ⟨_, _ | ⟨_, _⟩⟩⟩⟩⟩⟩⟩⟩⟩ <;>
    simp [parseSetAlertConfig]

theorem parsePassage_isSome (ps : List Byte) : (parsePassage ps).isSome = decide (ps.length ∈ [6, 8]) := by
  rcases ps with _ | ⟨_, _ | ⟨_, _ | ⟨_, _ | ⟨_, _ | ⟨_, _ | ⟨_, _ | ⟨_, _ | ⟨_, _ | ⟨_, _⟩⟩⟩⟩⟩⟩⟩⟩⟩ <;>
    simp [parsePassage]

theorem parsePlatoonSeen_isSome (ps : List Byte) : (parsePlatoonSeen ps).isSome = decide (ps.length ∈ [9, 8]) := by
  rcases ps with _ | ⟨_, _ | ⟨_, _ | ⟨_, _ | ⟨_, _ | ⟨_, _ | ⟨_, _ | ⟨_, _ | ⟨_, _ | ⟨_, _ | ⟨_, _⟩⟩⟩⟩⟩⟩⟩⟩⟩⟩ <;>
    simp [parsePlatoonSeen]

theorem parseCheckIn_isSome (ps : List Byte) : (parseCheckIn ps).isSome = decide (ps.length ∈ [9]) := by
  rcases ps with _ | ⟨_, _ | ⟨_, _ | ⟨_, _ | ⟨_, _ | ⟨_, _ | ⟨_, _ | ⟨_, _ | ⟨_, _ | ⟨_, _ | ⟨_, _⟩⟩⟩⟩⟩⟩⟩⟩⟩⟩ <;>
    simp [parseCheckIn]

theorem parseSetCorridor_isSome (ps : List Byte) : (parseSetCorridor ps).isSome = decide (ps.length ∈ [16]) := by
  unfold parseSetCorridor
  split <;> simp_all

theorem parseSetPlan_isSome (ps : List Byte) : (parseSetPlan ps).isSome = decide (ps.length ∈ [69]) := by
  unfold parseSetPlan
  split <;> simp_all

/-- The body of a request is there exactly for the lengths defined for its code. -/
theorem requestOf_of_known {code : Byte} (h : code ∈ Config.requestCodes) (ps : List Byte) :
    ∃ q, requestOf code ps = some q ∧ q.body.isSome = decide (ps.length ∈ definedLengths code) := by
  have hcodes := mem_requestCodes.mp h
  simp only [codeNumbers, List.mem_cons, List.not_mem_nil, or_false] at hcodes
  unfold requestOf definedLengths
  rcases hcodes with h | h | h | h | h | h | h | h | h | h | h | h | h | h | h | h | h | h | h | h | h | h | h | h | h | h |
    h | h | h | h | h | h | h | h | h | h | h <;> rw [h] <;> refine ⟨_, rfl, (Option.isSome_map ..).trans ?_⟩
  · exact parseSetClock_isSome ps
  · exact parseNone_isSome ps
  · exact parseNone_isSome ps
  · exact parseSetCorridor_isSome ps
  · exact parseNone_isSome ps
  · exact parseSetJunction_isSome ps
  · exact parseByte_isSome ps
  · exact parseSetGroup_isSome ps
  · exact parseByte_isSome ps
  · exact parseSetPlan_isSome ps
  · exact parseByte_isSome ps
  · exact parseSetScheduleEntry_isSome ps
  · exact parseByte_isSome ps
  · exact parseByte_isSome ps
  · exact parseNone_isSome ps
  · exact parseByte_isSome ps
  · exact parseByte_isSome ps
  · exact parseSpillback_isSome ps
  · exact parseByte_isSome ps
  · exact parseByte_isSome ps
  · exact parsePlatoonSeen_isSome ps
  · exact parsePassage_isSome ps
  · exact parseIdentifier_isSome ps
  · exact parseIdentifier_isSome ps
  · exact parseListPlatoons_isSome ps
  · exact parseCheckIn_isSome ps
  · exact parseCheckOut_isSome ps
  · exact parseIdentifier_isSome ps
  · exact parseByte_isSome ps
  · exact parseNone_isSome ps
  · exact parseSetInput_isSome ps
  · exact parseNone_isSome ps
  · exact parseNone_isSome ps
  · exact parseSetAlertConfig_isSome ps
  · exact parseMask_isSome ps
  · exact parseNone_isSome ps
  · exact parseNone_isSome ps

theorem edit_of_editCode {code : Byte} (h : code ∈ editCodes) (ps : List Byte) :
    code ∈ Config.requestCodes ∧ ∀ q, requestOf code ps = some q → q.edit = true := by
  simp only [editCodes, List.mem_cons, List.not_mem_nil, or_false] at h
  rcases h with rfl | rfl | rfl | rfl | rfl | rfl <;>
    exact ⟨by decide, fun q hq => by obtain rfl := Option.some.inj hq; rfl⟩

/-! ## The port's own refusals (R156, R165) -/

section
variable {s : State} {q : Request}

theorem serve_of_badLength (h : q.body.isSome = false) : serve (some q) s = refuse .badFrame s := by
  have hbody := Option.isSome_eq_false_iff.mp h |> Option.isNone_iff_eq_none.mp
  simp [serve, hbody]

theorem serve_of_locked (h : q.body.isSome = true) (hedit : q.edit = true) (hlocked : s.editsLocked = true) :
    serve (some q) s = refuse .locked s := by
  obtain ⟨owner, howner⟩ := Option.isSome_iff_exists.mp h
  simp [serve, howner, hedit, hlocked]

theorem editsLocked_of_not_open (h : ¬ EditsOpen s) : s.editsLocked = true := by
  unfold EditsOpen at h
  unfold State.editsLocked
  cases hlock : s.port.editLock <;> cases hgate : s.editGate <;> simp_all

end

theorem refuses_of_serve_request {c : Instr} {code : Byte} {ps : List Byte} {s : State} {reason : Reason}
    {payload : List Byte} (hs : Idle s) (hc : c.code? = some code) (hp : c.params? = some ps)
    (h : ∀ u, u.port.editLock = s.port.editLock → u.inputs = s.inputs →
      serve (requestOf code ps) u = (refusedReply reason payload, u)) : Refuses c s code reason payload := by
  have hserve := h (accepted (2 + ps.length + c.extra) s) rfl rfl
  exact ⟨_, exec_of_idle hs hc hp hserve, answersList_of_idle (u := accepted (2 + ps.length + c.extra) s) hs.2 rfl code _,
    frame_executed_of_quiet hs.2 (.refl [] _) (by simp) code _⟩

/-! ## Transactions as bytes (R153, R154, R173) -/

/-- A frame of at most 255 parameter bytes is read back, with what is clocked in beyond it. -/
theorem decodeTransaction_encodeSend (code : Byte) {ps : List Byte} (h : ps.length ≤ 255) (k : Nat) :
    decodeTransaction (encodeSend code ps k) = decodeRequest code ps k := by
  have hlength : (BitVec.ofNat 8 ps.length).toNat = ps.length := by
    rw [BitVec.toNat_ofNat]
    exact Nat.mod_eq_of_lt (by omega)
  simp [decodeTransaction, encodeSend, decodeFrame, hlength]

theorem encodeTransaction_of_request {i : Instr} {code : Byte} {ps : List Byte} (hc : i.code? = some code)
    (hp : i.params? = some ps) :
    encodeTransaction i = some (encodeSend code ps i.extra) ∧
      (code ∈ Config.requestCodes ∨ i = .unknownRequest code ps i.extra) ∧
      (code ∈ Config.requestCodes → (∀ c p k, i ≠ .unknownRequest c p k) → decodeRequest code ps i.extra = i) := by
  cases i <;> simp only [Instr.code?, Instr.params?, Option.some.injEq, reduceCtorEq] at hc hp <;> subst hc hp
  case unknownRequest c p k => exact ⟨rfl, .inr rfl, fun _ h => absurd rfl (h c p k)⟩
  all_goals exact ⟨rfl, .inl (by decide), fun _ _ => rfl⟩

theorem decodeFrame_of_not_whole {frame : List Byte} (h : wholeFrame frame = none) :
    decodeFrame frame = .sendDiscarded frame := by
  unfold wholeFrame at h
  unfold decodeFrame
  split at h
  · next code len rest =>
    split at h
    · cases h
    · next hshort => exact if_neg hshort
  · rfl
  · rfl

/-- A request of at most 255 parameter bytes whose code is a row's, or an unknown one, is read back. -/
theorem decodeTransaction_of_request {i : Instr} {bytes : List Byte} {code : Byte} {ps : List Byte}
    (hwf : i.wf = true) (hc : i.code? = some code) (hp : i.params? = some ps)
    (hbytes : encodeTransaction i = some bytes) : decodeTransaction bytes = i := by
  unfold Instr.wf at hwf
  simp only [Bool.and_eq_true] at hwf
  obtain ⟨⟨hfits, hunknown⟩, -⟩ := hwf
  have hlength : ps.length ≤ 255 := by simpa [Instr.lengthFits, hp] using hfits
  obtain ⟨hencode, hrow, hdecode⟩ := encodeTransaction_of_request hc hp
  obtain rfl := Option.some.inj (hencode.symm.trans hbytes)
  rw [decodeTransaction_encodeSend code hlength]
  by_cases hi : ∃ c p k, i = .unknownRequest c p k
  · obtain ⟨c, p, k, rfl⟩ := hi
    simp only [Instr.code?, Instr.params?, Option.some.injEq] at hc hp
    subst hc hp
    have hnot : c ∉ Config.requestCodes := by simpa [Instr.codeUnknown] using hunknown
    exact decodeRequest_of_unknown hnot p k
  · have hne : ∀ c p k, i ≠ .unknownRequest c p k := fun c p k h => hi ⟨c, p, k, h⟩
    exact hdecode (hrow.resolve_right (hne _ _ _)) hne

/-! ## The held result (R157) -/

theorem bytes_length (f : ResultFrame) : f.bytes.length = 5 + f.payload.length := by
  simp [ResultFrame.bytes]
  omega

theorem bytes_eq_frameBytes (f : ResultFrame) : f.bytes = frameBytes f := by
  have hflags : packBits [f.w, f.f, f.more, f.last] =
      BitVec.ofNat 8 (f.w.toNat + 2 * f.f.toNat + 4 * f.more.toNat + 8 * f.last.toNat) := by
    simp only [packBits, List.foldr_cons, List.foldr_nil]
    congr 1
    omega
  simp [ResultFrame.bytes, frameBytes, byteOf, hflags]

theorem frameBytes_noneFrame (s : State) : frameBytes (noneFrame s) =
    [0x00, 0x00, 0x00, BitVec.ofNat 8 (s.wFlag.toNat + 2 * s.fFlag.toNat), 0x00] := rfl

theorem resultTransaction_of_no_result {s : State} {n : Nat} (h : ∀ f, s.port.state ≠ .result f) :
    resultTransaction n s = s.setPort { s.port with sdo := resultOut s (noneFrame s) n } := by
  unfold resultTransaction
  split
  · next f hresult => exact absurd hresult (h f)
  · rfl
  · rfl

/-! ## The status byte (R158) -/

/-- A byte formed from a 2-bit number and six flags has them in its bits. -/
theorem bits_of_fields : ∀ (n : Fin 3) (b2 b3 b4 b5 b6 : Bool),
    let x := BitVec.ofNat 8 (n.val + 4 * b2.toNat + 8 * b3.toNat + 16 * b4.toNat + 32 * b5.toNat + 64 * b6.toNat + 128)
    x.toNat % 4 = n.val ∧ x.getLsbD 2 = b2 ∧ x.getLsbD 3 = b3 ∧ x.getLsbD 4 = b4 ∧ x.getLsbD 5 = b5 ∧
      x.getLsbD 6 = b6 ∧ x.getLsbD 7 = true := by decide

theorem statusByte_bits (s : State) :
    s.statusByte.toNat % 4 = s.port.state.number ∧ s.statusByte.getLsbD 2 = s.port.rejected ∧
      s.statusByte.getLsbD 3 = s.port.sequence.isSome ∧ s.statusByte.getLsbD 4 = s.port.editLock ∧
      s.statusByte.getLsbD 5 = s.wFlag ∧ s.statusByte.getLsbD 6 = s.fFlag ∧ s.statusByte.getLsbD 7 = true := by
  have hnumber : s.port.state.number < 3 := by
    cases s.port.state <;> simp [PortState.number]
  exact bits_of_fields ⟨_, hnumber⟩ ..

theorem exec_executionComplete {s : State} (hs : Running s) :
    exec .executionComplete s = .next (completeExecution s) := run_of_running hs completeExecution

theorem exec_resultTransaction {s : State} (hs : Running s) (n : Nat) :
    exec (.resultTransaction n) s = .next (resultTransaction n s) := run_of_running hs (resultTransaction n)

theorem frame_resultTransaction (n : Nat) (s : State) : Frame [.port] s (resultTransaction n s) := by
  have hport : ∀ v : Port, v.editLock = s.port.editLock → v.sequence = s.port.sequence → Frame [.port] s (s.setPort v) :=
    fun v hlock hsequence => frame_setPort_of_sequence hlock hsequence
  unfold resultTransaction
  split
  · next frame h =>
    split
    · have hjoined : joined s (s.setPort { s.port with state := .idle, sdo := resultOut s frame n }) = 0 :=
        joined_of_port (frame_setPort rfl) nofun
      rw [settle_of_subset hjoined]
      exact hport _ rfl rfl
    · exact hport _ rfl rfl
  · exact hport _ rfl rfl
  · exact hport _ rfl rfl

end Sys2Proof.Machine

namespace Sys2Proof.Proofs

open Sys2Proof.Machine Sys2Proof.Safety

/-- Settles O17: the port looks the code up, then compares the length, then the lock and the gate. -/
theorem portRefusesFrames : Obligations.PortRefusesFrames := by
  intro c code ps s hc hp hs
  refine ⟨fun hcode => ?_, fun hcode hlength => ?_, fun hcode hlength hopen => ?_⟩
  · refine refuses_of_serve_request hs hc hp fun u _ _ => ?_
    rw [requestOf_of_unknown hcode]
    rfl
  · obtain ⟨q, hq, hbody⟩ := requestOf_of_known hcode ps
    refine refuses_of_serve_request hs hc hp fun u _ _ => ?_
    rw [hq]
    exact serve_of_badLength (hbody.trans (decide_eq_false hlength))
  · obtain ⟨hrow, hedit⟩ := edit_of_editCode hcode ps
    obtain ⟨q, hq, hbody⟩ := requestOf_of_known hrow ps
    refine refuses_of_serve_request hs hc hp fun u hlock hinputs => ?_
    have hlocked : u.editsLocked = true := by
      refine editsLocked_of_not_open fun h => hopen ?_
      unfold EditsOpen State.editGate at h ⊢
      rwa [hlock, hinputs] at h
    rw [hq]
    exact serve_of_locked (hbody.trans (decide_eq_true hlength)) (hedit q hq) hlocked

/-- Settles O18: a request is read back by its frame, and every other transaction by its type byte. -/
theorem transactionsDecodeToTheirCommands : Obligations.TransactionsDecodeToTheirCommands := by
  intro i bytes hwf hbytes hwhole
  cases hc : i.code? with
  | some code =>
    obtain ⟨ps, hp⟩ := params?_of_code? hc
    exact decodeTransaction_of_request hwf hc hp hbytes
  | none =>
    cases i <;> simp only [encodeTransaction, Option.some.injEq, reduceCtorEq, Instr.code?] at hbytes hc
    case sendDiscarded frame =>
      subst hbytes
      exact decodeFrame_of_not_whole (hwhole frame rfl)
    case voidTransaction bytes =>
      subst hbytes
      cases bytes with
      | nil => rfl
      | cons b rest =>
        have hvoid : b ≠ Config.typeSend ∧ b ≠ Config.typeStatus ∧ b ≠ Config.typeResult ∧ b ≠ Config.typePortReset := by
          simp [Instr.wf, Instr.typeVoid] at hwf
          tauto
        obtain ⟨hsend, hstatus, hresult, hreset⟩ := hvoid
        exact (if_neg hsend).trans ((if_neg hstatus).trans ((if_neg hresult).trans (if_neg hreset)))
    case statusTransaction n | resultTransaction n | portReset n =>
      subst hbytes
      simp [decodeTransaction, Config.typeSend, Config.typeStatus, Config.typeResult, Config.typePortReset]

/-- Settles O19: the decoder run on the bytes. -/
theorem frameBytesSpellCommands : Obligations.FrameBytesSpellCommands := by
  unfold Obligations.FrameBytesSpellCommands
  decide

/-- Settles O21: completion and the RESULT transaction, by the state of the port. -/
theorem resultIsHeldUntilRead : Obligations.ResultIsHeldUntilRead := by
  refine ⟨fun f s hs hport => ?_, fun f s hs hport => ?_, fun n s hs => ?_⟩
  · have hcomplete : completeExecution s = settle s (s.setPort { s.port with state := .result f }) := by
      unfold completeExecution
      rw [hport]
    refine ⟨_, exec_executionComplete hs, ?_⟩
    rw [hcomplete]
    refine ⟨by rw [settle_port]; rfl, by rw [settle_port]; rfl, by rw [settle_port]; rfl, ?_⟩
    have hport : Frame [.port] s (s.setPort { s.port with state := .result f }) := frame_setPort_of_sequence rfl rfl
    exact (hport.mono (by simp)).trans ((frame_settle s _).mono (by simp))
  · have hcomplete : completeExecution s = s.setPort { s.port with state := .idle, sequence := none } := by
      have hjoined : joined s (s.setPort { s.port with state := .idle, sequence := none }) = 0 :=
        joined_of_port (frame_setPort rfl) nofun
      unfold completeExecution
      rw [hport]
      exact settle_of_subset hjoined
    refine ⟨_, exec_executionComplete hs, ?_⟩
    rw [hcomplete]
    exact ⟨rfl, rfl, rfl, frame_setPort rfl⟩
  · refine ⟨_, exec_resultTransaction hs n, frame_resultTransaction n s, ?_, fun f hport => ?_, fun hport => ?_⟩
    · unfold resultTransaction
      split
      · split
        · rw [settle_port]
          rfl
        · rfl
      · rfl
      · rfl
    · simp only [resultTransaction, hport, bytes_length]
      have hout : resultOut s f n = s.statusByte :: (frameBytes f ++ List.replicate n 0x00).take n := by
        rw [← bytes_eq_frameBytes]
        rfl
      split
      · rw [settle_port]
        exact ⟨rfl, hout⟩
      · exact ⟨rfl, hout⟩
    · rw [resultTransaction_of_no_result hport]
      refine ⟨rfl, ?_⟩
      show resultOut s (noneFrame s) n = _
      rw [resultOut, bytes_eq_frameBytes, frameBytes_noneFrame]
      rfl

/-- Settles O22: the byte is a sum of its fields, each below the next one's place. -/
theorem statusByteReportsPort : Obligations.StatusByteReportsPort := by
  intro n s
  obtain ⟨hstate, hrejected, hsequence, hlock, hw, hf, htop⟩ := statusByte_bits s
  refine ⟨fun hs => ?_, fun h => ?_, fun f d h => ?_, fun f h => ?_, hrejected, hsequence, hlock, hw, hf, htop⟩
  · exact ⟨_, run_of_running hs (statusTransaction n), frame_setPort_of_sequence rfl rfl, rfl, rfl, rfl⟩
  · rw [hstate, h]
    rfl
  · rw [hstate, h]
    rfl
  · rw [hstate, h]
    rfl

end Sys2Proof.Proofs
end

section
/-! SUPPORT. What a request does, told from its owner alone; the carries of a count (R1, R3), and the statement about a
count. -/

namespace Sys2Proof.Machine

open Sys2Proof.Safety

/-! ## A request, told from its owner (R156, R160, R161) -/

theorem serve_edit {q : Request} {owner : State → Reply × State} {s : State} (hbody : q.body = some owner)
    (hopen : EditsOpen s) : serve (some q) s = owner s := by
  obtain ⟨hlock, hgate⟩ := hopen
  simp [serve, hbody, State.editsLocked, hlock, hgate]

section
variable {c : Instr} {code : Byte} {ps : List Byte} {s u : State} {reason : Reason} {payload : List Byte} {l : List Block}

/-- A request that its owner refuses. -/
theorem refuses_of_owner (hs : Idle s) (hc : c.code? = some code) (hp : c.params? = some ps)
    (h : serve (requestOf code ps) s = (refusedReply reason payload, s)) : Refuses c s code reason payload := by
  refine ⟨_, exec_of_idle_withPins hs hc hp, ?_, ?_⟩
  · rw [h]
    exact answersList_of_idle (s := s) (u := s.withPins false (sendOut s (2 + ps.length + c.extra))) rfl rfl code _
  · rw [h, ← accepted_eq_withPins hs.2]
    exact frame_executed_of_quiet hs.2 (.refl [] _) (by simp) code _

/-- A request that its owner carries out: the answer, what stays, and where each block of the next state comes from. -/
theorem answersList_of_owner {more last : Bool} {cls : ResultClass} (hs : Idle s) (hc : c.code? = some code)
    (hp : c.params? = some ps) (h : serve (requestOf code ps) s = (⟨cls, reason, payload, more, last⟩, u))
    (hu : Frame l s u) :
    ∃ t, exec c s = .next t ∧ AnswersList t code cls reason payload more last ∧ Frame [.port, .pulseEnd] u t ∧
      Frame (.port :: .pulseEnd :: l) s t ∧ (joined s u = 0 → Frame [.port] u t ∧ Frame (.port :: l) s t) := by
  have hidle : u.port.state = .idle := by
    have hserved := serve_idle hs.2 code ps
    rwa [h] at hserved
  have hexec := exec_of_idle_withPins hs hc hp
  rw [h] at hexec
  dsimp only at hexec
  generalize hv : u.withPins false (sendOut s (2 + ps.length + c.extra)) = v at hexec
  have huv : Frame [.port] u v := by
    subst hv
    exact frame_setPort_of_sequence rfl rfl
  have hvidle : v.port.state = .idle := hv ▸ rfl
  have hexecuting := frame_executing code ⟨cls, reason, payload, more, last⟩ v
  have hut : Frame [.port, .pulseEnd] u (settle s (executing code ⟨cls, reason, payload, more, last⟩ v)) :=
    (huv.mono (by simp)).trans ((hexecuting.mono (by simp)).trans ((frame_settle s _).mono (by simp)))
  refine ⟨_, hexec, answersList_of_idle hvidle (hv ▸ rfl) code _, hut,
    (hu.mono (by simp)).trans (hut.mono (by simp)), fun hjoined => ?_⟩
  have hactive : (executing code ⟨cls, reason, payload, more, last⟩ v).activeSet = u.activeSet := by
    have hpending : v.pendingSet = u.pendingSet := by
      subst hv
      exact pendingSet_withPins hidle _ _
    simp only [State.activeSet, executing_pendingSet hvidle, hpending]
    subst hv
    rfl
  have hquiet : joined s (executing code ⟨cls, reason, payload, more, last⟩ v) = 0 := by
    unfold joined at hjoined ⊢
    rwa [hactive]
  rw [settle_of_subset hquiet]
  have hstep : Frame [.port] u (executing code ⟨cls, reason, payload, more, last⟩ v) := huv.trans hexecuting
  exact ⟨hstep, (hu.mono (by simp)).trans (hstep.mono (by simp))⟩

theorem answers_of_owner (hs : Idle s) (hc : c.code? = some code) (hp : c.params? = some ps)
    (h : serve (requestOf code ps) s = done reason payload u) (hu : Frame l s u) :
    ∃ t, exec c s = .next t ∧ Answers t code .done reason payload ∧ Frame [.port, .pulseEnd] u t ∧
      Frame (.port :: .pulseEnd :: l) s t ∧ (joined s u = 0 → Frame [.port] u t ∧ Frame (.port :: l) s t) :=
  answersList_of_owner hs hc hp h hu

/-- The same where nothing that an alert source is formed from changes. -/
theorem answers_of_quiet_owner (hs : Idle s) (hc : c.code? = some code) (hp : c.params? = some ps)
    (h : serve (requestOf code ps) s = done reason payload u) (hu : Frame l s u) (hquiet : Quiet l) :
    ∃ t, exec c s = .next t ∧ Answers t code .done reason payload ∧ Frame [.port] u t ∧ Frame (.port :: l) s t := by
  obtain ⟨t, hexec, hanswer, -, -, hjoined⟩ := answers_of_owner hs hc hp h hu
  obtain ⟨hut, hst⟩ := hjoined (joined_of_quiet hu hquiet)
  exact ⟨t, hexec, hanswer, hut, hst⟩

/-- A look-up or a read, from what its owner answers. -/
theorem reads_of_owner {ok : List Byte → Prop} (hs : Idle s) (hc : c.code? = some code) (hp : c.params? = some ps)
    (h : serve (requestOf code ps) s = done .none payload s) (hok : ok payload) : Reads c s code ok := by
  obtain ⟨t, hexec, hanswer, hframe, -⟩ := answers_of_quiet_owner hs hc hp h (.refl [] s) (by simp [Quiet])
  exact ⟨t, payload, hexec, hanswer, hframe, hok⟩

end

/-! ## The carries of a count (R1, R3) -/

theorem DayClock.carrySecond_weekPosition {k : DayClock} (h : ClockInRange k) :
    k.carrySecond.weekPosition = (k.weekPosition + 10) % 6048000 := by
  unfold DayClock.carrySecond
  split
  · next hsecond =>
    have hnext : ClockInRange { k with second := k.second + 1 } := by
      obtain ⟨h1, h2, h3, h4, -, h6⟩ := h
      exact ⟨h1, h2, h3, h4, by show k.second + 1 ≤ 59; omega, h6⟩
    have hlt := DayClock.weekPosition_lt hnext
    simp only [DayClock.weekPosition, DayClock.tod] at hlt ⊢
    omega
  · have hstart : ClockInRange { k with second := 0 } := by
      obtain ⟨h1, h2, h3, h4, -, h6⟩ := h
      exact ⟨h1, h2, h3, h4, by show 0 ≤ 59; omega, h6⟩
    rw [DayClock.carryMinute_weekPosition hstart]
    obtain ⟨-, -, -, -, h5, -⟩ := h
    simp only [DayClock.weekPosition, DayClock.tod]
    omega

theorem DayClock.tick_weekPosition {k : DayClock} (h : ClockInRange k) :
    k.tick.weekPosition = (k.weekPosition + 1) % 6048000 := by
  unfold DayClock.tick
  split
  · next htenth =>
    have hnext : ClockInRange { k with tenth := k.tenth + 1 } := by
      obtain ⟨h1, h2, h3, h4, h5, -⟩ := h
      exact ⟨h1, h2, h3, h4, h5, by show k.tenth + 1 ≤ 9; omega⟩
    have hlt := DayClock.weekPosition_lt hnext
    simp only [DayClock.weekPosition, DayClock.tod] at hlt ⊢
    omega
  · have hstart : ClockInRange { k with tenth := 0 } := by
      obtain ⟨h1, h2, h3, h4, h5, -⟩ := h
      exact ⟨h1, h2, h3, h4, h5, by show 0 ≤ 9; omega⟩
    rw [DayClock.carrySecond_weekPosition hstart]
    obtain ⟨-, -, -, -, -, h6⟩ := h
    simp only [DayClock.weekPosition, DayClock.tod]
    omega

/-! ## P_ref at a count (R13) -/

section
variable {s : State}

theorem countPRef_of_inactive (h : s.activeRecord = none) : countPRef s = s := by
  simp [countPRef, h]

theorem countPRef_of_below {a : ActivePlan} {p : Plan} (h : s.activeRecord = some (a, p)) (hp : a.pRef + 1 < p.c) :
    countPRef s = s.setActive { a with pRef := a.pRef + 1 } := by
  simp [countPRef, h, hp]

theorem countPRef_of_last {a : ActivePlan} {p : Plan} (h : s.activeRecord = some (a, p)) (hp : a.pRef + 1 = p.c) :
    countPRef s = (s.setActive { a with pRef := 0 }).setTime { s.time with boundaryDue := true } := by
  simp [countPRef, h, hp]

/-- At a count a present P_ref advances modulo C, and its wrap owes the boundary. -/
theorem countPRef_of_active {a : ActivePlan} {p : Plan} (h : s.activeRecord = some (a, p)) (hp : a.pRef < p.c)
    (hdue : s.time.boundaryDue = false) :
    (countPRef s).selector = { s.selector with active := some { a with pRef := (a.pRef + 1) % p.c } } ∧
      (countPRef s).time.boundaryDue = decide (a.pRef + 1 = p.c) := by
  by_cases hlast : a.pRef + 1 = p.c
  · rw [countPRef_of_last h hlast]
    have hzero : (a.pRef + 1) % p.c = 0 := by rw [hlast, Nat.mod_self]
    rw [hzero]
    exact ⟨rfl, (decide_eq_true hlast).symm⟩
  · have hbelow : a.pRef + 1 < p.c := by omega
    rw [countPRef_of_below h hbelow, Nat.mod_eq_of_lt hbelow]
    exact ⟨rfl, by simpa [State.setActive, hlast] using hdue⟩

theorem countOnce_selector (y : Level) (l : Vector Level Config.inputCount) (s : State) :
    (countOnce y l s).selector = (countPRef s).selector := rfl

theorem notDue_of_nothingDue (h : NothingDue s) :
    s.time.edgeDue = false ∧ s.time.markDue = false ∧ s.time.boundaryDue = false :=
  ⟨h .edge (by simp [allEvents]), h .minuteMark (by simp [allEvents]), h .boundary (by simp [allEvents])⟩

end

end Sys2Proof.Machine

namespace Sys2Proof.Proofs

open Sys2Proof.Machine Sys2Proof.Safety

/-- Settles O23: with nothing left to take the count is `countOnce`, which is read block by block. -/
theorem countAdvancesClocks : Obligations.CountAdvancesClocks := by
  intro y a0 a1 a2 a3 s hs hdue hclock
  obtain ⟨-, hmark, hboundary⟩ := notDue_of_nothingDue hdue
  obtain ⟨b, hb⟩ := countPRef_time s
  have hflag : (countPRef s).time.boundaryDue = b := by rw [hb]
  have htime : (countOnce y #v[a0, a1, a2, a3] s).time =
      (({ s.time with boundaryDue := b } : TimeBase).count).sampleSync y := by rw [countOnce_time, hb]
  refine ⟨_, exec_ctCount_of_nothing_due hs hdue y a0 a1 a2 a3, frame_countOnce _ _ s, ?_⟩
  rw [countOnce_selector, htime]
  refine ⟨rfl, DayClock.tick_inRange hclock, DayClock.tick_valid _, DayClock.tick_weekPosition hclock, ?_, rfl, rfl, rfl, rfl,
    fun hnone => ?_, fun a p hrecord hp => ?_⟩
  · simp [TimeBase.count, TimeBase.sampleSync, DayClock.onMinute, hmark, Bool.and_assoc]
  · rw [countPRef_of_inactive hnone] at hflag ⊢
    exact ⟨rfl, hflag.symm.trans hboundary⟩
  · obtain ⟨hselector, hwrap⟩ := countPRef_of_active hrecord hp hboundary
    exact ⟨hselector, hflag.symm.trans hwrap⟩

end Sys2Proof.Proofs
end

section
/-! SUPPORT. SYNC pulses (R7 to R10, R14), the loss of SYNC (R11), the end of a pulse of the pin (R169) and the STATUS
pattern (R152), and the statements about them. -/

namespace Sys2Proof.Machine

open Sys2Proof.Safety

/-! ## No joining source where only the clock and SYNC move (R167) -/

/-- The clock becomes no less valid and SYNC no more lost; what else an alert source is formed from stays. -/
theorem joined_of_sources {s t : State} (hconf : Block.alertConfig.same s t) (hport : t.port.state = s.port.state)
    (hjunctions : t.junctions = s.junctions) (hlatched : t.alerts.latched = s.alerts.latched)
    (hvalid : s.time.clock.valid = true → t.time.clock.valid = true)
    (hlost : t.time.syncLost = true → s.time.syncLost = true) : joined s t = 0 := by
  refine joined_of_pendingSet_mono hconf fun i hi => ?_
  have hinvalid : (!t.time.clock.valid) = true → (!s.time.clock.valid) = true := by
    simpa using mt hvalid
  simp only [State.pendingSet, State.levelSet, State.junctionFault, State.preemptActive, State.anyJunction,
    State.resultReady, BitVec.getLsbD_or, Bool.or_eq_true, hjunctions, hlatched, hport] at hi ⊢
  exact hi.imp_left <| Or.imp_left <| Or.imp_left <| Or.imp_left <|
    Or.imp (onlyIf_getLsbD_mono hinvalid) (onlyIf_getLsbD_mono hlost)

theorem joined_of_clock {l : List Block} {s t : State} (hframe : Frame l s t)
    (hl : ∀ b ∈ [Block.port, .junctions, .latched, .alertConfig], b ∉ l)
    (hvalid : s.time.clock.valid = true → t.time.clock.valid = true)
    (hlost : t.time.syncLost = true → s.time.syncLost = true) : joined s t = 0 :=
  joined_of_sources (hframe .alertConfig (hl _ (by simp))) (hframe .port (hl _ (by simp))).1
    (hframe .junctions (hl _ (by simp))) (hframe .latched (hl _ (by simp))) hvalid hlost

/-! ## The step of the clock and of P_ref (R8, R10, R14) -/

theorem DayClock.minutePosition_of_zero {k : DayClock} (h : syncStep k.minutePosition = 0) (hk : ClockInRange k) :
    k.second = 0 ∧ k.tenth = 0 := by
  have hlt := DayClock.minutePosition_lt hk
  have hzero : k.minutePosition = 0 := by
    unfold syncStep at h
    split at h <;> omega
  unfold DayClock.minutePosition at hzero
  omega

/-- An accepted nonzero step leads to the start of a minute, so far away in the week. -/
theorem DayClock.stepTo_spec {k : DayClock} (hk : ClockInRange k) (h : syncStep k.minutePosition ≠ 0) :
    (k.stepTo (syncStep k.minutePosition)).second = 0 ∧ (k.stepTo (syncStep k.minutePosition)).tenth = 0 ∧
      ((k.stepTo (syncStep k.minutePosition)).weekPosition : Int) =
        (k.weekPosition + syncStep k.minutePosition) % 6048000 := by
  have hlt := DayClock.minutePosition_lt hk
  by_cases hback : k.minutePosition ≤ 300
  · rw [syncStep_of_le hback] at h ⊢
    rw [DayClock.stepTo_of_neg (by omega)]
    have hstart := DayClock.minuteStart_weekPosition k
    have hweek := DayClock.weekPosition_lt hk
    exact ⟨rfl, rfl, by omega⟩
  · rw [syncStep_of_gt (by omega)]
    obtain ⟨-, hsecond, htenth, hweek⟩ := DayClock.stepTo_forward hk (d := 600 - (k.minutePosition : Int)) (by omega)
    exact ⟨hsecond, htenth, by omega⟩

section
variable {d : Int} {s : State}

theorem stepPRef_of_inactive (h : s.activeRecord = none) : stepPRef d s = s := by
  simp [stepPRef, h]

theorem stepPRef_of_active {a : ActivePlan} {p : Plan} (h : s.activeRecord = some (a, p)) :
    stepPRef d s = s.setActive { a with pRef := (((a.pRef : Int) + d) % (p.c : Int)).toNat } := by
  simp [stepPRef, h]

theorem applyStep_selector (d : Int) (s : State) : (applyStep d s).selector = (stepPRef d s).selector := rfl

end

/-! ## A rising edge (R7) -/

/-- The state once a pulse has renewed the last-pulse time and ended SYNC_LOST (R7). -/
def pulsed (s : State) : State :=
  s.setTime { s.time with syncHeld := .high, edgeDue := false, lastPulse := s.now, syncLost := false }

theorem frame_pulsed (s : State) : Frame [.time] s (pulsed s) := frame_setTime s _

section
variable {s : State}

theorem exec_syncPulse (hs : Running s) (h : s.time.syncHeld = .low ∨ s.time.edgeDue = true) :
    exec .syncPulse s = .next (settle s (takeEdge s)) := by
  have hrises : syncPulse s = settle s (takeEdge s) := if_pos (by simpa using h.symm)
  exact (run_of_running hs syncPulse).trans (congrArg _ hrises)

theorem takeEdge_of_disabled (h : s.settings.syncEnable = false) :
    takeEdge s = s.setTime { s.time with syncHeld := .high, edgeDue := false } := if_neg (by simp [h])

theorem takeEdge_of_invalid (h : s.settings.syncEnable = true) (hclock : s.time.clock.valid = false) :
    takeEdge s = pulsed s := (if_pos h).trans (if_neg (by simp [hclock]))

theorem takeEdge_of_valid (h : s.settings.syncEnable = true) (hclock : s.time.clock.valid = true) :
    takeEdge s = pullClock (pulsed s) := (if_pos h).trans (if_pos hclock)

theorem pullClock_of_slip (h : s.settings.ts < (syncStep s.time.clock.minutePosition).natAbs) :
    pullClock s = s.latch .syncSlip := (if_neg (by omega)).trans (if_pos h)

theorem pullClock_of_step (h0 : syncStep s.time.clock.minutePosition ≠ 0)
    (h : (syncStep s.time.clock.minutePosition).natAbs ≤ s.settings.ts) :
    pullClock s = applyStep (syncStep s.time.clock.minutePosition) s := (if_neg h0).trans (if_neg (by omega))

/-- What a rising edge can do: the pulse is ignored, renews the watch alone, slips or steps the clock. -/
theorem takeEdge_cases (s : State) :
    (s.settings.syncEnable = false ∧ takeEdge s = s.setTime { s.time with syncHeld := .high, edgeDue := false }) ∨
      takeEdge s = pulsed s ∨
      takeEdge s = (pulsed s).latch .syncSlip ∨
      takeEdge s = applyStep (syncStep s.time.clock.minutePosition) (pulsed s) := by
  cases henable : s.settings.syncEnable with
  | false => exact .inl ⟨rfl, takeEdge_of_disabled henable⟩
  | true =>
    cases hvalid : s.time.clock.valid with
    | false => exact .inr (.inl (takeEdge_of_invalid henable hvalid))
    | true =>
      rw [takeEdge_of_valid henable hvalid]
      by_cases hzero : syncStep s.time.clock.minutePosition = 0
      · exact .inr (.inl (pullClock_of_zero (s := pulsed s) hzero))
      · by_cases hslip : s.settings.ts < (syncStep s.time.clock.minutePosition).natAbs
        · exact .inr (.inr (.inl (pullClock_of_slip (s := pulsed s) hslip)))
        · exact .inr (.inr (.inr (pullClock_of_step (s := pulsed s) hzero (Nat.le_of_not_lt hslip))))

theorem frame_takeEdge (s : State) : Frame [.time, .selector, .latched] s (takeEdge s) := by
  rcases takeEdge_cases s with ⟨-, h⟩ | h | h | h <;> rw [h]
  · exact (frame_setTime s _).mono (by simp)
  · exact (frame_pulsed s).mono (by simp)
  · exact ((frame_pulsed s).mono (by simp)).trans ((frame_latch _ _).mono (by simp))
  · exact ((frame_pulsed s).mono (by simp)).trans ((frame_applyStep _ _).mono (by simp))

/-- What every rising edge leaves of the time base. -/
theorem takeEdge_time (s : State) : (takeEdge s).time.ct = s.time.ct ∧ (takeEdge s).time.syncHeld = .high ∧
    (takeEdge s).time.edgeDue = false ∧ (takeEdge s).time.boundaryDue = s.time.boundaryDue := by
  rcases takeEdge_cases s with ⟨-, h⟩ | h | h | h <;> rw [h] <;> exact ⟨rfl, rfl, rfl, rfl⟩

theorem takeEdge_watch (h : s.settings.syncEnable = true) :
    (takeEdge s).time.lastPulse = s.time.ct ∧ (takeEdge s).time.syncLost = false := by
  rcases takeEdge_cases s with ⟨hoff, -⟩ | h' | h' | h'
  · simp [h] at hoff
  all_goals rw [h']; exact ⟨rfl, rfl⟩

/-- A pulse within Ts at a valid clock: the clock and P_ref move by the step, and a forward one owes a mark. -/
theorem takeEdge_of_step (henable : s.settings.syncEnable = true) (hvalid : s.time.clock.valid = true)
    (hclock : ClockInRange s.time.clock) (hts : (syncStep s.time.clock.minutePosition).natAbs ≤ s.settings.ts) :
    Frame [.time, .selector] s (takeEdge s) ∧ (takeEdge s).time.clock.second = 0 ∧ (takeEdge s).time.clock.tenth = 0 ∧
      (takeEdge s).time.clock.valid = true ∧ (takeEdge s).time.syncLost = false ∧
      (takeEdge s).time.lastPulse = s.time.ct ∧
      ((takeEdge s).time.clock.weekPosition : Int) =
        (s.time.clock.weekPosition + syncStep s.time.clock.minutePosition) % 6048000 ∧
      (takeEdge s).time.markDue = (s.time.markDue || decide (0 < syncStep s.time.clock.minutePosition)) ∧
      (s.activeRecord = none → (takeEdge s).selector = s.selector) ∧
      ∀ a p, s.activeRecord = some (a, p) → a.pRef < p.c → ∃ r : Nat,
        (r : Int) = ((a.pRef : Int) + syncStep s.time.clock.minutePosition) % (p.c : Int) ∧
          (takeEdge s).selector = { s.selector with active := some { a with pRef := r } } := by
  rw [takeEdge_of_valid henable hvalid]
  by_cases hzero : syncStep s.time.clock.minutePosition = 0
  · rw [pullClock_of_zero (s := pulsed s) hzero, hzero]
    obtain ⟨hsecond, htenth⟩ := DayClock.minutePosition_of_zero hzero hclock
    have hweek := DayClock.weekPosition_lt hclock
    refine ⟨(frame_pulsed s).mono (by simp), hsecond, htenth, hvalid, rfl, rfl, ?_, ?_, fun _ => rfl, fun a p hrecord hp => ?_⟩
    · show (s.time.clock.weekPosition : Int) = _
      omega
    · show s.time.markDue = _
      simp
    · refine ⟨a.pRef, by rw [add_zero, Int.emod_eq_of_lt (by omega) (by omega)], ?_⟩
      obtain ⟨hactive, -⟩ := active_of_activeRecord hrecord
      show s.selector = _
      rw [← hactive]
  · rw [pullClock_of_step (s := pulsed s) hzero hts]
    obtain ⟨hsecond, htenth, hweek⟩ := DayClock.stepTo_spec hclock hzero
    refine ⟨((frame_pulsed s).mono (by simp)).trans (frame_applyStep _ _), hsecond, htenth,
      (DayClock.stepTo_valid _ _).trans hvalid, rfl, rfl, hweek, rfl, fun hnone => ?_, fun a p hrecord hp => ?_⟩
    · rw [applyStep_selector, stepPRef_of_inactive (s := pulsed s) hnone]
      rfl
    · rw [applyStep_selector, stepPRef_of_active (s := pulsed s) hrecord]
      refine ⟨_, Int.toNat_of_nonneg (Int.emod_nonneg _ (by omega)), rfl⟩

end

/-! ## The STATUS output (R152) -/

/-- Out of the blinks, LOCKED is the stage of an active plan with a junction in step. -/
theorem stage_locked_iff {s : State} (hf : ¬ (!s.time.clock.valid || s.anyJunction Coordination.isFault) = true)
    (hs : ¬ (s.anyJunction Coordination.isSeek || s.anyJunction Coordination.isPreempt) = true) :
    s.stage = .locked ↔ s.selector.active.isSome = true ∧ s.anyJunction Coordination.isInStep = true := by
  simp only [Bool.or_eq_true, not_or, Bool.not_eq_true, Bool.not_eq_false'] at hf hs
  obtain ⟨hvalid, hfault⟩ := hf
  obtain ⟨hseek, -⟩ := hs
  unfold State.stage
  simp only [hfault, hseek, Bool.false_or, Bool.not_false, Bool.and_true]
  cases s.selector.active.isSome <;> cases s.anyJunction Coordination.isInStep <;> simp [hvalid]

/-- The STATUS pattern, told from the junctions. -/
theorem lampPattern_eq (s : State) : s.lampPattern =
    if s.time.clock.valid = false ∨ ∃ j ∈ s.junctions, j.state = .free .fault then .fast
    else if ∃ j ∈ s.junctions, j.state.isSeek = true ∨ j.state.isPreempt = true then .slow
    else if s.selector.active.isSome = true ∧ ∃ j ∈ s.junctions, j.state.isInStep = true then .steady else .off := by
  have hfault : s.anyJunction Coordination.isFault = true ↔ ∃ j ∈ s.junctions, j.state = .free .fault := by
    simp [State.anyJunction, Coordination.isFault]
  have hslow : (s.anyJunction Coordination.isSeek || s.anyJunction Coordination.isPreempt) = true ↔
      ∃ j ∈ s.junctions, j.state.isSeek = true ∨ j.state.isPreempt = true := by
    simp only [State.anyJunction, Bool.or_eq_true, List.any_eq_true, ← exists_or, ← and_or_left]
  have hstep : s.anyJunction Coordination.isInStep = true ↔ ∃ j ∈ s.junctions, j.state.isInStep = true := by
    simp [State.anyJunction]
  have hfast : (!s.time.clock.valid || s.anyJunction Coordination.isFault) = true ↔
      s.time.clock.valid = false ∨ ∃ j ∈ s.junctions, j.state = .free .fault := by
    rw [← hfault]
    simp
  unfold State.lampPattern
  simp only [hfast, hslow]
  by_cases hf : s.time.clock.valid = false ∨ ∃ j ∈ s.junctions, j.state = .free .fault
  · rw [if_pos hf, if_pos hf]
  by_cases hs : ∃ j ∈ s.junctions, j.state.isSeek = true ∨ j.state.isPreempt = true
  · rw [if_neg hf, if_neg hf, if_pos hs, if_pos hs]
  rw [if_neg hf, if_neg hf, if_neg hs, if_neg hs]
  rw [← hfast] at hf
  rw [← hslow] at hs
  simp only [stage_locked_iff hf hs, hstep]

theorem patternOn_of_fast {s : State} (h : s.lampPattern = .fast) : s.patternOn = decide (s.blink.val % 2 = 0) := by
  simp [State.patternOn, h]

theorem patternOn_of_slow {s : State} (h : s.lampPattern = .slow) : s.patternOn = decide (s.blink.val < 4) := by
  simp [State.patternOn, h]

/-! The eight phases of the blinks (R152). -/

theorem blink_next : ∀ b : Fin 8, (b + 1).val = (b.val + 1) % 8 := by decide

theorem blink_toggles_fast : ∀ b : Fin 8, decide ((b + 1).val % 2 = 0) = !decide (b.val % 2 = 0) := by decide

theorem blink_toggles_slow : ∀ b : Fin 8,
    decide ((b + 1).val < 4) = if (b + 1).val % 4 = 0 then !decide (b.val < 4) else decide (b.val < 4) := by decide

theorem lampOn_of_running {s : State} (hs : Running s) : s.lampOn = s.patternOn := (outputs_of_running hs .low).2.1

end Sys2Proof.Machine

namespace Sys2Proof.Proofs

open Sys2Proof.Machine Sys2Proof.Safety

/-- Settles O25, by what the edge finds: sync enable, the clock, and the size of the step. -/
theorem syncPulseStepsClock : Obligations.SyncPulseStepsClock := by
  intro s hs hclock hedge d
  obtain ⟨hct, hheld, hdue, hboundary⟩ := takeEdge_time s
  refine ⟨_, exec_syncPulse hs hedge, by rwa [settle_time], by rwa [settle_time], by rwa [settle_time],
    by rwa [settle_time], ((frame_takeEdge s).mono (by simp)).trans ((frame_settle s _).mono (by simp)),
    fun henable => ?_, fun henable => ?_⟩
  · rw [takeEdge_of_disabled henable]
    have hframe := frame_setTime s { s.time with syncHeld := .high, edgeDue := false }
    rw [settle_of_subset (joined_of_clock hframe (by simp) (fun h => h) (fun h => h))]
    exact ⟨rfl, rfl, rfl, hframe⟩
  · obtain ⟨hrenewed, hfound⟩ := takeEdge_watch henable
    rw [settle_time]
    refine ⟨hrenewed, hfound, fun hinvalid => ?_, fun hvalid hts => ?_, fun hvalid hts => ?_⟩
    · rw [takeEdge_of_invalid henable hinvalid,
        settle_of_subset (joined_of_clock (frame_pulsed s) (by simp) (fun h => h) nofun)]
      exact ⟨rfl, frame_pulsed s⟩
    · rw [takeEdge_of_valid henable hvalid, pullClock_of_slip (s := pulsed s) hts]
      refine ⟨rfl, rfl, ?_, settle_latched ..⟩
      have hslip : Frame [.time, .latched] s ((pulsed s).latch .syncSlip) :=
        ((frame_pulsed s).mono (by simp)).trans ((frame_latch (pulsed s) .syncSlip).mono (by simp))
      exact (hslip.mono (by simp)).trans ((frame_settle s _).mono (by simp))
    · obtain ⟨hframe, hsecond, htenth, hstill, hlost, -, hweek, hmark, hinactive, hactive⟩ :=
        takeEdge_of_step henable hvalid hclock hts
      rw [settle_of_subset (joined_of_clock hframe (by simp) (fun _ => hstill) (by simp [hlost]))]
      exact ⟨hframe, hsecond, htenth, hstill, hweek, hmark, hinactive, hactive⟩

/-- Settles O26, part by part: the two events, the blink, and the pattern. -/
theorem syncLossPulseEndAndBlink : Obligations.SyncLossPulseEndAndBlink := by
  refine ⟨fun s hs henable hlost hct => ?_, fun s hs hend => ?_, fun s hs => ?_, fun s hs => ?_, lampPattern_eq,
    fun l s => ⟨_, rfl, rfl⟩⟩
  · have hdue : Event.syncLoss.due s = true := by
      have hreached : reached s.now (some (plus s.time.lastPulse 1800)) = true := by
        rw [show s.now = plus s.time.lastPulse 1800 from hct]
        exact atOrBefore_self _
      simp [Event.due, henable, hlost, hreached]
    refine ⟨_, (run_of_running hs (takeEvent .syncLoss)).trans (congrArg _ (takeEvent_of_due hdue)), by rw [settle_time]; rfl, ?_⟩
    exact ((frame_setTime s _).mono (by simp)).trans ((frame_settle s _).mono (by simp))
  · have hdue : Event.pulseEnd.due s = true := by
      show reached s.now s.alerts.pulseEnd = true
      rw [hend]
      exact atOrBefore_self _
    have hframe : Frame [.pulseEnd] s (Event.pulseEnd.effect s) := frame_setPulseEnd s none
    have hevent := takeEvent_of_quiet hdue hframe (by simp [Quiet])
    refine ⟨_, (run_of_running hs (takeEvent .pulseEnd)).trans (congrArg _ hevent), rfl, hframe, fun hmode => ?_⟩
    rw [(outputs_of_running hs .low).1, (outputs_of_running (s := Event.pulseEnd.effect s) hs .low).1]
    simp [State.alertWanted, Event.effect, hmode, hend]
  · refine ⟨_, run_of_running hs fun t => t.setBlink (t.blink + 1), frame_setBlink s _, blink_next s.blink, fun hfast => ?_, fun hslow => ?_⟩
    · rw [lampOn_of_running (s := s.setBlink (s.blink + 1)) hs, lampOn_of_running hs, patternOn_of_fast (s := s.setBlink (s.blink + 1)) hfast,
        patternOn_of_fast hfast]
      exact blink_toggles_fast s.blink
    · rw [lampOn_of_running (s := s.setBlink (s.blink + 1)) hs, lampOn_of_running hs, patternOn_of_slow (s := s.setBlink (s.blink + 1)) hslow,
        patternOn_of_slow hslow]
      exact blink_toggles_slow s.blink
  · rw [lampOn_of_running hs]
    refine ⟨fun h => by simp [State.patternOn, h], fun h => by simp [State.patternOn, h], fun h => ?_, fun h => ?_⟩
    · rw [patternOn_of_fast h, decide_eq_true_eq]
    · rw [patternOn_of_slow h, decide_eq_true_eq]

end Sys2Proof.Proofs
end

section
/-! SUPPORT. Selector events at the port and at a minute mark (R53 to R55, R58), SET CLOCK (R4, R5), and the statements
about them. -/

namespace Sys2Proof.Safety

open Sys2Proof.Machine

theorem alerts_of_frame {l : List Block} {s t : State} (h : Frame l s t)
    (hl : ∀ b ∈ [Block.latched, .alertConfig, .pulseEnd], b ∉ l) : t.alerts = s.alerts := by
  have hlatched := h .latched (hl _ (by simp))
  have hconf := h .alertConfig (hl _ (by simp))
  have hpulse := h .pulseEnd (hl _ (by simp))
  cases hs : s.alerts
  cases ht : t.alerts
  simp_all [Block.same]

/-! ## What a selector event does, seen from a later state -/

/-- What plans and the selector read is the same in two states: the selector, the plans, the junctions, the corridor
table, the inputs, CT, the clock and the alert unit. -/
structure SameForPlans (s u : State) : Prop where
  selector : u.selector = s.selector
  plans : u.plans = s.plans
  junctions : u.junctions = s.junctions
  settings : u.settings = s.settings
  groups : u.groups = s.groups
  inputs : u.inputs = s.inputs
  ct : u.time.ct = s.time.ct
  clock : u.time.clock = s.time.clock
  alerts : u.alerts = s.alerts

theorem SameForPlans.refl (s : State) : SameForPlans s s := ⟨rfl, rfl, rfl, rfl, rfl, rfl, rfl, rfl, rfl⟩

section
variable {issued : Prop} {s u v t : State}

theorem PlanInEffect.transfer {a : ActivePlan} {n : Nat} {p : Plan} (h : PlanInEffect a n p s v) (hs : SameForPlans s u)
    (hjunctions : t.junctions = v.junctions) (hlatched : t.alerts.latched = v.alerts.latched) :
    PlanInEffect a n p u t where
  number := h.number
  pRef := hs.clock ▸ h.pRef
  links := by simpa only [State.n, hs.junctions] using h.links
  times := by simpa only [State.n, hs.junctions] using h.times
  entryIn := hs.settings ▸ h.entryIn
  entryOut := hs.settings ▸ h.entryOut
  offsets := h.offsets
  size := by simpa only [State.n, hs.junctions, hjunctions] using h.size
  contexts := by
    simpa only [State.attributes, State.corridorFree, hs.junctions, hs.groups, hs.inputs, hs.ct, hjunctions] using
      h.contexts
  latched := by rw [hlatched, hs.alerts]; exact h.latched

/-- The outcome of a selector event in `s` that led to `v`, told of states that agree with the two. -/
theorem SelectorActs.transfer (h : SelectorActs issued s v) (hs : SameForPlans s u) (hselector : t.selector = v.selector)
    (hjunctions : t.junctions = v.junctions) (hlatched : t.alerts.latched = v.alerts.latched)
    (hquiet : v.junctions = s.junctions → v.alerts = s.alerts → t.alerts = s.alerts) : SelectorActs issued u t := by
  have hrecord (n : Nat) : u.planRecord n = s.planRecord n := by simp only [State.planRecord, hs.plans]
  have hnumber : u.activeNumber = s.activeNumber := by simp only [State.activeNumber, hs.selector]
  have hvalid (n : Nat) : ValidPlan n u ↔ ValidPlan n s := by simp only [ValidPlan, hrecord, hs.junctions]
  have hpends (q : Option Nat) (g : OnlyPends q s v) : OnlyPends q u t := by
    obtain ⟨hactive, hpending, hjunctions', halerts⟩ := g
    refine ⟨?_, ?_, ?_, ?_⟩
    · rw [hselector, hs.selector, hactive]
    · rw [hselector, hpending]
    · rw [hjunctions, hs.junctions, hjunctions']
    · rw [hs.alerts, hquiet hjunctions' halerts]
  constructor
  case quiet => rw [hs.selector]; exact fun hn => hpends _ (h.quiet hn)
  all_goals rw [hselector]
  all_goals simp only [hnumber, hs.selector, hs.clock, hs.junctions, hrecord, hvalid, hjunctions, hlatched, hs.alerts]
  case same => exact fun hi hn => hpends _ (h.same hi hn)
  case plan0 => exact fun hi hn h0 => hpends _ (h.plan0 hi hn h0)
  case rejected => exact h.rejected
  case pends => exact fun hi hn h0 hc ha hv => hpends _ (h.pends hi hn h0 hc ha hv)
  case takes =>
    intro p hi h0 hc ha hp hf
    obtain ⟨a, hactive, hpending, heffect⟩ := h.takes p hi h0 hc ha hp hf
    exact ⟨a, hactive, hpending, heffect.transfer hs hjunctions hlatched⟩

end

end Sys2Proof.Safety

namespace Sys2Proof.Machine

open Sys2Proof.Safety

/-! ## The requested plan (R52, R53) -/

theorem AlikeForPlans.refl (s : State) : AlikeForPlans s s := ⟨.refl _ s, rfl, rfl, rfl⟩

theorem arbitrate_eq (s : State) : s.arbitrate = match s.forced with
    | some f => f.2
    | none => if s.selector.holdOn then s.selector.holdPlan else s.selector.scheduled := by
  unfold State.arbitrate
  cases s.forced <;> rfl

/-- Under an active plan an activation moves no junction and leaves the active plan. -/
theorem activate_under_active {s : State} (h : s.selector.active.isSome = true) (n : Nat) :
    (activate n s).2.junctions = s.junctions ∧ (activate n s).2.selector.active = s.selector.active := by
  obtain ⟨-, -, h'⟩ | ⟨-, -, h'⟩ | ⟨-, -, h'⟩ | ⟨-, -, -, h'⟩ | ⟨-, -, -, f, h', -⟩ |
    ⟨-, -, -, p, -, -, ⟨hnone, -⟩ | ⟨-, h'⟩⟩ := activate_cases n s
  case inr.inr.inr.inr.inr.inl => simp [hnone] at h
  all_goals rw [h']; exact ⟨rfl, rfl⟩

theorem select_under_active {s : State} (h : s.selector.active.isSome = true) (reconcile : Bool) :
    (select reconcile s).junctions = s.junctions ∧ (select reconcile s).selector.active = s.selector.active := by
  obtain ⟨-, hselect⟩ | ⟨-, -, hselect⟩ := select_cases reconcile s
  · obtain ⟨hjunctions, hactive⟩ := activate_under_active (s := reform s) h s.arbitrate
    rw [hselect, activateUnanswered_selector]
    refine ⟨?_, hactive⟩
    unfold activateUnanswered
    dsimp only
    split <;> exact hjunctions
  · exact hselect ▸ ⟨rfl, rfl⟩

theorem catchUp_under_active {s : State} (h : s.selector.active.isSome = true) :
    (catchUp s).junctions = s.junctions ∧ (catchUp s).selector.active = s.selector.active := by
  obtain ⟨plan, entry, hcatch⟩ := catchUpSchedule_eq s
  unfold catchUp
  rw [hcatch]
  exact select_under_active (s := setScheduled plan entry s) h true

/-- A catch-up leaves the state with the requested plan it has arbitrated. -/
theorem catchUp_requested (s : State) : (catchUp s).selector.requested = (catchUp s).arbitrate := by
  obtain ⟨a, q, hselector⟩ := select_selector true (catchUpSchedule s)
  have hinputs : (catchUp s).inputs = (catchUpSchedule s).inputs := frame_select true (catchUpSchedule s) .inputs (by simp)
  have hforced : (catchUp s).forced = (catchUpSchedule s).forced := by simp only [State.forced, hinputs]
  rw [catchUp] at hforced ⊢
  rw [select_requested, arbitrate_eq, arbitrate_eq (select _ _), hforced, hselector]

/-- A catch-up keeps the schedule and the manual hold. -/
theorem catchUp_keeps (s : State) : (catchUp s).selector.schedule = s.selector.schedule ∧
    (catchUp s).selector.holdOn = s.selector.holdOn ∧ (catchUp s).selector.holdPlan = s.selector.holdPlan := by
  obtain ⟨a, q, hselector⟩ := select_selector true (catchUpSchedule s)
  obtain ⟨plan, entry, hcatch⟩ := catchUpSchedule_eq s
  rw [catchUp, hselector, hcatch]
  exact ⟨rfl, rfl, rfl⟩

/-- What a catch-up does, told of the state it is made in, as one that agrees with `s` for plans. -/
theorem catchUp_selectorActs {s u : State} (h : AlikeForPlans s u) :
    SelectorActs ((catchUp u).selector.requested ≠ u.selector.requested ∨
      (catchUp u).selector.requested ≠ s.target) s (settle s (catchUp u)) := by
  obtain ⟨plan, entry, hcatch⟩ := catchUpSchedule_eq u
  have hcaught : AlikeForPlans s (catchUpSchedule u) := hcatch ▸ h.setSelector rfl rfl
  have hacts := hcaught.selectorActs true
  have hbefore : (catchUpSchedule u).selector.requested = u.selector.requested := by
    rw [hcatch]
    rfl
  rw [hcaught.target, hbefore] at hacts
  rw [show (catchUp u).selector.requested = _ from select_requested true _]
  simpa [catchUp] using hacts

/-- A request whose owner ends in a catch-up: the outcome, told of the state the port leaves. -/
theorem selectorActs_of_owner {issued : Prop} {s u x t : State} {l : List Block} (h : SelectorActs issued u (settle u x))
    (hux : Frame [.selector, .junctions, .latched] u x) (hsu : Frame l s u)
    (hl : ∀ b ∈ [Block.port, .junctions, .latched, .alertConfig, .pulseEnd], b ∉ l)
    (hvalid : s.time.clock.valid = true → u.time.clock.valid = true)
    (hlost : u.time.syncLost = true → s.time.syncLost = true)
    (hxt : Frame [.port, .pulseEnd] x t) (hquiet : joined s x = 0 → Frame [.port] x t) : SelectorActs issued u t := by
  refine h.transfer (.refl u) ?_ ?_ ?_ fun hjunctions halerts => ?_
  · rw [settle_selector]
    exact hxt .selector (by simp)
  · rw [settle_junctions]
    exact hxt .junctions (by simp)
  · rw [settle_latched]
    exact hxt .latched (by simp)
  · rw [settle_junctions] at hjunctions
    have hlatched : x.alerts.latched = u.alerts.latched := by rw [← settle_latched u x, halerts]
    have hsx : Frame ([.selector, .junctions, .latched] ++ l) s x :=
      (hsu.mono (List.subset_append_right ..)).trans (hux.mono (List.subset_append_left ..))
    have hjoined : joined s x = 0 := by
      refine joined_of_sources (hsx .alertConfig (by simpa using hl _ (by simp))) (hsx .port (by simpa using hl _ (by simp))).1
        (hjunctions.trans (hsu .junctions (hl _ (by simp)))) (hlatched.trans (hsu .latched (hl _ (by simp)))) ?_ ?_
      · rwa [show x.time = u.time from hux .time (by simp)]
      · rwa [show x.time = u.time from hux .time (by simp)]
    have hux' : Frame [.selector] u x := by
      intro b hb
      by_cases hj : b = .junctions
      · exact hj ▸ hjunctions
      by_cases hla : b = .latched
      · exact hla ▸ hlatched
      exact hux b (by simp_all)
    exact alerts_of_frame ((hux'.mono (by simp)).trans ((hquiet hjoined).mono (m := [.selector, .port]) (by simp)))
      (by simp)

/-! ## The schedule match (R54) -/

theorem matchesClock_iff {e : ScheduleEntry} {k : DayClock} : e.matchesClock k = true ↔ EntryMatches e k := by
  simp [ScheduleEntry.matchesClock, ScheduleEntry.onDay, EntryMatches, and_assoc]

section
variable {s : State}

theorem scheduleMatch_of_first {i : Fin 24} (hi : EntryMatches s.selector.schedule[i] s.time.clock)
    (hfirst : ∀ m : Fin 24, m.val < i.val → ¬ EntryMatches s.selector.schedule[m] s.time.clock) :
    scheduleMatch s = setScheduled s.selector.schedule[i].plan (some i.val) s := by
  have hfind : (s.selector.schedule.toList.zipIdx).find? (fun e => e.1.matchesClock s.time.clock) =
      some (s.selector.schedule[i], i.val) := by
    refine List.find?_eq_some_iff_getElem.mpr ⟨matchesClock_iff.mpr hi, i.val, by simp, by simp, fun j hj => ?_⟩
    have hm := mt matchesClock_iff.mp (hfirst ⟨j, by omega⟩ hj)
    simpa using hm
  unfold scheduleMatch
  rw [hfind]

theorem scheduleMatch_of_none (h : ∀ i : Fin 24, ¬ EntryMatches s.selector.schedule[i] s.time.clock) :
    scheduleMatch s = s := by
  have hfind : (s.selector.schedule.toList.zipIdx).find? (fun e => e.1.matchesClock s.time.clock) = none := by
    refine List.find?_eq_none.mpr fun e he hmatch => ?_
    obtain ⟨-, hlt, hget⟩ := List.mem_zipIdx he
    simp only [Vector.length_toList, zero_add] at hlt
    refine h ⟨e.2, hlt⟩ (matchesClock_iff.mp ?_)
    simpa [hget] using hmatch
  unfold scheduleMatch
  rw [hfind]

theorem scheduleMatch_eq (s : State) : ∃ plan entry, scheduleMatch s = setScheduled plan entry s := by
  unfold scheduleMatch
  split
  · exact ⟨_, _, rfl⟩
  · exact ⟨s.selector.scheduled, s.selector.lastEntry, rfl⟩

/-- The match, then the requested plan as it stands under the match (R53, R54). -/
theorem minuteMark_selector (s : State) : ∃ a q, (minuteMark s).selector = { (scheduleMatch s).selector with
    requested := (scheduleMatch s).arbitrate, active := a, pendingPlan := q } := select_selector false _

theorem scheduleMatch_arbitrate (s : State) : (scheduleMatch s).arbitrate = match s.forced with
    | some f => f.2
    | none => if s.selector.holdOn then s.selector.holdPlan else (scheduleMatch s).selector.scheduled := by
  obtain ⟨plan, entry, hmatch⟩ := scheduleMatch_eq s
  rw [hmatch, arbitrate_eq]
  rfl

theorem frame_minuteMark (s : State) : Frame [.selector, .junctions, .latched] s (minuteMark s) := by
  obtain ⟨plan, entry, hmatch⟩ := scheduleMatch_eq s
  have hmatched : Frame [.selector] s (scheduleMatch s) := hmatch ▸ frame_setSelector _ _
  exact (hmatched.mono (by simp)).trans (frame_select false _)

theorem minuteMark_acts (s : State) : SelectorActs ((minuteMark s).selector.requested ≠ s.selector.requested) s
    (settle s (minuteMark s)) := by
  obtain ⟨plan, entry, hmatch⟩ := scheduleMatch_eq s
  have halike : AlikeForPlans s (scheduleMatch s) := by
    rw [hmatch]
    exact ⟨(frame_setSelector _ _).mono (by simp), rfl, rfl, rfl⟩
  have hacts := halike.selectorActs false
  have hbefore : (scheduleMatch s).selector.requested = s.selector.requested := by
    rw [hmatch]
    rfl
  rw [show (minuteMark s).selector.requested = _ from select_requested false _, ← hbefore]
  simpa [minuteMark] using hacts

theorem exec_minuteMark (hs : Running s) (hdue : s.time.markDue = true) :
    exec .minuteMark s = .next (settle s (minuteMark (s.setTime { s.time with markDue := false }))) :=
  (run_of_running hs (takeEvent .minuteMark)).trans (congrArg _ (takeEvent_of_due (e := .minuteMark) hdue))

end

/-! ## The clock that SET CLOCK carries (R4) -/

theorem bcd?_eq_some {b v : Nat} : bcd? b = some v ↔ b / 16 ≤ 9 ∧ b % 16 ≤ 9 ∧ b / 16 * 10 + b % 16 = v := by
  simp [bcd?, and_assoc]

theorem bcd?_of_digits {n : Nat} (h : n ≤ 99) : bcd? (BitVec.ofNat 8 (n / 10 * 16 + n % 10)).toNat = some n := by
  rw [BitVec.toNat_ofNat, Nat.mod_eq_of_lt (by omega), bcd?_eq_some]
  omega

theorem clock_eq_some {q : ClockFields} {k : DayClock} (h : q.clock = some k) : ∃ d hour m sec,
    q = ⟨some d, some hour, some m, some sec⟩ ∧ 1 ≤ d ∧ d ≤ 7 ∧ hour ≤ 23 ∧ m ≤ 59 ∧ sec ≤ 59 := by
  unfold ClockFields.clock at h
  split at h
  · next d hour m sec hd hh hm hs =>
    split at h
    · next hrange =>
      simp only [Bool.and_eq_true, decide_eq_true_eq, and_assoc] at hrange
      refine ⟨d, hour, m, sec, ?_, hrange⟩
      rw [← hd, ← hh, ← hm, ← hs]
    · cases h
  · cases h

theorem ownSetClock_of_none {q : ClockFields} (h : q.clock = none) (s : State) : ownSetClock q s = refuse .outOfRange s := by
  simp [ownSetClock, h]

theorem ownSetClock_of_clock {q : ClockFields} {k : DayClock} (h : q.clock = some k) (s : State) :
    ownSetClock q s = done .none [] (catchUp (rederive (s.setTime (s.time.setClock k)))) := by
  simp [ownSetClock, h]

/-- SET CLOCK with every field in range, as its owner carries it out. -/
theorem setClock_of_fields {d h m sec : Nat} (hd1 : 1 ≤ d) (hd7 : d ≤ 7) (hh : h ≤ 23) (hm : m ≤ 59) (hsec : sec ≤ 59)
    (s : State) :
    serve (requestOf 0x01 [BitVec.ofNat 8 d, BitVec.ofNat 8 (h / 10 * 16 + h % 10),
      BitVec.ofNat 8 (m / 10 * 16 + m % 10), BitVec.ofNat 8 (sec / 10 * 16 + sec % 10)]) s =
      done .none [] (catchUp (rederive (s.setTime (s.time.setClock ⟨d, h, m, sec, 0, true⟩)))) := by
  have hday : bcd? (BitVec.ofNat 8 d).toNat = some d := by
    have hdigits := bcd?_of_digits (n := d) (by omega)
    rwa [show d / 10 * 16 + d % 10 = d by omega] at hdigits
  show ownSetClock ⟨bcd? _, bcd? _, bcd? _, bcd? _⟩ s = _
  rw [hday, bcd?_of_digits (by omega), bcd?_of_digits (by omega), bcd?_of_digits (by omega)]
  exact ownSetClock_of_clock (by simp [ClockFields.clock, *]) s

/-! ## P_ref under a clock that is set (R5, R12) -/

section
variable {s : State}

theorem rederive_of_inactive (h : s.activeRecord = none) : rederive s = s := by
  simp [rederive, h]

theorem rederive_of_active {a : ActivePlan} {p : Plan} (h : s.activeRecord = some (a, p)) :
    rederive s = s.setActive { a with pRef := derivePRef p s.time.clock } := by
  simp [rederive, h]

theorem rederive_target (s : State) : (rederive s).target = s.target := by
  cases h : s.activeRecord with
  | none => rw [rederive_of_inactive h]
  | some ap =>
    obtain ⟨hactive, -⟩ := active_of_activeRecord h
    rw [rederive_of_active h]
    simp [State.target, State.activeNumber, State.setActive, hactive]

end

end Sys2Proof.Machine

namespace Sys2Proof.Proofs

open Sys2Proof.Machine Sys2Proof.Safety

/-- Settles O39: the match, then the selector event, both on the state whose mark is taken. -/
theorem minuteMarkRunsScheduleMatch : Obligations.MinuteMarkRunsScheduleMatch := by
  intro s hs hdue
  let s' := s.setTime { s.time with markDue := false }
  have hsame : SameForPlans s' s := ⟨rfl, rfl, rfl, rfl, rfl, rfl, rfl, rfl, rfl⟩
  have htaken : Frame [.time] s s' := frame_setTime s _
  have hmarked : Frame [.selector, .junctions, .latched] s' (minuteMark s') := frame_minuteMark s'
  obtain ⟨a, q, hselector⟩ := minuteMark_selector s'
  refine ⟨_, exec_minuteMark hs hdue, ?_, ?_, ?_⟩
  · exact (htaken.mono (by simp)).trans ((hmarked.mono (by simp)).trans ((frame_settle s _).mono (by simp)))
  · rw [settle_time]
    exact hmarked .time (by simp)
  have hacts : SelectorActs ((minuteMark s').selector.requested ≠ s.selector.requested) s (settle s (minuteMark s')) :=
    (minuteMark_acts s').transfer hsame rfl rfl rfl fun _ h => h
  rw [settle_selector]
  refine ⟨fun i hi hfirst => ?_, fun hnone => ?_, ?_, ?_, ?_, ?_, hacts⟩
  · rw [hselector, scheduleMatch_of_first (s := s') hi hfirst]
    exact ⟨rfl, rfl⟩
  · rw [hselector, scheduleMatch_of_none (s := s') hnone]
    exact ⟨rfl, rfl⟩
  · rw [hselector]
    exact scheduleMatch_arbitrate s'
  all_goals
    obtain ⟨plan, entry, hmatch⟩ := scheduleMatch_eq s'
    rw [hselector, hmatch]
    rfl

/-- Settles O40: the hold is turned off, and the catch-up is made on the state that leaves. -/
theorem resumeCatchesUp : Obligations.ResumeCatchesUp := by
  intro s hs hclock hentries
  let u := setHold false 0 s
  have halike : AlikeForPlans s u := ⟨(frame_setSelector _ _).mono (by simp), rfl, rfl, rfl⟩
  have hsu : Frame [.selector, .junctions, .latched] s (catchUp u) :=
    ((frame_setSelector s _).mono (by simp)).trans (frame_catchUp u)
  obtain ⟨t, hexec, hanswer, hxt, hst, hquiet⟩ :=
    answers_of_owner (c := .resumeSchedule []) hs rfl rfl (u := catchUp u) rfl hsu
  have hselector : t.selector = (catchUp u).selector := hxt .selector (by simp)
  obtain ⟨-, hon, hplan⟩ := catchUp_keeps u
  refine ⟨t, hexec, hanswer, hst.mono (by simp), ?_, ?_, ?_, ?_, ?_⟩
  · rw [hselector, hon]
    rfl
  · rw [hselector, hplan]
    rfl
  · have hinputs : (catchUp u).inputs = s.inputs := hsu .inputs (by simp)
    have hforced : (catchUp u).forced = s.forced := by simp only [State.forced, hinputs]
    rw [hselector, catchUp_requested, arbitrate_eq, hforced, hon]
    rfl
  · refine catchesUp_of_catchUpSchedule (s := u) hentries ?_ ?_
    · rw [hselector]
      exact select_scheduled ..
    · rw [hselector]
      exact select_lastEntry ..
  · rw [hselector]
    exact selectorActs_of_owner (catchUp_selectorActs halike) hsu (.refl [] s) (by simp) id id hxt
      fun hjoined => (hquiet hjoined).1

/-- Settles O27, by the digits carried: in range, the clock and P_ref, then the catch-up under them. -/
theorem setClockActs : Obligations.SetClockActs := by
  refine ⟨fun d h m sec s hs hd1 hd7 hh hm hsec => ?_, fun b0 b1 b2 b3 s hs hbad => ?_⟩
  · let k : DayClock := ⟨d, h, m, sec, 0, true⟩
    let u := rederive (s.setTime (s.time.setClock k))
    have hserve : serve (requestOf 0x01 [BitVec.ofNat 8 d, BitVec.ofNat 8 (h / 10 * 16 + h % 10),
        BitVec.ofNat 8 (m / 10 * 16 + m % 10), BitVec.ofNat 8 (sec / 10 * 16 + sec % 10)]) s =
        done .none [] (catchUp u) := setClock_of_fields hd1 hd7 hh hm hsec s
    have hsu : Frame [.time, .selector] s u := frame_setClock k s
    have hutime : u.time = s.time.setClock k := frame_rederive _ .time (by simp)
    have hux : Frame [.selector, .junctions, .latched] u (catchUp u) := frame_catchUp u
    have hsx : Frame [.time, .selector, .junctions, .latched] s (catchUp u) :=
      (hsu.mono (by simp)).trans (hux.mono (by simp))
    obtain ⟨t, hexec, hanswer, hxt, hst, hquiet⟩ := answers_of_owner (c := .setClock _) hs rfl rfl hserve hsx
    have hselector : t.selector = (catchUp u).selector := hxt .selector (by simp)
    have hinputs : t.inputs = (catchUp u).inputs := hxt .inputs (by simp)
    have htime : t.time = u.time := (hxt .time (by simp)).trans (hux .time (by simp))
    obtain ⟨a, hrederived⟩ := rederive_selector (s.setTime (s.time.setClock k))
    refine ⟨t, u, hexec, hanswer, htime.trans hutime, hst.mono (by simp), ?_, fun hentries => ?_, htime.symm, hsu,
      fun hnone => (congrArg State.selector (rederive_of_inactive (s := s.setTime (s.time.setClock k)) hnone)).trans rfl, fun a p hrecord hc => ?_, ?_⟩
    · rw [hselector, catchUp_requested]
      simp only [State.arbitrate, State.forced, hinputs, hselector]
    · rw [htime]
      have hcaught : CatchesUp u.time.clock u.selector.schedule t := by
        refine catchesUp_of_catchUpSchedule (s := u) ?_ ?_ ?_
        · rw [hrederived]
          exact hentries
        · rw [hselector]
          exact select_scheduled ..
        · rw [hselector]
          exact select_lastEntry ..
      rwa [hrederived] at hcaught
    · have hu : u = (s.setTime (s.time.setClock k)).setActive { a with pRef := derivePRef p k } :=
        rederive_of_active (s := s.setTime _) hrecord
      have hactive : u.selector.active.isSome = true := by
        rw [hu]
        rfl
      obtain ⟨hjunctions, hstays⟩ := catchUp_under_active hactive
      refine ⟨?_, derivePRef p k, derivePRef_eq (by omega) k, by rw [hu]; rfl, hselector ▸ hstays⟩
      rw [show t.junctions = (catchUp u).junctions from hxt .junctions (by simp), hjunctions]
      exact hsu .junctions (by simp)
    · have hacts := selectorActs_of_owner (catchUp_selectorActs (.refl u)) hux hsu (by simp) (fun _ => by rw [hutime]; rfl)
        (by rw [hutime]; exact id) hxt fun hjoined => (hquiet hjoined).1
      rw [hselector]
      rwa [rederive_target, hrederived] at hacts
  · refine refuses_of_owner hs rfl rfl ?_
    show ownSetClock ⟨bcd? b0.toNat, bcd? b1.toNat, bcd? b2.toNat, bcd? b3.toNat⟩ s = _
    refine ownSetClock_of_none (Option.eq_none_iff_forall_ne_some.mpr fun k hk => ?_) s
    obtain ⟨d, h, m, sec, hq, hranges⟩ := clock_eq_some hk
    simp only [ClockFields.mk.injEq, bcd?_eq_some] at hq
    simp only [List.mem_cons, List.not_mem_nil, or_false, exists_eq_or_imp, exists_eq_left] at hbad
    omega

end Sys2Proof.Proofs
end

section
/-! SUPPORT. The offset computation (R41, R42), the checks of plan validation (R36), plans taking effect at the reference
boundary (R39, R40, R47, R48), and the statements about them. -/

namespace Sys2Proof.Machine

open Sys2Proof.Safety

/-! ## The offsets (R42) -/

/-- Each link's offset follows from the one before it. -/
theorem offsetsAfter_get {c w prev x y o : Nat} {links : List (Nat × Nat)} {j : Nat} (hlink : links[j]? = some (x, y))
    (ho : (prev :: offsetsAfter c w prev links)[j]? = some o) :
    (offsetsAfter c w prev links)[j]? = some (nextOffset c w x y o) := by
  induction links generalizing prev j with
  | nil => simp at hlink
  | cons link links ih =>
    obtain ⟨tIn, tOut⟩ := link
    cases j with
    | zero =>
      obtain ⟨rfl, rfl⟩ : tIn = x ∧ tOut = y := by simpa using hlink
      obtain rfl : prev = o := by simpa using ho
      rfl
    | succ j => exact ih (by simpa using hlink) (by simpa [offsetsAfter] using ho)

theorem nextOffset_spec {c : Nat} (hc : 0 < c) (w x y prev : Nat) :
    nextOffset c w x y prev < c ∧ ((nextOffset c w x y prev : Int) - (prev + offsetIncrement c w x y)) % c = 0 := by
  have hpos : (0 : Int) < c := by omega
  have hnonneg := Int.emod_nonneg ((prev : Int) + offsetIncrement c w x y) (by omega : (c : Int) ≠ 0)
  have hlt := Int.emod_lt_of_pos ((prev : Int) + offsetIncrement c w x y) hpos
  have hnext : (nextOffset c w x y prev : Int) = ((prev : Int) + offsetIncrement c w x y) % c := Int.toNat_of_nonneg hnonneg
  refine ⟨by omega, ?_⟩
  rw [hnext]
  exact Int.emod_eq_emod_iff_emod_sub_eq_zero.mp (Int.emod_emod_of_dvd _ (dvd_refl _))

/-- The increment is the weighted mean of the two steps, rounded with a half going up. -/
theorem offsetIncrement_spec (c w x y : Nat) :
    let a := inboundStep c x
    let b := outboundStep c a (outboundResidue c y)
    16 * offsetIncrement c w x y ≤ w * a + (16 - w) * b + 8 ∧
      (w * a + (16 - w) * b + 8 : Int) < 16 * (offsetIncrement c w x y + 1) ∧
      (w = 16 → offsetIncrement c w x y = a) ∧ (w = 0 → offsetIncrement c w x y = b) := by
  intro a b
  have hd : offsetIncrement c w x y = ((w : Int) * a + (16 - (w : Int)) * b + 8) / 16 := rfl
  refine ⟨by omega, by omega, fun hw => ?_, fun hw => ?_⟩ <;> subst hw <;> rw [hd] <;> push_cast <;> omega

/-! ## The checks of plan validation (R36) -/

section
variable {p : Plan} {js : List Junction}

/-- The split and the side minimum of junction `j`, counted from `i`, fit into the cycle. -/
def Fits (p : Plan) (i : Nat) (js : List Junction) (j : Nat) : Prop :=
  ∀ q, js[j]? = some q → p.split (i + j) + q.smin ≤ p.c

theorem fits_cons_succ {i : Nat} {q : Junction} {j : Nat} : Fits p i (q :: js) (j + 1) ↔ Fits p (i + 1) js j := by
  simp only [Fits, List.getElem?_cons_succ, Nat.add_assoc, Nat.add_comm 1 j]

theorem fits_cons_zero {i : Nat} {q : Junction} : Fits p i (q :: js) 0 ↔ p.split i + q.smin ≤ p.c := by
  simp [Fits]

theorem firstOverfull_eq_none {i : Nat} : firstOverfull p i js = none ↔ ∀ j, Fits p i js j := by
  induction js generalizing i with
  | nil => simp [firstOverfull, Fits]
  | cons q js ih =>
    have hsplit : (∀ j, Fits p i (q :: js) j) ↔ p.split i + q.smin ≤ p.c ∧ ∀ j, Fits p (i + 1) js j := by
      constructor
      · exact fun h => ⟨fits_cons_zero.mp (h 0), fun j => fits_cons_succ.mp (h (j + 1))⟩
      · rintro ⟨h0, hrest⟩ (_ | j)
        · exact fits_cons_zero.mpr h0
        · exact fits_cons_succ.mpr (hrest j)
    rw [hsplit, firstOverfull]
    split
    · next h => simp [ih, h]
    · next h => simp [h]

theorem firstOverfull_eq_some {i k : Nat} : firstOverfull p i js = some k ↔
    ∃ j, k = i + j ∧ ¬ Fits p i js j ∧ ∀ m, m < j → Fits p i js m := by
  induction js generalizing i with
  | nil => simp [firstOverfull, Fits]
  | cons q js ih =>
    rw [firstOverfull]
    split
    · next h =>
      rw [ih]
      constructor
      · rintro ⟨j, rfl, hnot, hbefore⟩
        refine ⟨j + 1, by omega, mt fits_cons_succ.mp hnot, fun m hm => ?_⟩
        cases m with
        | zero => exact fits_cons_zero.mpr h
        | succ m => exact fits_cons_succ.mpr (hbefore m (by omega))
      · rintro ⟨j, rfl, hnot, hbefore⟩
        cases j with
        | zero => exact absurd (fits_cons_zero.mpr h) hnot
        | succ j =>
          exact ⟨j, by omega, mt fits_cons_succ.mpr hnot, fun m hm => fits_cons_succ.mp (hbefore (m + 1) (by omega))⟩
    · next h =>
      constructor
      · rintro hk
        obtain rfl := Option.some.inj hk
        exact ⟨0, rfl, mt fits_cons_zero.mp h, by omega⟩
      · rintro ⟨j, rfl, hnot, hbefore⟩
        cases j with
        | zero => rfl
        | succ j => exact absurd (fits_cons_zero.mp (hbefore 0 (by omega))) h

end

/-! ## The reference boundary (R39) -/

section
variable {s : State}

theorem exec_referenceBoundary (hs : Running s) (hdue : s.time.boundaryDue = true) :
    exec .referenceBoundary s = .next (settle s (takeBoundary (s.setTime { s.time with boundaryDue := false }))) :=
  (run_of_running hs (takeEvent .boundary)).trans (congrArg _ (takeEvent_of_due (e := .boundary) hdue))

theorem takeBoundary_of_none (h : s.selector.pendingPlan = none) : takeBoundary s = s := by
  simp [takeBoundary, h]

theorem takeBoundary_of_plan0 (h : s.selector.pendingPlan = some 0) : takeBoundary s = takeEffectPlan0 s := by
  simp [takeBoundary, h]

theorem takeBoundary_of_plan {n : Nat} {p : Plan} (h : s.selector.pendingPlan = some n) (hp : s.planRecord n = some p) :
    takeBoundary s = takeEffect n p s := by
  cases n with
  | zero => simp [State.planRecord] at hp
  | succ n => simp [takeBoundary, h, hp]

/-- What plan 0 does to a junction that is configured (R45, R47). -/
theorem plan0Effect_spec (x : Bool) (old : Junction) :
    (old.state.isSeek ∨ old.state.isInStep ∨ old.state = .free .fault ∨ old.state = .free .corridorFree →
      plan0Effect x old =
        { old with state := .free (if x then .excluded else .plan0), lockout := 0, granted := false }) ∧
    (old.state = .free .excluded ∨ old.state = .free .plan0 → plan0Effect x old = old) ∧
    ∀ start deadline r, old.state = .preempt start deadline r →
      plan0Effect x old = { old with state := .preempt start deadline (if x then .excluded else .plan0) } := by
  cases hstate : old.state with
  | free cause => cases cause <;> simp [plan0Effect, leaveToPlan0, hstate, Coordination.isSeek, Coordination.isInStep]
  | seek w => simp [plan0Effect, leaveToPlan0, hstate, Coordination.isSeek]
  | inStep w => simp [plan0Effect, leaveToPlan0, hstate, Coordination.isInStep]
  | preempt start deadline r =>
    simp [plan0Effect, returnUnderPlan0, hstate, Coordination.isSeek, Coordination.isInStep]

theorem frame_takeEffectPlan0 (h : s.selector.pendingPlan = some 0) :
    Frame [.selector, .junctions, .platoons, .priorities, .latched] s (takeEffectPlan0 s) :=
  PlanMove.frame (.plan0 h)

theorem retire_eq {α : Type} (x : Slot α) (c : RetireCause) (now : Ct) :
    x.retire c now = if x.live.isSome then ⟨x.gen, none, some ⟨x.gen, c, now⟩⟩ else x := by
  cases h : x.live with
  | none => simp [Slot.retire_of_empty h]
  | some r => simp [Slot.retire_of_live h]

end

end Sys2Proof.Machine

namespace Sys2Proof.Proofs

open Sys2Proof.Machine Sys2Proof.Safety

/-- Settles O34, link by link. -/
theorem offsetsFollowWeightedMean : Obligations.OffsetsFollowWeightedMean := by
  intro p tIn tOut hc hw hlength
  refine ⟨planOffsets_length p hlength, rfl, fun j x y prev hx hy hprev => ?_⟩
  have hlink : (tIn.zip tOut)[j]? = some (x, y) := by simp [List.getElem?_zip_eq_some, hx, hy]
  obtain ⟨hlt, hmod⟩ := nextOffset_spec hc p.w x y prev
  exact ⟨offsetIncrement p.c p.w x y, nextOffset p.c p.w x y prev, offsetsAfter_get hlink hprev, hlt, hmod,
    offsetIncrement_spec p.c p.w x y⟩

/-- Settles O38, check by check. -/
theorem validationChecksInOrder : Obligations.ValidationChecksInOrder := by
  intro p js c2 c3 c4 c5 c6 fits
  have hfits (j : Nat) : fits j ↔ Fits p 0 js j := by simp only [fits, Fits, Nat.zero_add]
  have hnone : firstOverfull p 0 js = none ↔ ∀ j, fits j := by simp only [firstOverfull_eq_none, hfits]
  have hsome (j : Nat) : firstOverfull p 0 js = some j ↔ ¬ fits j ∧ ∀ i, i < j → fits i := by
    simp [firstOverfull_eq_some, hfits]
  by_cases h2 : c2
  case neg =>
    have hfailed : failedCheck p js = some ⟨2, none⟩ := if_pos (by omega)
    simp [hfailed, h2]
  by_cases h3 : c3
  case neg =>
    have hfailed : failedCheck p js = some ⟨3, none⟩ := (if_neg (by omega)).trans (if_pos (by omega))
    simp [hfailed, h2, h3]
  by_cases h4 : c4
  case neg =>
    have hfailed : failedCheck p js = some ⟨4, none⟩ :=
      (if_neg (by omega)).trans ((if_neg (by omega)).trans (if_pos (by omega)))
    simp [hfailed, h2, h3, h4]
  by_cases h5 : c5
  case neg =>
    have hfailed : failedCheck p js = some ⟨5, none⟩ :=
      (if_neg (by omega)).trans ((if_neg (by omega)).trans ((if_neg (by omega)).trans (if_pos (by omega))))
    simp [hfailed, h2, h3, h4, h5]
  by_cases h6 : c6
  case neg =>
    have hfailed : failedCheck p js = some ⟨6, none⟩ :=
      (if_neg (by omega)).trans ((if_neg (by omega)).trans ((if_neg (by omega)).trans ((if_neg (by omega)).trans
        (if_pos (by omega)))))
    simp [hfailed, h2, h3, h4, h5, h6]
  have hlast : failedCheck p js = (firstOverfull p 0 js).map fun j => ⟨7, some j⟩ :=
    (if_neg (by omega)).trans ((if_neg (by omega)).trans ((if_neg (by omega)).trans ((if_neg (by omega)).trans
      (if_neg (by omega)))))
  simp [hlast, h2, h3, h4, h5, h6, hnone, hsome]

/-- Settles O35: the pending plan's stages are those of `takeEffect`, on the state whose wrap is taken. -/
theorem boundaryTakesPendingPlan : Obligations.BoundaryTakesPendingPlan := by
  refine ⟨fun number p s hs hdue hpending hrecord hc hn => ?_, fun s hs hdue hpending => ?_⟩
  · let s' := s.setTime { s.time with boundaryDue := false }
    have htaken : Frame [.time] s s' := frame_setTime s _
    have heffect : takeBoundary s' = takeEffect number p s' := takeBoundary_of_plan hpending hrecord
    have hexec := exec_referenceBoundary hs hdue
    rw [heffect] at hexec
    have hframe := frame_takeEffect number p s'
    refine ⟨_, formActive number p s', hexec, ?_, ?_, ?_, ?_⟩
    · exact (htaken.mono (by simp)).trans ((hframe.mono (by simp)).trans ((frame_settle s _).mono (by simp)))
    · rw [settle_time]
      exact hframe .time (by simp)
    · rw [settle_selector]
      rfl
    · have hin : PlanInEffect (formActive number p s') number p s' (settle s (takeEffect number p s')) :=
        planInEffect_of_takeEffect hc hn (settle_junctions ..) (settle_latched ..)
      exact hin.transfer ⟨rfl, rfl, rfl, rfl, rfl, rfl, rfl, rfl, rfl⟩ rfl rfl
  · let s' := s.setTime { s.time with boundaryDue := false }
    have htaken : Frame [.time] s s' := frame_setTime s _
    have hexec := exec_referenceBoundary hs hdue
    rw [takeBoundary_of_none (s := s') hpending, settle_of_subset (joined_of_clock htaken (by simp) id id)] at hexec
    exact ⟨s', hexec, rfl, htaken⟩

/-- Settles O36, block by block. -/
theorem boundaryTakesPlanZero : Obligations.BoundaryTakesPlanZero := by
  intro s hs hdue hpending
  let s' := s.setTime { s.time with boundaryDue := false }
  have htaken : Frame [.time] s s' := frame_setTime s _
  have hexec := exec_referenceBoundary hs hdue
  rw [takeBoundary_of_plan0 (s := s') hpending] at hexec
  have hframe := frame_takeEffectPlan0 (s := s') hpending
  refine ⟨_, hexec, ?_, by rw [settle_selector]; rfl, ?_, fun j old q hold hq => ?_, fun k => ?_, fun k => ?_, ?_⟩
  · exact (htaken.mono (by simp)).trans ((hframe.mono (by simp)).trans ((frame_settle s _).mono (by simp)))
  · simp [State.n, takeEffectPlan0, latch_eq, s']
  · rw [settle_junctions, takeEffectPlan0_junctions_get, show s'.junctions[j]? = some old from hold] at hq
    obtain rfl := Option.some.inj hq
    exact plan0Effect_spec _ _
  · rw [settle_platoons]
    exact (retireAll_get ..).trans (retire_eq ..)
  · rw [settle_priorities]
    exact (retireAll_get ..).trans (retire_eq ..)
  · rw [settle_latched]
    rfl

end Sys2Proof.Proofs
end

section
/-! SUPPORT. The layout of the payloads (12.1, R172): presence bytes and slices; what the reads of the time base, of the
corridor table, of the schedule and of the records answer (R6, R16, R21, R23, R26, R51, R122, R136). -/

namespace Sys2Proof.Machine

open Sys2Proof.Safety

/-! ## Slices of a payload -/

theorem slice_append_left {a b : List Byte} {n : Nat} (h : a.length = n) : slice (a ++ b) 0 n = a := by
  simp [slice, ← h]

theorem slice_append_right {a b : List Byte} {m n : Nat} (h : a.length ≤ m) :
    slice (a ++ b) m n = slice b (m - a.length) n := by
  simp [slice, List.drop_append, List.drop_of_length_le h]

theorem slice_mid {a b c : List Byte} {m n : Nat} (ha : a.length = m) (hb : b.length = n) :
    slice (a ++ (b ++ c)) m n = b := by
  rw [slice_append_right ha.le, ha, Nat.sub_self, slice_append_left hb]

/-! ## Presence bytes (R172) -/

theorem testBit_foldr (bits : List Bool) (i : Nat) :
    (bits.foldr (fun (b : Bool) acc => b.toNat + 2 * acc) 0).testBit i = bits.getD i false := by
  induction bits generalizing i with
  | nil => simp
  | cons b bits ih =>
    rw [List.foldr_cons]
    cases i with
    | zero => cases b <;> simp [Nat.testBit_zero, Nat.add_mod]
    | succ i =>
      rw [Nat.testBit_succ, List.getD_cons_succ, ← ih i]
      congr 1
      have hb := Bool.toNat_le b
      omega

theorem packBits_getLsbD {bits : List Bool} {i : Nat} (hi : i < 8) : (packBits bits).getLsbD i = bits.getD i false := by
  rw [packBits, BitVec.getLsbD_ofNat, testBit_foldr]
  simp [hi]

theorem presenceBytes_of_le {bits : List Bool} (h0 : 0 < bits.length) (h : bits.length ≤ 8) :
    presenceBytes bits = [packBits bits] := by
  have hone : (bits.length + 7) / 8 = 1 := by omega
  simp [presenceBytes, hone, List.take_of_length_le h]

/-- The mark of the field at place `i`, across all presence bytes. -/
theorem presenceBytes_getLsbD {bits : List Bool} {i : Nat} (hi : i < 8 * ((bits.length + 7) / 8)) :
    ((presenceBytes bits).getD (i / 8) 0).getLsbD (i % 8) = bits.getD i false := by
  have hbyte : i / 8 < (bits.length + 7) / 8 := by omega
  have hget : (presenceBytes bits).getD (i / 8) 0 = packBits ((bits.drop (8 * (i / 8))).take 8) := by
    simp [presenceBytes, List.getD_eq_getElem?_getD, hbyte]
  rw [hget, packBits_getLsbD (Nat.mod_lt i (by omega))]
  have hplace : 8 * (i / 8) + i % 8 = i := Nat.div_add_mod i 8
  simp [List.getD_eq_getElem?_getD, List.getElem?_drop, Nat.mod_lt, hplace]

/-! ## Bytes of single fields (12.1) -/

theorem packBits_one (a : Bool) : packBits [a] = BitVec.ofNat 8 a.toNat := rfl

theorem packBits_two (a b : Bool) : packBits [a, b] = BitVec.ofNat 8 (a.toNat + 2 * b.toNat) := rfl

theorem packBits_three (a b c : Bool) : packBits [a, b, c] = BitVec.ofNat 8 (a.toNat + 2 * b.toNat + 4 * c.toNat) := by
  simp only [packBits, List.foldr_cons, List.foldr_nil]
  congr 1
  omega

theorem ctOf_eq (t : Ct) :
    ctOf t = [t.extractLsb' 24 8, t.extractLsb' 16 8, t.extractLsb' 8 8, t.extractLsb' 0 8] := by
  have hbyte (i : Nat) : t.extractLsb' i 8 = BitVec.ofNat 8 (t.toNat / 2 ^ i) := by
    rw [← Nat.shiftRight_eq_div_pow]
    rfl
  simp [hbyte, ctOf]

/-- The byte of a corridor stage (12.1). -/
def stageByte : Stage → Byte
  | .ready => 0
  | .clock => 1
  | .plan => 2
  | .locked => 3

theorem stageOf_eq (x : Stage) : stageOf x = [stageByte x] := by cases x <;> rfl

theorem attributesOf_eq (a : Attributes) : attributesOf a = [attributeByte a] := rfl

theorem contextStateOf_eq (c : Coordination) : contextStateOf c = stateBytes c := by
  cases c with
  | free cause => cases cause <;> rfl
  | seek w => rfl
  | inStep w => rfl
  | preempt start deadline r => cases r <;> rfl

/-! ## The time base (R6, R15, R16) -/

theorem readClockPayload_eq (s : State) : readClockPayload s = [BitVec.ofNat 8 s.time.clock.day,
    BitVec.ofNat 8 (s.time.clock.hour / 10 * 16 + s.time.clock.hour % 10),
    BitVec.ofNat 8 (s.time.clock.minute / 10 * 16 + s.time.clock.minute % 10),
    BitVec.ofNat 8 (s.time.clock.second / 10 * 16 + s.time.clock.second % 10),
    BitVec.ofNat 8 (16 * s.time.clock.valid.toNat + s.time.clock.tenth),
    s.time.ct.extractLsb' 24 8, s.time.ct.extractLsb' 16 8, s.time.ct.extractLsb' 8 8, s.time.ct.extractLsb' 0 8,
    BitVec.ofNat 8 s.time.syncLost.toNat] := by
  simp [readClockPayload, byteOf, bcdOf, flagOf, ctOf_eq, State.now]

theorem corridorStatusPayload_eq (s : State) : corridorStatusPayload s =
    [BitVec.ofNat 8 (s.selector.pendingPlan.isSome.toNat + 2 * s.activeRecord.isSome.toNat
        + 4 * s.selector.active.isSome.toNat),
      stageByte s.stage, BitVec.ofNat 8 s.activeNumber, BitVec.ofNat 8 (s.selector.pendingPlan.getD 0)] ++
    wordOf ((s.activeRecord.map fun ap => ap.2.c).getD 0) ++ wordOf ((s.selector.active.map ActivePlan.pRef).getD 0) ++
    [BitVec.ofNat 8 s.n, BitVec.ofNat 8 (s.junctions.countP fun j => j.state.isSeek),
      BitVec.ofNat 8 (s.junctions.countP fun j => j.state.isInStep),
      BitVec.ofNat 8 (s.junctions.countP fun j => j.state.isPreempt),
      BitVec.ofNat 8 (s.junctions.countP fun j => j.state.isFault)] := by
  simp [corridorStatusPayload, payloadOf, List.filter_cons, presenceBytes_of_le, packBits_three, stageOf_eq, byteOf, State.countJunctions]

/-- The corridor stage, told from the clock, the active plan and the junctions (R15). -/
theorem stageByte_eq (s : State) :
    (s.time.clock.valid = false → s.selector.active = none → stageByte s.stage = 0) ∧
    (s.time.clock.valid = true → s.selector.active = none → stageByte s.stage = 1) ∧
    (s.time.clock.valid = true → s.selector.active.isSome = true →
      stageByte s.stage = if (∃ j ∈ s.junctions, j.state.isInStep = true) ∧
        ∀ j ∈ s.junctions, j.state.isSeek = false ∧ j.state.isFault = false then 3 else 2) := by
  refine ⟨fun hclock hnone => ?_, fun hclock hnone => ?_, fun hclock hactive => ?_⟩
  · simp [State.stage, hclock, hnone, stageByte]
  · simp [State.stage, hclock, hnone, stageByte]
  · have hlocked : (s.selector.active.isSome && (s.anyJunction Coordination.isSeek || s.anyJunction Coordination.isInStep)
        && !s.anyJunction Coordination.isSeek && !s.anyJunction Coordination.isFault) = true ↔
        (∃ j ∈ s.junctions, j.state.isInStep = true) ∧
          ∀ j ∈ s.junctions, j.state.isSeek = false ∧ j.state.isFault = false := by
      simp only [hactive, State.anyJunction, Bool.and_eq_true, Bool.or_eq_true, Bool.not_eq_true', List.any_eq_true,
        List.any_eq_false, Bool.not_eq_true, true_and, imp_and, forall_and]
      constructor
      · rintro ⟨⟨⟨j, hj, hseek⟩ | hstep, hnoseek⟩, hnofault⟩
        · simp [hnoseek j hj] at hseek
        · exact ⟨hstep, hnoseek, hnofault⟩
      · exact fun ⟨hstep, hnoseek, hnofault⟩ => ⟨⟨.inr hstep, hnoseek⟩, hnofault⟩
    unfold State.stage
    simp only [hlocked]
    split
    · rfl
    · simp [hclock, hactive, stageByte]

/-! ## The corridor table (R21, R23, R26) -/

theorem readCorridorPayload_eq (s : State) : readCorridorPayload s =
    [BitVec.ofNat 8 ((s.selector.active.bind ActivePlan.entryIn).isSome.toNat +
      2 * (s.selector.active.bind ActivePlan.entryOut).isSome.toNat)] ++ corridorBytes s.n s.settings ++
      wordOf ((s.selector.active.bind ActivePlan.entryIn).getD 0) ++
      wordOf ((s.selector.active.bind ActivePlan.entryOut).getD 0) := by
  simp [readCorridorPayload, payloadOf, List.filter_cons, presenceBytes_of_le, packBits_two, byteOf, flagOf, corridorBytes]

theorem toList_of_four {α : Type} (v : Vector α 4) : v.toList = [v[0], v[1], v[2], v[3]] := by
  refine List.ext_getElem (by simp) fun i h1 h2 => ?_
  have hi : i < 4 := by simpa using h1
  interval_cases i <;> simp

theorem covers_eq (g : GroupRange) (j : Nat) : g.covers j = decide (g.first ≤ j ∧ j < g.first + g.count) := by
  simp [GroupRange.covers]

theorem getD_ite (c : Bool) (k : Nat) : (if c = true then some k else none).getD 0 = k * c.toNat := by cases c <;> simp

theorem isSome_ite (c : Bool) (k : Nat) : (if c = true then some k else none).isSome = c := by cases c <;> rfl

theorem packBits_seven (a b c d e f g : Bool) : packBits [a, b, c, d, e, f, g] = BitVec.ofNat 8
    (a.toNat + 2 * b.toNat + 4 * c.toNat + 8 * d.toNat + 16 * e.toNat + 32 * f.toNat + 64 * g.toNat) := by
  simp only [packBits, List.foldr_cons, List.foldr_nil]
  congr 1
  omega

theorem readJunctionPayload_eq (j : Nat) (q : Junction) (s : State) : readJunctionPayload j q s = junctionRead j q s := by
  have hgroups : s.groups.toList.zipIdx =
      [(s.groups[(0 : Fin 4)], 0), (s.groups[(1 : Fin 4)], 1), (s.groups[(2 : Fin 4)], 2), (s.groups[(3 : Fin 4)], 3)] :=
    congrArg List.zipIdx (toList_of_four s.groups)
  simp only [readJunctionPayload, hgroups, payloadOf, List.map_cons, List.map_nil, List.cons_append, List.nil_append,
    List.filter_cons, optWord_optional, item_optional, optByte_optional, if_true, List.filter_nil]
  simp only [Bool.false_eq_true, if_false, List.map_cons, List.map_nil, optWord_present, optByte_present, isSome_ite]
  rw [presenceBytes_of_le (by simp) (by simp), packBits_seven]
  simp only [List.flatMap_cons, List.flatMap_nil, optByte_bytes, getD_ite]
  simp [junctionRead, covers_eq, attributesOf_eq, byteOf]

/-! ## The schedule and the selector (R51, R52) -/

theorem forces_of_planForce {i : Input} {p : Nat} (h : i.func = .planForce p) :
    i.forces = if i.validated then some p else none := by
  simp [Input.forces, h]

theorem forces_of_no_force {i : Input} (h : ∀ p, i.func = .planForce p → i.validated = false) : i.forces = none := by
  unfold Input.forces
  split
  · next p hfunc => rw [h p hfunc]; rfl
  all_goals rfl

/-- The forcing input of the lowest index, told from the inputs. -/
theorem forced_of_forcing {x : Option (Fin 4 × Nat)} {s : State} (h : Forcing s x) :
    s.forced = x.map fun y => (y.1.val, y.2) := by
  cases x with
  | none => exact forced_eq_none fun k => forces_of_no_force (h k)
  | some y =>
    obtain ⟨k, p⟩ := y
    obtain ⟨hfunc, hvalidated, hlower⟩ := h
    have hforces : s.inputs[k].forces = some p := by rw [forces_of_planForce hfunc, hvalidated, if_pos rfl]
    exact forced_of_lowest hforces fun m hm => forces_of_no_force fun q => hlower m q hm

theorem readSchedulePayload_eq (e : ScheduleEntry) (s : State) : readSchedulePayload e s =
    [BitVec.ofNat 8 (s.forced.isSome.toNat + 2 * s.selector.lastEntry.isSome.toNat), BitVec.ofNat 8 e.enabled.toNat,
      BitVec.ofNat 8 e.days.toNat, BitVec.ofNat 8 e.hour, BitVec.ofNat 8 e.minute, BitVec.ofNat 8 e.plan,
      BitVec.ofNat 8 s.selector.scheduled, BitVec.ofNat 8 s.selector.holdOn.toNat, BitVec.ofNat 8 s.selector.holdPlan,
      BitVec.ofNat 8 ((s.forced.map Prod.fst).getD 0), BitVec.ofNat 8 s.selector.requested,
      BitVec.ofNat 8 (s.selector.lastEntry.getD 0)] := by
  simp [readSchedulePayload, payloadOf, List.filter_cons, presenceBytes_of_le, packBits_two, byteOf, flagOf]

/-! ## The records (R122, R136) -/

theorem classOf_eq (c : PriorityClass) : classOf c = [classByte c] := by cases c <;> rfl

theorem priorityBytes_eq (k : Fin 16) (gen : Fin 16) (r : Priority) :
    priorityBytes k.val gen.val r = priorityRecord k gen r := by
  cases h : r.grant with
  | none =>
    simp [priorityBytes, priorityRecord, identifierOf, byteOf, directionOf_eq, classOf_eq, packBits_one, flagOf, h, ctOf]
  | some g =>
    obtain ⟨kind, t⟩ := g
    cases kind <;>
      simp [priorityBytes, priorityRecord, identifierOf, byteOf, directionOf_eq, classOf_eq, packBits_one, flagOf, h,
        grantKindOf]

theorem platoonLook_eq {k : Fin 32} {gen : Fin 16} {r : Platoon} {q : Junction} {s : State}
    (hq : s.junctions[r.cur]? = some q) : platoonLook k gen.val r s =
      platoonRecord k gen r ++ [BitVec.ofNat 8 q.spillIn.isSome.toNat, BitVec.ofNat 8 q.spillOut.isSome.toNat] := by
  simp [platoonLook, platoonBytes_eq, hq, flagOf, byteOf]

theorem phaseOf_eq (x : Phase) : phaseOf x = [if x = .side then 1 else 0] := by cases x <;> rfl

theorem priorityLook_eq {k : Fin 16} {gen : Fin 16} {r : Priority} {q : Junction} {s : State}
    (hq : s.junctions[r.junction]? = some q) : priorityLook k gen.val r s =
      [BitVec.ofNat 8 q.cycle?.isSome.toNat] ++ priorityRecord k gen r ++ stateBytes q.state ++
        [if (q.cycle?.map Cycle.phase) = some .side then 1 else 0, BitVec.ofNat 8 q.lockout,
          BitVec.ofNat 8 q.granted.toNat] := by
  cases hc : q.cycle? <;>
    simp [priorityLook, payloadOf, List.filter_cons, presenceBytes_of_le, packBits_one, hq, hc, priorityBytes_eq,
      contextStateOf_eq, byteOf, flagOf, phaseOf_eq]

end Sys2Proof.Machine
end

section
/-! SUPPORT. READ PLAN and SET PLAN at the plan store (R32, R33), and the statement about them. -/

namespace Sys2Proof.Machine

open Sys2Proof.Safety

/-! ## Words in a row -/

theorem slice_slice {payload : List Byte} {m n i k : Nat} (h : i + k ≤ n) :
    slice (slice payload m n) i k = slice payload (m + i) k := by
  simp only [slice, List.drop_take, List.take_take, List.drop_drop]
  rw [Nat.min_eq_left (by omega)]

theorem slice_flatMap_wordOf {l : List Nat} {j x : Nat} (h : l[j]? = some x) :
    slice (l.flatMap wordOf) (2 * j) 2 = wordOf x := by
  induction l generalizing j with
  | nil => simp at h
  | cons y l ih =>
    cases j with
    | zero =>
      obtain rfl : y = x := by simpa using h
      exact slice_append_left rfl
    | succ j =>
      rw [List.flatMap_cons, slice_append_right (by simp)]
      exact ih (by simpa using h)

theorem eq_map_range {α : Type} {l : List α} {n : Nat} (h : l.length = n) (d : α) :
    l = (List.range n).map fun i => l.getD i d := by
  refine List.ext_getElem (by simp [h]) fun i h1 h2 => ?_
  simp [h1]

/-! ## READ PLAN (R33) -/

theorem offsetsOf_eq (s : State) (n : Nat) :
    s.offsetsOf n = (s.selector.active.bind fun a => if a.number = n then some a.offsets else none).getD [] := by
  unfold State.offsetsOf
  cases s.selector.active with
  | none => rfl
  | some a =>
    show (if a.number = n then a.offsets else []) = _
    by_cases h : a.number = n <;> simp [h]

/-- The marks of READ PLAN: one for each of the 38 fields of the record, one for each of the 24 offsets. -/
def planMarks (record : Option Plan) (offsets : List Nat) : List Bool :=
  List.replicate 38 record.isSome ++ (List.range 24).map fun j => decide (j < offsets.length)

theorem planMarks_getD (record : Option Plan) (offsets : List Nat) (i : Nat) :
    (planMarks record offsets).getD i false =
      if i < 38 then record.isSome else decide (i < 62 ∧ i - 38 < offsets.length) := by
  have hmarked : (List.replicate 38 record.isSome).length = 38 := List.length_replicate
  unfold planMarks
  split
  · next h =>
    rw [List.getD_append _ _ _ _ (by omega)]
    rw [List.getD_eq_getElem?_getD, List.getElem?_replicate, if_pos h]
    rfl
  · next h =>
    rw [List.getD_append_right _ _ _ _ (by omega), hmarked]
    by_cases hi : i < 62
    · have hlt : i - 38 < 24 := by omega
      simp [List.getD_eq_getElem?_getD, hlt, hi]
    · have hge : ¬ i - 38 < 24 := by omega
      simp [List.getD_eq_getElem?_getD, hge, hi]

/-- The fields of READ PLAN, behind the byte of an empty record. -/
def planFields (record : Option Plan) : List Byte :=
  match record with
  | none => 1 :: List.replicate 68 0
  | some p => 0 :: planBytes p

theorem planFields_length (record : Option Plan) : (planFields record).length = 69 := by
  cases record with
  | none => rfl
  | some p => simp [planFields, planBytes, Config.maxJunctions]

/-- The offsets of READ PLAN, 0 where there is none. -/
def planOffsetWords (offsets : List Nat) : List Nat := (List.range 24).map fun j => offsets[j]?.getD 0

theorem splits_eq (p : Plan) : (List.range 24).flatMap (fun j => wordOf (p.split j)) = p.g.toList.flatMap wordOf := by
  have hlist : p.g.toList = (List.range 24).map fun j => p.split j :=
    eq_map_range (by simp [Config.maxJunctions]) 0
  rw [hlist, List.flatMap_map]

theorem isSome_get_eq {α : Type} (l : List α) (j : Nat) : l[j]?.isSome = decide (j < l.length) := by
  by_cases h : j < l.length <;> simp [h]

theorem readPlanPayload_eq (n : Nat) (record : Option Plan) (s : State) : readPlanPayload n record s =
    presenceBytes (planMarks record (s.offsetsOf n)) ++ (planFields record ++
      (byteOf (s.planRole n) ++ (planOffsetWords (s.offsetsOf n)).flatMap wordOf)) := by
  have hwords : (planOffsetWords (s.offsetsOf n)).flatMap wordOf =
      ((List.range 24).map fun j => optWord (s.offsetsOf n)[j]?).flatMap Item.bytes := by
    simp only [planOffsetWords, List.flatMap_map, optWord_bytes]
  have hmarks : ((List.range 24).map fun j => decide (j < (s.offsetsOf n).length)) =
      (List.range 24).map fun j => (optWord (s.offsetsOf n)[j]?).present := by
    simp only [optWord_present, isSome_get_eq]
  rw [readPlanPayload, payloadOf, hwords, planMarks, hmarks]
  cases record with
  | none =>
    congr 1
  | some p =>
    congr 1
    simp only [List.flatMap_append, planFields, planBytes, ← splits_eq]
    simp [List.flatMap_map, flagOf, byteOf, Config.maxJunctions]

theorem planRead (n : Nat) (record : Option Plan) (s : State) : PlanRead n record s (readPlanPayload n record s) := by
  have hmarks : (planMarks record (s.offsetsOf n)).length = 62 := by simp [planMarks]
  have hpresence : (presenceBytes (planMarks record (s.offsetsOf n))).length = 8 := by
    rw [presenceBytes_length, hmarks]
  refine ⟨readPlanPayload_length .., fun i hi => ?_, ?_, ?_, fun j => ?_⟩
  all_goals rw [readPlanPayload_eq]
  · have hbyte : i / 8 < (presenceBytes (planMarks record (s.offsetsOf n))).length := by omega
    rw [List.getD_append _ _ _ _ hbyte, presenceBytes_getLsbD (by omega), ← offsetsOf_eq]
    exact planMarks_getD ..
  · rw [slice_mid hpresence (planFields_length record)]
    cases record <;> rfl
  · have hfront : (presenceBytes (planMarks record (s.offsetsOf n)) ++ planFields record).length = 77 := by
      rw [List.length_append, hpresence, planFields_length]
    rw [← List.append_assoc, slice_mid hfront (byteOf_length _)]
    simp [byteOf, State.planRole, apply_ite (BitVec.ofNat 8)]
  · rw [← offsetsOf_eq, slice_append_right (by omega), slice_append_right (by rw [planFields_length]; omega),
      slice_append_right (by rw [planFields_length, byteOf_length]; omega), hpresence, planFields_length, byteOf_length]
    have hplace : 78 + 2 * j.val - 8 - 69 - 1 = 2 * j.val := by omega
    rw [hplace]
    exact slice_flatMap_wordOf (by simp [planOffsetWords])

/-! ## SET PLAN (R32) -/

theorem inRange_iff (p : Plan) : p.inRange = true ↔ PlanInRange p := by
  have hsplits : (p.g.toList.all fun g => decide (50 ≤ g) && decide (g ≤ 2350)) = true ↔
      ∀ j : Fin 24, 50 ≤ p.g[j] ∧ p.g[j] ≤ 2350 := by
    simp only [List.all_eq_true, Bool.and_eq_true, decide_eq_true_eq]
    constructor
    · exact fun h j => h _ (Vector.mem_toList_iff.mpr (Vector.getElem_mem j.isLt))
    · intro h g hg
      obtain ⟨i, hi, rfl⟩ := Vector.getElem_of_mem (Vector.mem_toList_iff.mp hg)
      exact h ⟨i, hi⟩
  unfold Plan.inRange
  simp only [Bool.and_eq_true, hsplits, decide_eq_true_eq]
  constructor
  · rintro ⟨⟨⟨⟨⟨⟨⟨⟨⟨⟨⟨⟨⟨⟨⟨⟨⟨⟨h1, h2⟩, h3⟩, h4⟩, h5⟩, h6⟩, h7⟩, h8⟩, h9⟩, h10⟩, h11⟩, h12⟩, h13⟩, h14⟩, h15⟩, h16⟩, h17⟩, h18⟩, h19⟩
    exact ⟨⟨h1, h2⟩, h3, h4, h5, ⟨h6, h7⟩, ⟨h8, h9⟩, h10, h11, h12, ⟨h13, h14⟩, h15, h16, h17, h18, h19⟩
  · rintro ⟨⟨h1, h2⟩, h3, h4, h5, ⟨h6, h7⟩, ⟨h8, h9⟩, h10, h11, h12, ⟨h13, h14⟩, h15, h16, h17, h18, h19⟩
    exact ⟨⟨⟨⟨⟨⟨⟨⟨⟨⟨⟨⟨⟨⟨⟨⟨⟨⟨h1, h2⟩, h3⟩, h4⟩, h5⟩, h6⟩, h7⟩, h8⟩, h9⟩, h10⟩, h11⟩, h12⟩, h13⟩, h14⟩, h15⟩, h16⟩, h17⟩, h18⟩, h19⟩

theorem at16_eq (ps : List Byte) (i : Nat) : at16 ps i = num16 ps i := by
  simp only [at16, word16, num16]
  omega

/-- The two bytes of a number at its place. -/
theorem wordOf_num16 (ps : List Byte) (i : Nat) : wordOf (num16 ps i) = [ps.getD i 0, ps.getD (i + 1) 0] := by
  have hhigh : (256 * (ps.getD i 0).toNat + (ps.getD (i + 1) 0).toNat) / 256 = (ps.getD i 0).toNat := by omega
  have hlow : BitVec.ofNat 8 (256 * (ps.getD i 0).toNat + (ps.getD (i + 1) 0).toNat) = ps.getD (i + 1) 0 := by
    refine BitVec.eq_of_toNat_eq ?_
    rw [BitVec.toNat_ofNat]
    omega
  rw [wordOf, num16, hhigh, hlow, BitVec.ofNat_toNat, BitVec.setWidth_eq]

theorem byte_num8 (ps : List Byte) (i : Nat) : BitVec.ofNat 8 (num8 ps i) = ps.getD i 0 := by
  rw [num8, BitVec.ofNat_toNat, BitVec.setWidth_eq]

section
variable {ps : List Byte} {p : Plan} {s : State}

theorem parseSetPlan_of_carries (hlength : ps.length = 69) (h : CarriesPlan ps p) :
    parseSetPlan ps = some (num8 ps 0, p) := by
  have hsplits : p.g = ⟨((List.range Config.maxJunctions).map fun j => at16 ps (21 + 2 * j)).toArray, by simp⟩ := by
    refine Vector.ext fun i hi => ?_
    simpa [at16_eq] using h.g ⟨i, hi⟩
  unfold parseSetPlan
  rw [if_pos hlength]
  obtain ⟨c, b, w, o0, vIn, vOut, s, hIn, hOut, k, xMax, eMax, m, r, g⟩ := p
  simp only at hsplits
  simp only [Option.some.injEq, Prod.mk.injEq, Plan.mk.injEq, at16_eq]
  exact ⟨rfl, h.c.symm, h.b.symm, h.w.symm, h.o0.symm, h.vIn.symm, h.vOut.symm, h.s.symm, h.hIn.symm, h.hOut.symm,
    h.k.symm, h.xMax.symm, h.eMax.symm, h.m.symm, h.r.symm, by simpa only [at16_eq] using hsplits.symm⟩

/-- The fields of the record are the parameter bytes behind the plan number. -/
theorem planBytes_of_carries (hlength : ps.length = 69) (h : CarriesPlan ps p) : planBytes p = ps.drop 1 := by
  have hsplits : p.g.toList = (List.range 24).map fun j => num16 ps (21 + 2 * j) := by
    refine List.ext_getElem (by simp [Config.maxJunctions]) fun i h1 h2 => ?_
    have hi : i < 24 := by simpa [Config.maxJunctions] using h1
    simpa using h.g ⟨i, hi⟩
  have hdrop : ps.drop 1 = (List.range 68).map fun i => ps.getD (i + 1) 0 := by
    have hrest := eq_map_range (l := ps.drop 1) (n := 68) (by simp [hlength]) 0
    simpa [List.getD_eq_getElem?_getD, Nat.add_comm] using hrest
  rw [hdrop, planBytes, hsplits, h.c, h.b, h.w, h.o0, h.vIn, h.vOut, h.s, h.hIn, h.hOut, h.k, h.xMax, h.eMax, h.m, h.r]
  simp only [wordOf_num16, byte_num8, List.flatMap_map]
  rfl

theorem serve_setPlan (hopen : EditsOpen s) (hlength : ps.length = 69) (h : CarriesPlan ps p) :
    serve (requestOf 0x18 ps) s = ownSetPlan (num8 ps 0, p) s :=
  serve_edit (q := reqSetPlan ps) (by simp [reqSetPlan, parseSetPlan_of_carries hlength h]) hopen

theorem planIndex_eq_none {n : Nat} : planIndex n = none ↔ n = 0 ∨ 8 < n := by
  refine ⟨fun h => ?_, fun h => Option.eq_none_iff_forall_ne_some.mpr fun k hk => ?_⟩
  · by_contra hn
    have hk := planIndex_eq_some.mpr (show n = (⟨n - 1, show n - 1 < 8 by omega⟩ : Fin Config.planCount).val + 1 by
      show n = n - 1 + 1
      omega)
    simp [h] at hk
  · have hn := planIndex_eq_some.mp hk
    have hlt : k.val < 8 := k.isLt
    omega

variable {n : Nat}

theorem ownSetPlan_of_out_of_range (h : n = 0 ∨ 8 < n) : ownSetPlan (n, p) s = refuse .outOfRange s := by
  simp [ownSetPlan, planIndex_eq_none.mpr h]

variable {k : Fin 8}

theorem ownSetPlan_of_in_use (hk : n = k.val + 1) (h : n = s.activeNumber ∨ s.selector.pendingPlan = some n) :
    ownSetPlan (n, p) s = refuse .inUse s := by
  simp [ownSetPlan, planIndex_eq_some.mpr hk, h]

theorem ownSetPlan_of_free (hk : n = k.val + 1) (hactive : n ≠ s.activeNumber) (hpending : s.selector.pendingPlan ≠ some n) :
    ownSetPlan (n, p) s =
      if p.inRange then done .none [] (s.setPlans (put s.plans k (some p))) else refuse .outOfRange s := by
  simp [ownSetPlan, planIndex_eq_some.mpr hk, hactive, hpending]

theorem planRecord_put_eq (k : Fin 8) (p : Plan) (s : State) (m : Nat) :
    (s.setPlans (put s.plans k (some p))).planRecord m = if m = k.val + 1 then some p else s.planRecord m := by
  split
  · next h =>
    subst h
    have hindex : index? Config.planCount k.val = some k := index?_eq_some.mpr rfl
    simp only [State.planRecord, Nat.add_one_ne_zero, if_false, Nat.add_sub_cancel, hindex, Option.bind_some,
      State.setPlans_plans]
    rw [put_get, if_pos rfl]
  · next h => exact planRecord_put h

end

/-- READ PLAN of a number 1 to 8. -/
theorem readPlan_reads {s : State} (hs : Idle s) (k : Fin 8) :
    Reads (.readPlan [BitVec.ofNat 8 (k.val + 1)]) s 0x19 (PlanRead (k.val + 1) s.plans[k] s) := by
  refine reads_of_owner (payload := readPlanPayload (k.val + 1) s.plans[k] s) hs rfl rfl ?_ (planRead ..)
  show ownReadPlan (BitVec.ofNat 8 (k.val + 1)).toNat s = _
  have hbyte : (BitVec.ofNat 8 (k.val + 1)).toNat = k.val + 1 := by
    rw [BitVec.toNat_ofNat]
    omega
  simp only [ownReadPlan, hbyte, planIndex_eq_some.mpr rfl]

/-- A part that runs is ready for the next request once its result has been read. -/
theorem idle_released {l : List Block} {s t : State} (hs : Running s) (h : Frame l s t) (hl : .hold ∉ l) :
    Idle (released t) := ⟨(h .hold hl).trans hs, rfl⟩

end Sys2Proof.Machine

namespace Sys2Proof.Proofs

open Sys2Proof.Machine Sys2Proof.Safety

/-- Settles O32: the bytes give the fields back, the checks run in their order, and the record is read as stored. -/
theorem setPlanStoresRecord : Obligations.SetPlanStoresRecord := by
  refine ⟨fun ps p s hs hopen hlength hcarries => ?_, inRange_iff⟩
  intro n
  have hserve := serve_setPlan hopen hlength hcarries
  refine ⟨parseSetPlan_of_carries hlength hcarries, fun hn => ?_, fun h1 h8 huse => ?_, fun h1 h8 hactive hpending hrange => ?_,
    fun h1 h8 hactive hpending hrange => ?_⟩
  · exact refuses_of_owner hs rfl rfl (hserve.trans (ownSetPlan_of_out_of_range hn))
  all_goals
    obtain ⟨k, hk⟩ : ∃ k : Fin 8, n = k.val + 1 := ⟨⟨n - 1, by omega⟩, by simp only; omega⟩
  · exact refuses_of_owner hs rfl rfl (hserve.trans (ownSetPlan_of_in_use hk huse))
  · refine refuses_of_owner hs rfl rfl (hserve.trans ((ownSetPlan_of_free hk hactive hpending).trans (if_neg ?_)))
    rwa [inRange_iff]
  · have haccept := hserve.trans ((ownSetPlan_of_free hk hactive hpending).trans (if_pos ((inRange_iff p).mpr hrange)))
    obtain ⟨t, hexec, hanswer, hut, hst⟩ :=
      answers_of_quiet_owner (c := .setPlan ps) hs rfl rfl haccept (frame_setPlans s _) (by simp [Quiet])
    have hplans : t.plans = put s.plans k (some p) := hut .plans (by simp)
    obtain ⟨u, payload, hread, hreads, -, hpayload⟩ := readPlan_reads (idle_released hs.1 hst (by simp)) k
    obtain ⟨-, -, hfields, -⟩ := hpayload
    have hstored : (released t).plans[k] = some p := by
      show t.plans[k] = _
      rw [hplans, put_get, if_pos rfl]
    rw [hstored] at hfields
    refine ⟨t, hexec, hanswer, hst.mono (by simp), fun i => ?_, fun m => ?_, u, payload, hk ▸ hread, hreads, ?_, ?_⟩
    · rw [hplans, put_get]
      by_cases hi : i = k
      · simp [hi, hk]
      · have hne : ¬ i.val + 1 = n := by omega
        simp [hi, hne]
    · rw [hk, ← planRecord_put_eq k p s m]
      simp only [State.planRecord, hplans, State.setPlans_plans]
    · rw [← slice_slice (m := 8) (n := 69) (i := 0) (by omega), hfields]
      rfl
    · rw [← slice_slice (m := 8) (n := 69) (i := 1) (by omega), hfields, ← planBytes_of_carries hlength hcarries]
      exact List.take_of_length_le (by simp [planBytes, Config.maxJunctions])

end Sys2Proof.Proofs
end

section
/-! SUPPORT. READ INPUTS (R147), the look-ups and reads at the port, and the statement about them. -/

namespace Sys2Proof.Machine

open Sys2Proof.Safety

/-! ## READ INPUTS (R147) -/

/-- The byte of an input function (12.1). -/
def functionByte : InputFunction → Byte
  | .none => 0
  | .editEnable => 1
  | .corridorFree => 2
  | .planForce _ => 3

theorem functionBytes_eq (f : InputFunction) : functionBytes f = [functionByte f, BitVec.ofNat 8 (inputPlan f)] := by
  cases f <;> rfl

theorem inputFunctionOf_eq (f : InputFunction) : inputFunctionOf f = [functionByte f] := by cases f <;> rfl

theorem polarityOf_eq (p : Polarity) : polarityOf p = [if p = .activeLow then 0 else 1] := by cases p <;> rfl

theorem flagOf_eq (b : Bool) : flagOf b = [if b then 1 else 0] := by cases b <;> rfl

theorem lampOf_eq (s : State) : lampOf s.lampPattern =
    [if s.time.clock.valid = false ∨ ∃ j ∈ s.junctions, j.state = .free .fault then 3
     else if ∃ j ∈ s.junctions, j.state.isSeek = true ∨ j.state.isPreempt = true then 2
     else if s.selector.active.isSome = true ∧ ∃ j ∈ s.junctions, j.state.isInStep = true then 1 else 0] := by
  rw [lampPattern_eq]
  split_ifs <;> rfl

theorem forall_mem_toList {α : Type} {n : Nat} {v : Vector α n} {p : α → Prop} :
    (∀ x ∈ v.toList, p x) ↔ ∀ k : Fin n, p v[k] := by
  constructor
  · exact fun h k => h _ (Vector.mem_toList_iff.mpr (Vector.getElem_mem k.isLt))
  · intro h x hx
    obtain ⟨i, hi, rfl⟩ := Vector.getElem_of_mem (Vector.mem_toList_iff.mp hx)
    exact h ⟨i, hi⟩

theorem exists_mem_toList {α : Type} {n : Nat} {v : Vector α n} {p : α → Prop} :
    (∃ x ∈ v.toList, p x) ↔ ∃ k : Fin n, p v[k] := by
  have h := not_congr (forall_mem_toList (v := v) (p := fun x => ¬ p x))
  simpa only [not_forall, not_not, exists_prop] using h

theorem editGate_iff (s : State) : s.editGate = true ↔ (∀ k : Fin 4, s.inputs[k].func ≠ .editEnable) ∨
    ∃ k : Fin 4, s.inputs[k].func = .editEnable ∧ s.inputs[k].validated = true := by
  simp only [State.editGate, Bool.or_eq_true, List.all_eq_true, List.any_eq_true, forall_mem_toList, exists_mem_toList,
    Input.asserts, Bool.and_eq_true, beq_iff_eq, bne_iff_ne]
  simp only [and_comm]

theorem packBits_six (a b c d e f : Bool) : packBits [a, b, c, d, e, f] = BitVec.ofNat 8
    (a.toNat + 2 * b.toNat + 4 * c.toNat + 8 * d.toNat + 16 * e.toNat + 32 * f.toNat) := by
  simp only [packBits, List.foldr_cons, List.foldr_nil]
  congr 1
  omega

/-- The two bytes of the forcing input and its plan. -/
def forcingBytes (x : Option (Fin 4 × Nat)) : List Byte :=
  [BitVec.ofNat 8 ((x.map fun y => y.1.val).getD 0), BitVec.ofNat 8 ((x.map Prod.snd).getD 0)]

/-- The items of READ INPUTS, kind by kind. -/
theorem readInputsPayload_eq {x : Option (Fin 4 × Nat)} {s : State} (h : Forcing s x) : readInputsPayload s =
    [BitVec.ofNat 8 (s.inputs[(0 : Fin 4)].runStart.isSome.toNat + 2 * s.inputs[(1 : Fin 4)].runStart.isSome.toNat +
      4 * s.inputs[(2 : Fin 4)].runStart.isSome.toNat + 8 * s.inputs[(3 : Fin 4)].runStart.isSome.toNat +
      48 * x.isSome.toNat)] ++
    (s.inputs.toList.flatMap (fun i => functionBytes i.func) ++
    (s.inputs.toList.flatMap (fun i => [if i.polarity = .activeLow then (0 : Byte) else 1]) ++
    (s.inputs.toList.flatMap (fun i => [BitVec.ofNat 8 i.assertTime]) ++
    (s.inputs.toList.flatMap (fun i => [BitVec.ofNat 8 i.releaseTime]) ++
    (s.inputs.toList.flatMap (fun i => [if i.raw = .high then (1 : Byte) else 0]) ++
    (s.inputs.toList.flatMap (fun i => [if activeUnder i.polarity i.raw then (1 : Byte) else 0]) ++
    (s.inputs.toList.flatMap (fun i => [if i.validated then (1 : Byte) else 0]) ++
    (s.inputs.toList.flatMap (fun i => ctOf (i.runStart.getD 0)) ++
    (flagOf s.editGate ++ (flagOf s.corridorFree ++ (forcingBytes x ++ lampOf s.lampPattern))))))))))) := by
  have hfour : s.inputs.toList =
      [s.inputs[(0 : Fin 4)], s.inputs[(1 : Fin 4)], s.inputs[(2 : Fin 4)], s.inputs[(3 : Fin 4)]] := toList_of_four s.inputs
  have hbits (a b c d e : Bool) : packBits [a, b, c, d, e, e] =
      BitVec.ofNat 8 (a.toNat + 2 * b.toNat + 4 * c.toNat + 8 * d.toNat + 48 * e.toNat) := by
    rw [packBits_six]
    congr 1
    omega
  unfold readInputsPayload
  rw [forced_of_forcing h, hfour]
  generalize s.inputs[(0 : Fin 4)] = i0, s.inputs[(1 : Fin 4)] = i1, s.inputs[(2 : Fin 4)] = i2, s.inputs[(3 : Fin 4)] = i3
  simp only [payloadOf, List.map_cons, List.map_nil, List.cons_append, List.nil_append, List.filter_cons,
    item_optional, optCt_optional, optByte_optional, Bool.false_eq_true, if_false, if_true, List.filter_nil]
  rw [presenceBytes_of_le (by simp) (by simp)]
  simp only [optCt_present, optByte_present, Option.isSome_map, hbits]
  cases x <;>
    simp [forcingBytes, functionBytes_eq, inputFunctionOf_eq, polarityOf_eq, byteOf, flagOf_eq, Input.rawActive_eq]

section
variable {α : Type} {l : List α} {f : α → List Byte} {w : Nat}

theorem flatMap_length (hw : ∀ x, (f x).length = w) : (l.flatMap f).length = w * l.length := by
  simp [List.length_flatMap, hw, Nat.mul_comm]

theorem slice_skip {a b : List Byte} {m n k : Nat} (ha : a.length = k) : slice (a ++ b) (k + m) n = slice b m n := by
  rw [slice_append_right (by omega), ha, Nat.add_sub_cancel_left]

/-- The item of the element at place `j` in a block of items of one width. -/
theorem slice_block {b : List Byte} {j : Nat} {x : α} (hw : ∀ x, (f x).length = w) (h : l[j]? = some x) :
    slice (l.flatMap f ++ b) (w * j) w = f x := by
  induction l generalizing j with
  | nil => simp at h
  | cons y l ih =>
    rw [List.flatMap_cons, List.append_assoc]
    cases j with
    | zero =>
      obtain rfl : y = x := by simpa using h
      exact slice_append_left (hw y)
    | succ j =>
      rw [Nat.mul_succ, Nat.add_comm, slice_skip (hw y)]
      exact ih (by simpa using h)

end

theorem inputsRead {x : Option (Fin 4 × Nat)} {s : State} (h : Forcing s x) : InputsRead x s (readInputsPayload s) := by
  have hblock {f : Input → List Byte} {w : Nat} (hw : ∀ i, (f i).length = w) :
      (s.inputs.toList.flatMap f).length = w * 4 := by
    rw [flatMap_length hw, Vector.length_toList]
  have hone {g : Input → Byte} : ∀ i, ([g i] : List Byte).length = 1 := fun _ => rfl
  have htwo : ∀ i : Input, (functionBytes i.func).length = 2 := fun i => by rw [functionBytes_eq]; rfl
  have hfour : ∀ i : Input, (ctOf (i.runStart.getD 0)).length = 4 := fun _ => rfl
  have hrest (m n : Nat) : slice (readInputsPayload s) (49 + m) n =
      slice (flagOf s.editGate ++ (flagOf s.corridorFree ++ (forcingBytes x ++ lampOf s.lampPattern))) m n := by
    rw [readInputsPayload_eq h,
      show 49 + m = 1 + (2 * 4 + (1 * 4 + (1 * 4 + (1 * 4 + (1 * 4 + (1 * 4 + (1 * 4 + (4 * 4 + m)))))))) by omega,
      slice_skip List.length_singleton, slice_skip (hblock htwo), slice_skip (hblock hone), slice_skip (hblock hone),
      slice_skip (hblock hone), slice_skip (hblock hone), slice_skip (hblock hone), slice_skip (hblock hone),
      slice_skip (hblock hfour)]
  refine ⟨readInputsPayload_length s, ?_, fun k => ?_, ?_, ?_, ?_, ?_⟩
  · rw [readInputsPayload_eq h]
    rfl
  · rw [readInputsPayload_eq h]
    have hget : s.inputs.toList[k.val]? = some s.inputs[k] := by
      simp
    refine ⟨?_, ?_, ?_, ?_, ?_, ?_, ?_, ?_⟩
    · rw [slice_skip List.length_singleton, slice_block htwo hget]
    · rw [show 9 + k.val = 1 + (2 * 4 + 1 * k.val) by omega, slice_skip List.length_singleton, slice_skip (hblock htwo),
        slice_block hone hget]
    · rw [show 13 + k.val = 1 + (2 * 4 + (1 * 4 + 1 * k.val)) by omega, slice_skip List.length_singleton,
        slice_skip (hblock htwo), slice_skip (hblock hone), slice_block hone hget]
    · rw [show 17 + k.val = 1 + (2 * 4 + (1 * 4 + (1 * 4 + 1 * k.val))) by omega, slice_skip List.length_singleton,
        slice_skip (hblock htwo), slice_skip (hblock hone), slice_skip (hblock hone), slice_block hone hget]
    · rw [show 21 + k.val = 1 + (2 * 4 + (1 * 4 + (1 * 4 + (1 * 4 + 1 * k.val)))) by omega,
        slice_skip List.length_singleton, slice_skip (hblock htwo), slice_skip (hblock hone), slice_skip (hblock hone),
        slice_skip (hblock hone), slice_block hone hget]
    · rw [show 25 + k.val = 1 + (2 * 4 + (1 * 4 + (1 * 4 + (1 * 4 + (1 * 4 + 1 * k.val))))) by omega,
        slice_skip List.length_singleton, slice_skip (hblock htwo), slice_skip (hblock hone), slice_skip (hblock hone),
        slice_skip (hblock hone), slice_skip (hblock hone), slice_block hone hget]
    · rw [show 29 + k.val = 1 + (2 * 4 + (1 * 4 + (1 * 4 + (1 * 4 + (1 * 4 + (1 * 4 + 1 * k.val)))))) by omega,
        slice_skip List.length_singleton, slice_skip (hblock htwo), slice_skip (hblock hone), slice_skip (hblock hone),
        slice_skip (hblock hone), slice_skip (hblock hone), slice_skip (hblock hone), slice_block hone hget]
    · rw [show 33 + 4 * k.val = 1 + (2 * 4 + (1 * 4 + (1 * 4 + (1 * 4 + (1 * 4 + (1 * 4 + (1 * 4 + 4 * k.val))))))) by omega,
        slice_skip List.length_singleton, slice_skip (hblock htwo), slice_skip (hblock hone), slice_skip (hblock hone),
        slice_skip (hblock hone), slice_skip (hblock hone), slice_skip (hblock hone), slice_skip (hblock hone),
        slice_block hfour hget]
  · rw [hrest 0, flagOf_eq]
    simp only [editGate_iff]
    rfl
  · rw [hrest 1, flagOf_eq s.corridorFree]
    simp only [corridorFree_eq_true]
    rfl
  · rw [hrest 2]
    cases x <;> rfl
  · rw [hrest 4, lampOf_eq]
    rfl

/-! ## The look-ups and reads at the port -/

section
variable {s : State}

theorem readJunction_reads (hs : Idle s) {j : Byte} {q : Junction} (hq : s.junctions[j.toNat]? = some q) :
    Reads (.readJunction [j]) s 0x13 (fun payload => payload = junctionRead j.toNat q s) := by
  refine reads_of_owner hs rfl rfl ?_ (readJunctionPayload_eq j.toNat q s)
  show ownReadJunction j.toNat s = _
  simp only [ownReadJunction, hq]

theorem readGroup_reads (hs : Idle s) (k : Fin 4) :
    Reads (.readGroup [BitVec.ofNat 8 k.val]) s 0x15 (fun payload => payload =
      [BitVec.ofNat 8 s.groups[k].first, BitVec.ofNat 8 s.groups[k].count, attributeByte s.groups[k].attrs]) := by
  refine reads_of_owner hs rfl rfl ?_ rfl
  show ownReadGroup (BitVec.ofNat 8 k.val).toNat s = _
  have hindex : index? Config.groupCount k.val = some k := index?_eq_some.mpr rfl
  simp only [ownReadGroup, byte_toNat_of_fin (by omega) k, hindex]
  rfl

theorem readScheduleEntry_reads (hs : Idle s) {x : Option (Fin 4 × Nat)} (hx : Forcing s x) (k : Fin 24) :
    Reads (.readScheduleEntry [BitVec.ofNat 8 k.val]) s 0x1B (fun payload =>
      let e := s.selector.schedule[k]
      payload = [BitVec.ofNat 8 (x.isSome.toNat + 2 * s.selector.lastEntry.isSome.toNat), BitVec.ofNat 8 e.enabled.toNat,
        BitVec.ofNat 8 e.days.toNat, BitVec.ofNat 8 e.hour, BitVec.ofNat 8 e.minute, BitVec.ofNat 8 e.plan,
        BitVec.ofNat 8 s.selector.scheduled, BitVec.ofNat 8 s.selector.holdOn.toNat, BitVec.ofNat 8 s.selector.holdPlan,
        BitVec.ofNat 8 ((x.map fun y => y.1.val).getD 0), BitVec.ofNat 8 s.selector.requested,
        BitVec.ofNat 8 (s.selector.lastEntry.getD 0)]) := by
  refine reads_of_owner (payload := readSchedulePayload s.selector.schedule[k] s) hs rfl rfl ?_ ?_
  · show ownReadScheduleEntry (BitVec.ofNat 8 k.val).toNat s = _
    have hindex : index? Config.scheduleCount k.val = some k := index?_eq_some.mpr rfl
    simp only [ownReadScheduleEntry, byte_toNat_of_fin (by omega) k, hindex]
  · rw [readSchedulePayload_eq, forced_of_forcing hx]
    cases x <;> rfl

theorem corridorStatus_reads (hs : Idle s) : Reads (.corridorStatus []) s 0x03 (fun payload => ∃ stage c0 c1 p0 p1, payload =
        [BitVec.ofNat 8 (s.selector.pendingPlan.isSome.toNat + 2 * s.activeRecord.isSome.toNat
            + 4 * s.selector.active.isSome.toNat),
          stage, BitVec.ofNat 8 s.activeNumber, BitVec.ofNat 8 (s.selector.pendingPlan.getD 0), c0, c1, p0, p1,
          BitVec.ofNat 8 s.n, BitVec.ofNat 8 (s.junctions.countP fun j => j.state.isSeek),
          BitVec.ofNat 8 (s.junctions.countP fun j => j.state.isInStep),
          BitVec.ofNat 8 (s.junctions.countP fun j => j.state.isPreempt),
          BitVec.ofNat 8 (s.junctions.countP fun j => j.state.isFault)] ∧
      (s.selector.active = none → [c0, c1, p0, p1] = [0, 0, 0, 0]) ∧
      (∀ a p, s.activeRecord = some (a, p) → [c0, c1] = wordOf p.c ∧ [p0, p1] = wordOf a.pRef) ∧
      (s.time.clock.valid = false → s.selector.active = none → stage = 0) ∧
      (s.time.clock.valid = true → s.selector.active = none → stage = 1) ∧
      (s.time.clock.valid = true → s.selector.active.isSome = true →
        stage = if (∃ j ∈ s.junctions, j.state.isInStep = true) ∧
            ∀ j ∈ s.junctions, j.state.isSeek = false ∧ j.state.isFault = false then 3 else 2)) := by
  refine reads_of_owner (payload := corridorStatusPayload s) hs rfl rfl rfl
    ⟨stageByte s.stage, _, _, _, _, corridorStatusPayload_eq s, fun hnone => ?_, fun a p hrecord => ?_, stageByte_eq s⟩
  · have hinactive : s.activeRecord = none := by rw [State.activeRecord, hnone]; rfl
    rw [hinactive, hnone]
    rfl
  · obtain ⟨hactive, -⟩ := active_of_activeRecord hrecord
    rw [hrecord, hactive]
    exact ⟨rfl, rfl⟩

theorem readPlatoon_reads (hs : Idle s) {k : Fin 32} {r : Platoon} {q : Junction} (hr : s.platoons[k].live = some r)
    (hq : s.junctions[r.cur]? = some q) :
    Reads (.readPlatoon [BitVec.ofNat 8 k.val, BitVec.ofNat 8 s.platoons[k].gen.val]) s 0x32 (fun payload => payload =
      platoonRecord k s.platoons[k].gen r ++
        [BitVec.ofNat 8 q.spillIn.isSome.toNat, BitVec.ofNat 8 q.spillOut.isSome.toNat]) := by
  refine reads_of_owner hs rfl rfl ((serve_readPlatoon_of_fin k s.platoons[k].gen s).trans ?_) (platoonLook_eq hq)
  simp only [ownReadPlatoon, resolve_of_live hr]

theorem readPriority_reads (hs : Idle s) {k : Fin 16} {r : Priority} {q : Junction} (hr : s.priorities[k].live = some r)
    (hq : s.junctions[r.junction]? = some q) :
    Reads (.readPriority [BitVec.ofNat 8 k.val, BitVec.ofNat 8 s.priorities[k].gen.val]) s 0x3A (fun payload => payload =
      [BitVec.ofNat 8 q.cycle?.isSome.toNat] ++ priorityRecord k s.priorities[k].gen r ++ stateBytes q.state ++
        [if (q.cycle?.map Cycle.phase) = some .side then 1 else 0, BitVec.ofNat 8 q.lockout,
          BitVec.ofNat 8 q.granted.toNat]) := by
  refine reads_of_owner hs rfl rfl ?_ (priorityLook_eq hq)
  show ownReadPriority ⟨(BitVec.ofNat 8 k.val).toNat, (BitVec.ofNat 8 s.priorities[k].gen.val).toNat⟩ s = _
  rw [byte_toNat_of_fin (by omega), byte_toNat_of_fin (by omega)]
  simp only [ownReadPriority, resolve_of_live hr]

end

end Sys2Proof.Machine

namespace Sys2Proof.Proofs

open Sys2Proof.Machine Sys2Proof.Safety

/-- Settles O28, read by read: what the owner answers, byte by byte. -/
theorem readsChangeOnlyThePort : Obligations.ReadsChangeOnlyThePort := by
  intro s hs
  refine ⟨reads_of_owner hs rfl rfl rfl (readClockPayload_eq s), corridorStatus_reads hs,
    reads_of_owner hs rfl rfl rfl (readCorridorPayload_eq s), fun j q => readJunction_reads hs, readGroup_reads hs,
    readPlan_reads hs, fun x hx => readScheduleEntry_reads hs hx, fun j hj => ?_, fun k r q => readPlatoon_reads hs,
    fun k r q => readPriority_reads hs, fun x hx => reads_of_owner hs rfl rfl rfl (inputsRead hx),
    reads_of_owner hs rfl rfl rfl (by simp [readAlertsPayload]), fun j hj => ?_, fun p hp => ?_, fun i hi => ?_⟩
  · refine reads_of_owner (payload := windowPayload j.toNat s.junctions[j.toNat] s) hs rfl rfl ?_ (windowPayload_length ..)
    show ownWindowQuery j.toNat s = _
    simp only [ownWindowQuery, List.getElem?_eq_getElem hj]
  · refine refuses_of_owner hs rfl rfl ?_
    show ownReadJunction j.toNat s = _
    simp only [ownReadJunction, List.getElem?_eq_none hj]
    rfl
  · refine refuses_of_owner hs rfl rfl ?_
    show ownReadPlan p.toNat s = _
    simp only [ownReadPlan, planIndex_eq_none.mpr hp]
    rfl
  · refine refuses_of_owner hs rfl rfl ?_
    show ownReadScheduleEntry i.toNat s = _
    have hindex : index? Config.scheduleCount i.toNat = none := dif_neg (by show ¬ i.toNat < 24; omega)
    simp only [ownReadScheduleEntry, hindex]
    rfl

end Sys2Proof.Proofs
end

section
/-! SUPPORT. The edits of the schedule and of the corridor table: SET SCHEDULE ENTRY (R50), SET CORRIDOR (R17 to R20),
SET JUNCTION (R22) and SET GROUP (R26 to R30), and the statements about them. -/

namespace Sys2Proof.Machine

open Sys2Proof.Safety

theorem ofNat_toNat_byte (b : Byte) : BitVec.ofNat 8 b.toNat = b := by
  rw [BitVec.ofNat_toNat, BitVec.setWidth_eq]

theorem index?_eq_none {n i : Nat} (h : n ≤ i) : index? n i = none := dif_neg (by omega)

/-- No source joins where no level condition comes up under one configuration of the alert unit. -/
theorem joined_of_levels {s t : State} (hconf : Block.alertConfig.same s t) (hport : t.port.state = s.port.state)
    (hlatched : t.alerts.latched = s.alerts.latched) (hvalid : s.time.clock.valid = true → t.time.clock.valid = true)
    (hlost : t.time.syncLost = true → s.time.syncLost = true)
    (hfault : t.junctionFault = true → s.junctionFault = true)
    (hpreempt : t.preemptActive = true → s.preemptActive = true) : joined s t = 0 := by
  refine joined_of_pendingSet_mono hconf fun i hi => ?_
  have hinvalid : (!t.time.clock.valid) = true → (!s.time.clock.valid) = true := by
    simpa using mt hvalid
  simp only [State.pendingSet, State.levelSet, State.resultReady, BitVec.getLsbD_or, Bool.or_eq_true, hlatched,
    hport] at hi ⊢
  exact hi.imp_left <| Or.imp_left <|
    Or.imp (Or.imp (Or.imp (onlyIf_getLsbD_mono hinvalid) (onlyIf_getLsbD_mono hlost)) (onlyIf_getLsbD_mono hfault))
      (onlyIf_getLsbD_mono hpreempt)

theorem anyJunction_iff {s : State} {test : Coordination → Bool} :
    s.anyJunction test = true ↔ ∃ (j : Nat) (q : Junction), s.junctions[j]? = some q ∧ test q.state = true := by
  simp only [State.anyJunction, List.any_eq_true, List.mem_iff_getElem?]
  exact ⟨fun ⟨q, ⟨j, hq⟩, h⟩ => ⟨j, q, hq, h⟩, fun ⟨j, q, hq, h⟩ => ⟨q, ⟨j, hq⟩, h⟩⟩

/-- A test of the junction states holds nowhere new where every junction that passes it passed it before. -/
theorem anyJunction_mono {s t : State} {test : Coordination → Bool}
    (h : ∀ (j : Nat) (q : Junction), t.junctions[j]? = some q → test q.state = true →
      ∃ old, s.junctions[j]? = some old ∧ test old.state = true) (ht : t.anyJunction test = true) :
    s.anyJunction test = true := by
  obtain ⟨j, q, hq, htest⟩ := anyJunction_iff.mp ht
  obtain ⟨old, hold, hold'⟩ := h j q hq htest
  exact anyJunction_iff.mpr ⟨j, old, hold, hold'⟩

/-! ## SET SCHEDULE ENTRY (R50) -/

section
variable {i e d h m p : Byte} {s : State}

theorem scheduleEntry_of_inRange (he : e.toNat ≤ 1) (hd : d.toNat < 128) (hh : h.toNat ≤ 23) (hm : m.toNat ≤ 59)
    (hp : p.toNat ≤ 8) : ScheduleFields.entry ⟨i.toNat, e.toNat, d.toNat, h.toNat, m.toNat, p.toNat⟩ =
      some ⟨e == 1, BitVec.ofNat 7 d.toNat, h.toNat, m.toNat, p.toNat⟩ := by
  have hdays : dayMask? d.toNat = some (BitVec.ofNat 7 d.toNat) := if_pos hd
  have hplan : p.toNat ≤ Config.planCount := hp
  simp only [ScheduleFields.entry, flag?_of_le he, hdays, hh, hm, hplan, decide_true, Bool.and_self, if_true]
  rfl

theorem scheduleEntry_of_out_of_range
    (hout : 1 < e.toNat ∨ 128 ≤ d.toNat ∨ 23 < h.toNat ∨ 59 < m.toNat ∨ 8 < p.toNat) :
    ScheduleFields.entry ⟨i.toNat, e.toNat, d.toNat, h.toNat, m.toNat, p.toNat⟩ = none := by
  unfold ScheduleFields.entry
  split
  · next en days hflag hmask =>
    have he : e.toNat ≤ 1 := by
      by_contra hgt
      simp [flag?_of_gt (Nat.lt_of_not_le hgt)] at hflag
    have hd : d.toNat < 128 := by
      by_contra hge
      simp [dayMask?, hge] at hmask
    refine if_neg ?_
    have hcount : Config.planCount = 8 := rfl
    simp only [Bool.and_eq_true, decide_eq_true_eq, hcount]
    omega
  · rfl

theorem ownSetScheduleEntry_of_entry {q : ScheduleFields} {k : Fin Config.scheduleCount} {entry : ScheduleEntry}
    (hk : index? Config.scheduleCount q.index = some k) (hentry : q.entry = some entry) : ownSetScheduleEntry q s =
      done .none [] (s.setSelector { s.selector with schedule := put s.selector.schedule k entry }) := by
  unfold ownSetScheduleEntry
  rw [hk, hentry]

theorem readScheduleEntry_stored (hs : Idle s) (k : Fin 24) {entry : ScheduleEntry}
    (hentry : s.selector.schedule[k] = entry) :
    Reads (.readScheduleEntry [BitVec.ofNat 8 k.val]) s 0x1B (fun payload => slice payload 1 5 =
      [BitVec.ofNat 8 entry.enabled.toNat, BitVec.ofNat 8 entry.days.toNat, BitVec.ofNat 8 entry.hour,
        BitVec.ofNat 8 entry.minute, BitVec.ofNat 8 entry.plan]) := by
  refine reads_of_owner (payload := readSchedulePayload entry s) hs rfl rfl ?_ ?_
  · show ownReadScheduleEntry (BitVec.ofNat 8 k.val).toNat s = _
    have hindex : index? Config.scheduleCount k.val = some k := index?_eq_some.mpr rfl
    simp only [ownReadScheduleEntry, byte_toNat_of_fin (by omega) k, hindex, ← hentry]
  · rw [readSchedulePayload_eq]
    rfl

end

end Sys2Proof.Machine

namespace Sys2Proof.Proofs

open Sys2Proof.Machine Sys2Proof.Safety

/-- Settles O41: an entry in range is stored whole and read back; a field out of range is refused. -/
theorem setScheduleEntryStoresEntry : Obligations.SetScheduleEntryStoresEntry := by
  intro i e d h m p s hs hopen
  have hserve : serve (requestOf 0x1A [i, e, d, h, m, p]) s =
      ownSetScheduleEntry ⟨i.toNat, e.toNat, d.toNat, h.toNat, m.toNat, p.toNat⟩ s :=
    serve_edit (q := reqSetScheduleEntry [i, e, d, h, m, p]) rfl hopen
  refine ⟨fun hi he hd hh hm hp => ?_, fun hout => refuses_of_owner hs rfl rfl (hserve.trans ?_)⟩
  · obtain ⟨k, hk⟩ : ∃ k : Fin 24, i.toNat = k.val := ⟨⟨i.toNat, hi⟩, rfl⟩
    have hindex : index? Config.scheduleCount i.toNat = some k := index?_eq_some.mpr hk
    have hbyte : i = BitVec.ofNat 8 k.val := by rw [← hk, ofNat_toNat_byte]
    have hown := ownSetScheduleEntry_of_entry (s := s) hindex (scheduleEntry_of_inRange he hd hh hm hp)
    obtain ⟨t, hexec, hanswer, hut, hst⟩ := answers_of_quiet_owner (c := .setScheduleEntry _) hs rfl rfl
      (hserve.trans hown) (frame_setSelector s _) (by simp [Quiet])
    have hselector := hut .selector (by simp)
    have hschedule (n : Fin 24) : t.selector.schedule[n] = if n = k then _ else s.selector.schedule[n] :=
      (congrArg (fun v => v.schedule[n]) hselector).trans (put_get ..)
    obtain ⟨u, payload, hread, hreads, -, hpayload⟩ := readScheduleEntry_stored
      (idle_released hs.1 hst (by simp)) k (show (released t).selector.schedule[k] = _ from (hschedule k).trans (if_pos rfl))
    refine ⟨t, hexec, hanswer, hst.mono (by simp), fun n => ?_, ?_, u, payload, hbyte ▸ hread, hreads, hpayload.trans ?_⟩
    · rw [hschedule n]
      simp only [Fin.ext_iff, hk]
    · rw [hselector]
      rfl
    · have hdays : BitVec.ofNat 8 (BitVec.ofNat 7 d.toNat).toNat = d := by
        rw [BitVec.toNat_ofNat, Nat.mod_eq_of_lt (by omega), ofNat_toNat_byte]
      have henabled : BitVec.ofNat 8 (e == 1).toNat = e := by
        obtain rfl | rfl := byte_cases_of_le_one he <;> rfl
      simp only [ofNat_toNat_byte, hdays, henabled]
  · unfold ownSetScheduleEntry
    obtain hi | hout := hout
    · rw [index?_eq_none hi]
      rfl
    · rw [scheduleEntry_of_out_of_range hout]
      cases index? Config.scheduleCount i.toNat <;> rfl

end Sys2Proof.Proofs
end

section
/-! SUPPORT. SET CORRIDOR (R17 to R20) and SET JUNCTION (R22), and the statements about them. -/

namespace Sys2Proof.Machine

open Sys2Proof.Safety

theorem word16_wordOf {x : Nat} (h : x ≤ 65535) : word16 (BitVec.ofNat 8 (x / 256)) (BitVec.ofNat 8 x) = x := by
  simp only [word16, BitVec.toNat_ofNat]
  omega

/-! ## SET CORRIDOR (R17 to R20) -/

section
variable {n e : Byte} {entryIn entryOut gm dl lm pmax ts : Nat}

theorem parseSetCorridor_raw (h : ∀ v ∈ [entryIn, entryOut, gm, dl, lm, pmax, ts], v ≤ 65535) :
    parseSetCorridor (rawCorridorBytes n entryIn entryOut gm dl lm pmax e ts) =
      some ⟨n.toNat, entryIn, entryOut, gm, dl, lm, pmax, e.toNat, ts⟩ := by
  simp only [List.forall_mem_cons] at h
  obtain ⟨h1, h2, h3, h4, h5, h6, h7, -⟩ := h
  simp [parseSetCorridor, rawCorridorBytes, wordOf, at8, at16, word16_wordOf, h1, h2, h3, h4, h5, h6, h7]

theorem corridorFields_eq_none
    (hout : n = 1 ∨ 24 < n.toNat ∨ 3000 < entryIn ∨ 3000 < entryOut ∨ gm < 10 ∨ 300 < gm ∨ dl < 100 ∨ 900 < dl ∨
      lm < 50 ∨ 1200 < lm ∨ pmax < 300 ∨ 6000 < pmax ∨ 1 < e.toNat ∨ ts < 1 ∨ 300 < ts) :
    CorridorFields.settings ⟨n.toNat, entryIn, entryOut, gm, dl, lm, pmax, e.toNat, ts⟩ = none := by
  unfold CorridorFields.settings
  split
  · rfl
  · next on hflag =>
    have he : e.toNat ≤ 1 := by
      by_contra hgt
      simp [flag?_of_gt (Nat.lt_of_not_le hgt)] at hflag
    replace hout := hout.imp_left fun h => show n.toNat = 1 by rw [h]; rfl
    refine if_neg ?_
    simp only [Bool.and_eq_true, decide_eq_true_eq, nInRange, Bool.or_eq_true, beq_iff_eq, Config.maxJunctions]
    omega

end

section
variable {n : Nat} {v : Settings} {s : State}

theorem corridorBytes_eq (n : Nat) (v : Settings) : corridorBytes n v =
    rawCorridorBytes (BitVec.ofNat 8 n) v.entryIn v.entryOut v.gm v.dl v.lm v.pmax (BitVec.ofNat 8 v.syncEnable.toNat)
      v.ts := rfl

theorem parseSetCorridor_corridorBytes (hn : n = 0 ∨ (2 ≤ n ∧ n ≤ 24)) (hv : SettingsInRange v) :
    parseSetCorridor (corridorBytes n v) =
      some ⟨n, v.entryIn, v.entryOut, v.gm, v.dl, v.lm, v.pmax, v.syncEnable.toNat, v.ts⟩ := by
  have hwords : ∀ x ∈ [v.entryIn, v.entryOut, v.gm, v.dl, v.lm, v.pmax, v.ts], x ≤ 65535 := by
    simp only [SettingsInRange] at hv
    simp only [List.forall_mem_cons, List.not_mem_nil, false_imp_iff, implies_true, and_true]
    omega
  have hcount : (BitVec.ofNat 8 n).toNat = n := by
    rw [BitVec.toNat_ofNat]
    omega
  have hsync : (BitVec.ofNat 8 v.syncEnable.toNat).toNat = v.syncEnable.toNat := by
    cases v.syncEnable <;> rfl
  rw [corridorBytes_eq, parseSetCorridor_raw hwords, hcount, hsync]

theorem corridorFields_eq_some (hn : n = 0 ∨ (2 ≤ n ∧ n ≤ 24)) (hv : SettingsInRange v) :
    CorridorFields.settings ⟨n, v.entryIn, v.entryOut, v.gm, v.dl, v.lm, v.pmax, v.syncEnable.toNat, v.ts⟩ = some v := by
  have hflag : flag? v.syncEnable.toNat = some v.syncEnable := by
    cases v.syncEnable <;> rfl
  unfold CorridorFields.settings
  simp only [hflag]
  refine if_pos ?_
  simp only [SettingsInRange] at hv
  simp only [Bool.and_eq_true, decide_eq_true_eq, nInRange, Bool.or_eq_true, beq_iff_eq, Config.maxJunctions]
  omega

variable {q : CorridorFields}

theorem ownSetCorridor_of_active (h : s.selector.active.isSome = true) : ownSetCorridor q s = refuse .inUse s :=
  if_pos h

theorem ownSetCorridor_of_out_of_range (hactive : s.selector.active = none) (h : q.settings = none) :
    ownSetCorridor q s = refuse .outOfRange s := by
  simp [ownSetCorridor, hactive, h]

theorem ownSetCorridor_of_in_range (hactive : s.selector.active = none) (h : q.settings = some v) :
    ownSetCorridor q s = if (s.junctions.drop q.n).any fun j => j.state.isPreempt then refuse .inUse s
      else done .none [] (applyCorridor v q.n s) := by
  simp [ownSetCorridor, hactive, h]

/-- What the corridor becomes, junction by junction (R19, R20). -/
theorem applyCorridor_resizes (hs : CorridorOk s) (v : Settings) {j : Nat} {q : Junction}
    (hq : (applyCorridor v n s).junctions[j]? = some q) : ResizedTo n s (applyCorridor v n s) j q := by
  have hq : (resize s.groups s.junctions n)[j]? = some q := hq
  have hj : j < n := resize_length s.groups s.junctions n ▸ (List.getElem?_eq_some_iff.mp hq).1
  refine ⟨fun old hold => ?_, fun hnew => ?_⟩
  · obtain ⟨-, -, hlink⟩ := geometryOk_of_corridorOk hs j old hold
    have hlast : j + 1 = s.junctions.length → old.link = none := by
      intro hend
      cases hl : old.link with
      | none => rfl
      | some l => simp [linkSuits, hl, hend] at hlink
    rw [resize_get_of_old hold hj hlast] at hq
    exact (Option.some.inj hq).symm
  · rw [resize_get_of_new (List.getElem?_eq_none_iff.mp hnew) hj] at hq
    exact (Option.some.inj hq).symm

theorem applyCorridor_time (v : Settings) (n : Nat) (s : State) : (applyCorridor v n s).time = { s.time with
    lastPulse := if !s.settings.syncEnable && v.syncEnable then s.time.ct else s.time.lastPulse
    syncLost := s.time.syncLost && !(s.settings.syncEnable && !v.syncEnable) } := by
  show s.time.enableSync s.settings.syncEnable v.syncEnable = _
  cases hwas : s.settings.syncEnable <;> cases his : v.syncEnable <;> simp [TimeBase.enableSync]

/-- A junction of the resized corridor in an alerting state stood there in that state before (R19, R20). -/
theorem applyCorridor_anyJunction {test : Coordination → Bool} (hexcluded : test (.free .excluded) = false)
    (hplan0 : test (.free .plan0) = false) (h : (applyCorridor v n s).anyJunction test = true) :
    s.anyJunction test = true := by
  refine anyJunction_mono (fun j q hq htest => ?_) h
  rcases resize_cases hq with ⟨old, hold, hstate⟩ | ⟨link, rfl⟩
  · exact ⟨old, hold, hstate ▸ htest⟩
  · unfold newJunction at htest
    cases hx : (effective s.groups j).exclude <;> simp [hx, hexcluded, hplan0] at htest

theorem joined_applyCorridor (v : Settings) (n : Nat) (s : State) : joined s (applyCorridor v n s) = 0 := by
  refine joined_of_levels ⟨rfl, rfl, rfl, rfl, rfl⟩ rfl rfl (fun hvalid => ?_) (fun hlost => ?_)
    (applyCorridor_anyJunction rfl rfl) (applyCorridor_anyJunction rfl rfl)
  · rwa [applyCorridor_time]
  · rw [applyCorridor_time] at hlost
    exact Bool.and_elim_left hlost

theorem readCorridor_stored (hs : Idle s) :
    Reads (.readCorridor []) s 0x11 (fun payload => slice payload 1 16 = corridorBytes s.n s.settings) := by
  refine reads_of_owner hs rfl rfl rfl ?_
  rw [readCorridorPayload_eq, List.append_assoc, List.append_assoc]
  exact slice_mid rfl rfl

end

/-! ## SET JUNCTION (R22) -/

section
variable {q : JunctionFields} {s : State}

theorem ownSetJunction_of_in_use (h : s.selector.active.isSome = true ∨ s.selector.pendingPlan.isSome = true) :
    ownSetJunction q s = refuse .inUse s := by
  have hplans : (s.selector.active.isSome || s.selector.pendingPlan.isSome) = true := by simpa using h
  simp [ownSetJunction, hplans]

section
variable (hactive : s.selector.active = none) (hpending : s.selector.pendingPlan = none)
include hactive hpending

theorem ownSetJunction_of_not_configured (h : s.n ≤ q.j) : ownSetJunction q s = refuse .notConfigured s := by
  simp [ownSetJunction, hactive, hpending, h]

theorem ownSetJunction_of_out_of_range (hj : q.j < s.n)
    (h : q.smin < 50 ∨ 1200 < q.smin ∨ (q.j + 1 = s.n ∧ q.link ≠ 0) ∨
      (q.j + 1 ≠ s.n ∧ (q.link < 20 ∨ 3000 < q.link))) : ownSetJunction q s = refuse .outOfRange s := by
  have hlow : ¬ s.n ≤ q.j := by omega
  unfold ownSetJunction
  simp only [hactive, hpending, Option.isSome_none, Bool.or_self, Bool.false_eq_true, if_false, if_neg hlow]
  split
  · next hsmin =>
    simp only [Bool.and_eq_true, decide_eq_true_eq] at hsmin
    have hlink : linkFor q.j s.n q.link = none := by
      unfold linkFor
      split
      · exact if_neg (by omega)
      · refine if_neg ?_
        simp only [Bool.and_eq_true, decide_eq_true_eq]
        omega
    rw [hlink]
  · rfl

theorem ownSetJunction_of_in_range {jn : Junction} (hjn : s.junctions[q.j]? = some jn) (hlow : 50 ≤ q.smin)
    (hhigh : q.smin ≤ 1200) (hlink : if q.j + 1 = s.n then q.link = 0 else 20 ≤ q.link ∧ q.link ≤ 3000) :
    ownSetJunction q s = done .none [] (s.setJunctions
      (s.junctions.set q.j { jn with link := if q.link = 0 then none else some q.link, smin := q.smin })) := by
  have hj : ¬ s.n ≤ q.j := Nat.not_le.mpr (List.getElem?_eq_some_iff.mp hjn).1
  have hfor : linkFor q.j s.n q.link = some (if q.link = 0 then none else some q.link) := by
    unfold linkFor
    split
    · next hend =>
      rw [if_pos hend] at hlink
      simp [hlink]
    · next hend =>
      rw [if_neg hend] at hlink
      have hpos : q.link ≠ 0 := by omega
      simp [hlink, hpos]
  simp [ownSetJunction, hactive, hpending, hj, hlow, hhigh, hfor, updateJunction_of_get hjn]

end

/-- READ JUNCTION shows the link length and the side minimum behind its presence byte (R23). -/
theorem readJunction_stored (hs : Idle s) {j : Byte} {q : Junction} (hq : s.junctions[j.toNat]? = some q) :
    Reads (.readJunction [j]) s 0x13
      (fun payload => slice payload 1 4 = wordOf (q.link.getD 0) ++ wordOf q.smin) := by
  obtain ⟨t, payload, hexec, hanswer, hframe, rfl⟩ := readJunction_reads hs hq
  exact ⟨t, _, hexec, hanswer, hframe, rfl⟩

end

end Sys2Proof.Machine

namespace Sys2Proof.Proofs

open Sys2Proof.Machine Sys2Proof.Safety

/-- Settles O29: the bytes give the settings back, the checks run in their order, and the resized corridor is the one of
R19 and R20. -/
theorem setCorridorResizes : Obligations.SetCorridorResizes := by
  have hserve {ps : List Byte} {q : CorridorFields} {s : State} (hopen : EditsOpen s) (h : parseSetCorridor ps = some q) :
      serve (requestOf 0x10 ps) s = ownSetCorridor q s :=
    serve_edit (q := reqSetCorridor ps) (by simp [reqSetCorridor, h]) hopen
  refine ⟨fun n v s hs hopen hcorridor hactive hn hv hfree => ?_, fun ps s hs hopen hlength hactive => ?_,
    fun n e entryIn entryOut gm dl lm pmax ts s hs hopen hactive hwords hout => ?_,
    fun n v s hs hopen hactive hn hv hpreempt => ?_⟩
  · have hnone : ((s.junctions.drop n).any fun j => j.state.isPreempt) = false := by
      simpa only [List.any_eq_false, Bool.not_eq_true] using hfree
    have haccept : serve (requestOf 0x10 (corridorBytes n v)) s = done .none [] (applyCorridor v n s) := by
      rw [hserve hopen (parseSetCorridor_corridorBytes hn hv),
        ownSetCorridor_of_in_range hactive (corridorFields_eq_some hn hv), hnone]
      rfl
    obtain ⟨t, hexec, hanswer, -, -, hquiet⟩ := answers_of_owner (c := .setCorridor _) hs rfl rfl haccept
      (frame_applyCorridor v n s)
    obtain ⟨hut, hst⟩ := hquiet (joined_applyCorridor v n s)
    have hsettings : t.settings = v := hut .settings (by simp)
    have hjunctions : t.junctions = (applyCorridor v n s).junctions := hut .junctions (by simp)
    have hcount : t.n = n := by
      rw [State.n, hjunctions]
      exact resize_length s.groups s.junctions n
    have hgroups : t.groups = s.groups := hut .groups (by simp)
    obtain ⟨u, payload, hread, hreads, -, hpayload⟩ := readCorridor_stored (idle_released hs.1 hst (by simp))
    have hstored : corridorBytes (released t).n (released t).settings = corridorBytes n v := by
      rw [show (released t).n = n from hcount, show (released t).settings = v from hsettings]
    refine ⟨t, hexec, hanswer, hst.mono (by simp), hsettings, hcount, fun j q hq => ?_,
      (hut .time (by simp)).trans (applyCorridor_time v n s), u, payload, hread, hreads, hpayload.trans hstored⟩
    obtain ⟨hstays, hnew⟩ := applyCorridor_resizes hcorridor v (hjunctions ▸ hq)
    refine ⟨hstays, fun h => (hnew h).trans ?_⟩
    rw [State.attributes, State.attributes, hgroups]
    rfl
  · have hparse : ∃ q, parseSetCorridor ps = some q := ⟨_, if_pos hlength⟩
    obtain ⟨q, hq⟩ := hparse
    exact refuses_of_owner hs rfl rfl ((hserve hopen hq).trans (ownSetCorridor_of_active hactive))
  · exact refuses_of_owner hs rfl rfl ((hserve hopen (parseSetCorridor_raw hwords)).trans
      (ownSetCorridor_of_out_of_range hactive (corridorFields_eq_none hout)))
  · refine refuses_of_owner hs rfl rfl ((hserve hopen (parseSetCorridor_corridorBytes hn hv)).trans
      ((ownSetCorridor_of_in_range hactive (corridorFields_eq_some hn hv)).trans (if_pos ?_)))
    simpa only [List.any_eq_true] using hpreempt

/-- Settles O30: the checks run in their order, and the one junction is written and read back. -/
theorem setJunctionWritesGeometry : Obligations.SetJunctionWritesGeometry := by
  have hserve (j b1 b2 b3 b4 : Byte) {s : State} (hopen : EditsOpen s) :
      serve (requestOf 0x12 [j, b1, b2, b3, b4]) s = ownSetJunction ⟨j.toNat, word16 b1 b2, word16 b3 b4⟩ s :=
    serve_edit (q := reqSetJunction [j, b1, b2, b3, b4]) rfl hopen
  have hwords (j : Byte) {len smin : Nat} {s : State} (hopen : EditsOpen s) (hlen : len ≤ 65535) (hsmin : smin ≤ 65535) :
      serve (requestOf 0x12 ([j] ++ wordOf len ++ wordOf smin)) s = ownSetJunction ⟨j.toNat, len, smin⟩ s := by
    refine (hserve j _ _ _ _ hopen).trans ?_
    rw [word16_wordOf hlen, word16_wordOf hsmin]
  refine ⟨fun j len smin q s hs hopen hactive hpending hq hlow hhigh hlink => ?_,
    fun b0 b1 b2 b3 b4 s hs hopen huse => refuses_of_owner hs rfl rfl
      ((hserve b0 b1 b2 b3 b4 hopen).trans (ownSetJunction_of_in_use huse)),
    fun j b1 b2 b3 b4 s hs hopen hactive hpending hj => refuses_of_owner hs rfl rfl
      ((hserve j b1 b2 b3 b4 hopen).trans (ownSetJunction_of_not_configured hactive hpending hj)),
    fun j len smin s hs hopen hactive hpending hj hlen hsmin hout => refuses_of_owner hs rfl rfl
      ((hwords j hopen hlen hsmin).trans (ownSetJunction_of_out_of_range hactive hpending hj hout))⟩
  have hlen : len ≤ 65535 := by
    split at hlink <;> omega
  have haccept := (hwords j hopen hlen (by omega)).trans
    (ownSetJunction_of_in_range (q := ⟨j.toNat, len, smin⟩) hactive hpending hq hlow hhigh hlink)
  obtain ⟨t, hexec, hanswer, -, -, hquiet⟩ := answers_of_owner (c := .setJunction _) hs rfl rfl haccept
    (frame_setJunctions s _)
  obtain ⟨hut, hst⟩ := hquiet (joined_of_replaced hq rfl ((frame_setJunctions s _).mono (by simp)) rfl id id)
  have hjunctions := hut .junctions (by simp)
  have hstored : (released t).junctions[j.toNat]? = some { q with
      link := if len = 0 then none else some len, smin := smin } := by
    show t.junctions[j.toNat]? = _
    rw [hjunctions]
    exact List.getElem?_set_self (List.getElem?_eq_some_iff.mp hq).1
  obtain ⟨u, payload, hread, hreads, -, hpayload⟩ := readJunction_stored (idle_released hs.1 hst (by simp)) hstored
  refine ⟨t, hexec, hanswer, hst.mono (by simp), hjunctions, u, payload, hread, hreads, hpayload.trans ?_⟩
  by_cases hzero : len = 0 <;> simp [hzero]

end Sys2Proof.Proofs
end

section
/-! SUPPORT. The range entries: the attributes they form (R27), SET GROUP (R26) and what a change of EXCLUDE does to a
junction (R28, R29), and the statement about them. -/

namespace Sys2Proof.Machine

open Sys2Proof.Safety

/-! ## The attributes of a junction (R27) -/

/-- A field that the union joins holds in the union of a list of entries where it held before or an entry covers. -/
theorem union_foldl_iff {f : Attributes → Bool} (hf : ∀ a b : Attributes, f (a.union b) = (f a || f b)) (j : Nat)
    (l : List GroupRange) (a : Attributes) :
    f (l.foldl (fun acc g => if g.covers j then acc.union g.attrs else acc) a) = true ↔
      f a = true ∨ ∃ g ∈ l, g.covers j = true ∧ f g.attrs = true := by
  induction l generalizing a with
  | nil => simp
  | cons g l ih =>
    rw [List.foldl_cons, ih]
    cases hcovers : g.covers j <;> simp [hcovers, hf, or_assoc]

theorem unites_of_union {f : Attributes → Bool} (hf : ∀ a b : Attributes, f (a.union b) = (f a || f b))
    (hempty : f .empty = false) (t : State) : Unites f t := by
  intro j
  have hmem := exists_mem_toList (v := t.groups) (p := fun g => g.covers j = true ∧ f g.attrs = true)
  rw [State.attributes, effective, union_foldl_iff hf, hempty, hmem]
  simp only [Bool.false_eq_true, false_or, covers_eq, decide_eq_true_eq, and_assoc]

/-! ## A change of EXCLUDE (R28, R29) -/

section
variable (s : State) (was is : Bool) (q : Junction)

theorem gainExclude_eq : gainExclude q = { q with state :=
    match q.state with
    | .preempt start deadline _ => .preempt start deadline .excluded
    | .free _ | .seek _ | .inStep _ => .free .excluded } := by
  unfold gainExclude
  cases q.state <;> rfl

theorem afterExclude_eq : afterExclude s.selector.active.isSome s.corridorFree =
    if s.selector.active.isNone then .plan0 else if s.corridorFree then .corridorFree else .seek := by
  cases s.selector.active <;> simp [afterExclude]

theorem excludeChange_moves : ExcludeMoves s was is q
    (excludeChange s.now s.selector.active.isSome s.corridorFree was is q) := by
  refine ⟨?_, ?_, ?_⟩
  · rintro rfl
    cases was <;> rfl
  · rintro rfl rfl
    exact gainExclude_eq q
  · rintro rfl rfl r hr
    have hafter := (afterExclude_eq s).trans hr.symm
    show (_ → loseExclude s.now s.selector.active.isSome s.corridorFree q = _) ∧
      ∀ start deadline, _ → loseExclude s.now s.selector.active.isSome s.corridorFree q = _
    refine ⟨?_, fun start deadline => ?_⟩
    · rintro (hstate | hstate)
      all_goals
        simp only [loseExclude, hstate, hafter]
        cases r <;> rfl
    · rintro (hstate | hstate)
      all_goals simp only [loseExclude, hstate, hafter]

/-- A change of EXCLUDE brings no junction into FREE(FAULT). -/
theorem isFault_excludeChange {now : Ct} {coordinated free : Bool}
    (h : (excludeChange now coordinated free was is q).state.isFault = true) : q.state.isFault = true := by
  cases was <;> cases is <;> simp only [excludeChange, Bool.not_true, Bool.not_false, Bool.and_true, Bool.and_false,
    Bool.false_eq_true, if_true, if_false] at h
  · exact h
  · rw [gainExclude_eq] at h
    cases hstate : q.state <;> simp [hstate, Coordination.isFault] at h
  · unfold loseExclude at h
    split at h
    iterate 2
      cases hafter : afterExclude coordinated free <;>
        simp [hafter, ReturnState.enter, enterSeek, Coordination.isFault] at h
    iterate 2
      simp [Coordination.isFault] at h
    all_goals exact h
  · exact h

/-- A change of EXCLUDE brings no junction into PREEMPT. -/
theorem isPreempt_excludeChange {now : Ct} {coordinated free : Bool}
    (h : (excludeChange now coordinated free was is q).state.isPreempt = true) : q.state.isPreempt = true := by
  cases was <;> cases is <;> simp only [excludeChange, Bool.not_true, Bool.not_false, Bool.and_true, Bool.and_false,
    Bool.false_eq_true, if_true, if_false] at h
  · exact h
  · rw [gainExclude_eq] at h
    cases hstate : q.state <;> simp [hstate, Coordination.isPreempt] at h ⊢
  · unfold loseExclude at h
    split at h
    iterate 2
      cases hafter : afterExclude coordinated free <;>
        simp [hafter, ReturnState.enter, enterSeek, Coordination.isPreempt] at h
    iterate 2
      next hstate => rw [hstate]; rfl
    all_goals exact h
  · exact h

end

/-! ## SET GROUP (R26) -/

section
variable {k : Fin 4} {g : GroupRange} {s : State}

theorem joined_applyGroup (k : Fin 4) (g : GroupRange) (s : State) : joined s (applyGroup k g s) = 0 := by
  refine joined_of_levels ⟨rfl, rfl, rfl, rfl, rfl⟩ rfl rfl id id (anyJunction_mono fun j q hq htest => ?_)
    (anyJunction_mono fun j q hq htest => ?_)
  all_goals
    rw [applyGroup_junctions_get] at hq
    obtain ⟨old, hold, rfl⟩ := Option.map_eq_some_iff.mp hq
  · exact ⟨old, hold, isFault_excludeChange _ _ _ htest⟩
  · exact ⟨old, hold, isPreempt_excludeChange _ _ _ htest⟩

variable {i f c a : Byte}

/-- The entry that SET GROUP stores. -/
def storedRange (f c a : Byte) : GroupRange :=
  if c = 0 then ⟨0, 0, ⟨false, false, false, false⟩⟩
  else ⟨f.toNat, c.toNat, ⟨a.getLsbD 0, a.getLsbD 1, a.getLsbD 2, a.getLsbD 3⟩⟩

theorem groupEntry_eq_some (hf : f.toNat ≤ 23) (hfc : f.toNat + c.toNat ≤ 24) (ha : a.toNat < 16) :
    GroupFields.entry ⟨i.toNat, f.toNat, c.toNat, a.toNat⟩ = some (storedRange f c a) := by
  have hc : c.toNat ≤ 24 := by omega
  have hattrs : attributes? a.toNat = some ⟨a.getLsbD 0, a.getLsbD 1, a.getLsbD 2, a.getLsbD 3⟩ := if_pos ha
  have hzero : c.toNat = 0 ↔ c = 0 := by rw [BitVec.toNat_eq]; rfl
  simp only [GroupFields.entry, hattrs, hf, hc, hfc, decide_true, Bool.and_self, if_true, storedRange, hzero]
  rfl

theorem groupEntry_eq_none (hout : 23 < f.toNat ∨ 24 < c.toNat ∨ 24 < f.toNat + c.toNat ∨ 16 ≤ a.toNat) :
    GroupFields.entry ⟨i.toNat, f.toNat, c.toNat, a.toNat⟩ = none := by
  unfold GroupFields.entry
  split
  · rfl
  · next attrs hattrs =>
    have ha : a.toNat < 16 := by
      by_contra hge
      simp [attributes?, hge] at hattrs
    refine if_neg ?_
    simp only [Bool.and_eq_true, decide_eq_true_eq]
    omega

/-- A byte of four bits is the byte of the attributes it carries. -/
theorem attributeByte_of_bits (ha : a.toNat < 16) :
    attributeByte ⟨a.getLsbD 0, a.getLsbD 1, a.getLsbD 2, a.getLsbD 3⟩ = a := by
  obtain ⟨n, hn, rfl⟩ : ∃ n, n < 16 ∧ a = BitVec.ofNat 8 n := ⟨a.toNat, ha, (ofNat_toNat_byte a).symm⟩
  interval_cases n <;> rfl

theorem storedRange_bytes (ha : a.toNat < 16) :
    [BitVec.ofNat 8 (storedRange f c a).first, BitVec.ofNat 8 (storedRange f c a).count,
      attributeByte (storedRange f c a).attrs] = if c = 0 then [0, 0, 0] else [f, c, a] := by
  unfold storedRange
  split
  · rfl
  · simp only [ofNat_toNat_byte, attributeByte_of_bits ha]

theorem ownSetGroup_of_in_range (hi : i.toNat = k.val) (hf : f.toNat ≤ 23) (hfc : f.toNat + c.toNat ≤ 24)
    (ha : a.toNat < 16) : ownSetGroup ⟨i.toNat, f.toNat, c.toNat, a.toNat⟩ s =
      done .none [] (applyGroup k (storedRange f c a) s) := by
  have hindex : index? Config.groupCount i.toNat = some k := index?_eq_some.mpr hi
  unfold ownSetGroup
  rw [hindex, groupEntry_eq_some hf hfc ha]

theorem ownSetGroup_of_out_of_range
    (hout : 4 ≤ i.toNat ∨ 23 < f.toNat ∨ 24 < c.toNat ∨ 24 < f.toNat + c.toNat ∨ 16 ≤ a.toNat) :
    ownSetGroup ⟨i.toNat, f.toNat, c.toNat, a.toNat⟩ s = refuse .outOfRange s := by
  unfold ownSetGroup
  obtain hi | hout := hout
  · rw [index?_eq_none hi]
  · rw [groupEntry_eq_none hout]
    cases index? Config.groupCount i.toNat <;> rfl

end

end Sys2Proof.Machine

namespace Sys2Proof.Proofs

open Sys2Proof.Machine Sys2Proof.Safety

/-- Settles O31: one entry is stored, the attributes are unions over the entries, and each junction moves as the
change of its EXCLUDE membership moves it. -/
theorem setGroupMovesExcludedJunctions : Obligations.SetGroupMovesExcludedJunctions := by
  intro i f c a s hs
  have hserve (hopen : EditsOpen s) : serve (requestOf 0x14 [i, f, c, a]) s =
      ownSetGroup ⟨i.toNat, f.toNat, c.toNat, a.toNat⟩ s :=
    serve_edit (q := reqSetGroup [i, f, c, a]) rfl hopen
  refine ⟨fun hopen hi hf hfc ha => ?_,
    fun hopen hout => refuses_of_owner hs rfl rfl ((hserve hopen).trans (ownSetGroup_of_out_of_range hout)),
    fun hi => refuses_of_owner hs rfl rfl ?_⟩
  · obtain ⟨k, hk⟩ : ∃ k : Fin 4, i.toNat = k.val := ⟨⟨i.toNat, hi⟩, rfl⟩
    have hbyte : i = BitVec.ofNat 8 k.val := by rw [← hk, ofNat_toNat_byte]
    have haccept := (hserve hopen).trans (ownSetGroup_of_in_range hk hf hfc ha)
    obtain ⟨t, hexec, hanswer, -, -, hquiet⟩ := answers_of_owner (c := .setGroup _) hs rfl rfl haccept
      (frame_applyGroup k (storedRange f c a) s)
    obtain ⟨hut, hst⟩ := hquiet (joined_applyGroup k _ s)
    have hjunctions : t.junctions = (applyGroup k (storedRange f c a) s).junctions := hut .junctions (by simp)
    have hgroups : t.groups = put s.groups k (storedRange f c a) := hut .groups (by simp)
    obtain ⟨u, payload, hread, hreads, -, hpayload⟩ := readGroup_reads (idle_released hs.1 hst (by simp)) k
    have hstored : (released t).groups[k] = storedRange f c a := by
      show t.groups[k] = _
      rw [hgroups, put_get, if_pos rfl]
    rw [hstored, storedRange_bytes ha] at hpayload
    refine ⟨t, hexec, hanswer, hst.mono (by simp), ?_, fun n => ?_, unites_of_union (fun _ _ => rfl) rfl t,
      unites_of_union (fun _ _ => rfl) rfl t, unites_of_union (fun _ _ => rfl) rfl t,
      unites_of_union (fun _ _ => rfl) rfl t, fun j old q hold hq => ?_, u, hbyte ▸ hread, hpayload ▸ hreads⟩
    · rw [State.n, hjunctions]
      exact mapIndexed_length ..
    · rw [hgroups, put_get, hk]
      by_cases hn : n = k
      · simp [hn, storedRange]
      · have hne : n.val ≠ k.val := fun h => hn (Fin.ext h)
        simp [hn, hne]
    · rw [hjunctions, applyGroup_junctions_get, hold, Option.map_some] at hq
      rw [State.attributes, State.attributes, hgroups, ← Option.some.inj hq]
      exact excludeChange_moves s _ _ old
  · show ownReadGroup i.toNat s = _
    simp only [ownReadGroup, index?_eq_none hi]
    rfl

end Sys2Proof.Proofs
end

section
/-! SUPPORT. WINDOW QUERY (R79 to R82), and the statement about it. -/

namespace Sys2Proof.Machine

open Sys2Proof.Safety

/-! ## The layout of the payload (R80, R172) -/

/-- The marks of the seventeen optional items of WINDOW QUERY, in their order. -/
def windowMarks (j : Nat) (q : Junction) (s : State) : List Bool :=
  [s.activeRecord.isSome, (s.selector.active.bind fun a => a.offsets[j]?).isSome, q.state.window?.isSome,
    q.cycle?.isSome, q.cycle?.isSome, q.cycle?.isSome, q.cycle?.isSome, q.cycle?.isSome, q.cycle?.isSome, q.cycle?.isSome,
    q.state.window?.isSome, q.spillIn.isSome, q.spillOut.isSome, q.state.isPreempt, q.state.isPreempt,
    (earliestHead j .inbound s).isSome, (earliestHead j .outbound s).isSome]

/-- The items of WINDOW QUERY behind the presence bytes, an absent one as zero bytes. -/
def windowItems (j : Nat) (q : Junction) (s : State) : List Byte :=
  let w := q.state.window?
  let c := q.cycle?
  List.flatten [ctOf s.time.ct, stateBytes q.state, byteOf s.activeNumber,
    wordOf ((s.activeRecord.map fun ap => ap.2.c).getD 0), wordOf ((s.selector.active.bind fun a => a.offsets[j]?).getD 0),
    ctOf ((w.map Window.start).getD 0), wordOf ((c.map Cycle.lc).getD 0), ctOf ((c.map Cycle.greenEnd).getD 0),
    [if (c.map Cycle.phase).getD .green = .green then 0 else 1], wordOf ((c.map Cycle.x).getD 0),
    wordOf ((c.map Cycle.y).getD 0), wordOf ((c.map fun v => v.held.g).getD 0),
    wordOf ((c.map fun v => (BitVec.ofInt 16 v.drift).toNat).getD 0), byteOf ((w.map Window.seekCount).getD 0),
    byteOf q.lockout, flagOf q.granted, flagOf q.spillIn.isSome, ctOf (q.spillIn.getD 0), flagOf q.spillOut.isSome,
    ctOf (q.spillOut.getD 0), ctOf ((q.state.preemption.map Prod.fst).getD 0),
    ctOf ((q.state.preemption.map Prod.snd).getD 0), ctOf ((earliestHead j .inbound s).getD 0),
    ctOf ((earliestHead j .outbound s).getD 0), byteOf (waitingCount j s)]

theorem isSome_preemption (c : Coordination) : c.preemption.isSome = c.isPreempt := by cases c <;> rfl

theorem isSome_window (c : Coordination) : c.window?.isSome = (c.isSeek || c.isInStep) := by cases c <;> rfl

theorem phaseItem_bytes (c : Option Cycle) : (optItem 1 (c.map fun v => phaseOf v.phase)).bytes =
    [if (c.map Cycle.phase).getD .green = .green then 0 else 1] := by
  cases c with
  | none => rfl
  | some v => cases h : v.phase <;> simp [h, phaseOf, byteOf]

theorem driftItem_bytes (c : Option Cycle) : (optItem 2 (c.map fun v => driftOf v.drift)).bytes =
    wordOf ((c.map fun v => (BitVec.ofInt 16 v.drift).toNat).getD 0) := by cases c <;> rfl

theorem windowPayload_eq (j : Nat) (q : Junction) (s : State) :
    windowPayload j q s = presenceBytes (windowMarks j q s) ++ windowItems j q s := by
  simp only [windowPayload, payloadOf, windowMarks, windowItems, List.filter_cons, item_optional, optWord_optional,
    optCt_optional, optByte_optional, optItem_optional, Bool.false_eq_true, if_false, if_true, List.filter_nil,
    List.map_cons, List.map_nil, optWord_present, optCt_present, optByte_present, optItem_present, Option.isSome_map,
    isSome_preemption, List.flatMap_cons, List.flatMap_nil, item_bytes, optWord_bytes, optCt_bytes, optByte_bytes,
    phaseItem_bytes, driftItem_bytes, contextStateOf_eq, List.flatten_cons, List.flatten_nil, State.now]

/-- Eight marks in one byte. -/
theorem packBits_eight (a b c d e f g h : Bool) : packBits [a, b, c, d, e, f, g, h] = BitVec.ofNat 8
    (a.toNat + 2 * b.toNat + 4 * c.toNat + 8 * d.toNat + 16 * e.toNat + 32 * f.toNat + 64 * g.toNat + 128 * h.toNat) := by
  simp only [packBits, List.foldr_cons, List.foldr_nil]
  congr 1
  omega

theorem windowMarks_bytes (j : Nat) (q : Junction) (s : State) : presenceBytes (windowMarks j q s) =
    [BitVec.ofNat 8 (s.activeRecord.isSome.toNat + 2 * (s.selector.active.bind fun a => a.offsets[j]?).isSome.toNat +
        4 * (q.state.isSeek || q.state.isInStep).toNat + 248 * q.cycle?.isSome.toNat),
      BitVec.ofNat 8 (3 * q.cycle?.isSome.toNat + 4 * (q.state.isSeek || q.state.isInStep).toNat +
        8 * q.spillIn.isSome.toNat + 16 * q.spillOut.isSome.toNat + 96 * q.state.isPreempt.toNat +
        128 * (earliestHead j .inbound s).isSome.toNat),
      BitVec.ofNat 8 (earliestHead j .outbound s).isSome.toNat] := by
  have hbytes (b0 b1 b2 b3 b4 b5 b6 b7 b8 b9 b10 b11 b12 b13 b14 b15 b16 : Bool) :
      presenceBytes [b0, b1, b2, b3, b4, b5, b6, b7, b8, b9, b10, b11, b12, b13, b14, b15, b16] =
        [packBits [b0, b1, b2, b3, b4, b5, b6, b7], packBits [b8, b9, b10, b11, b12, b13, b14, b15], packBits [b16]] := by
    simp [presenceBytes, List.range_succ]
  rw [windowMarks, hbytes, packBits_eight, packBits_eight, packBits_one, isSome_window]
  congr 2
  · omega
  · congr 2
    omega

/-! ## The approaching demand (R81) -/

section
variable {j : Nat} {d : Direction} {s : State}

/-- The heads that WINDOW QUERY chooses from. -/
theorem mem_heads {t : Ct} : t ∈ ((s.livePlatoons.filter fun p => p.2.cur == j && p.2.dir == d).map fun p => p.2.head) ↔
    ∃ e ∈ s.livePlatoons, e.2.cur = j ∧ e.2.dir = d ∧ e.2.head = t := by
  simp only [List.mem_map, List.mem_filter, Bool.and_eq_true, beq_iff_eq, and_assoc]

theorem best_eq_none {α : Type} {beats : α → α → Bool} {l : List α} : best beats l = none ↔ l = [] := by
  cases l <;> simp [best]

theorem isSome_earliestHead : (earliestHead j d s).isSome = s.livePlatoons.any fun e => e.2.cur == j && e.2.dir == d := by
  rw [Bool.eq_iff_iff, Option.isSome_iff_ne_none, ne_eq, earliestHead, best_eq_none, List.map_eq_nil_iff,
    List.filter_eq_nil_iff, List.any_eq_true]
  simp only [not_forall, not_not, exists_prop]

theorem headReported_of_bytes {bytes : List Byte} (h : bytes = ctOf ((earliestHead j d s).getD 0)) :
    HeadReported j d s bytes := by
  refine ⟨fun hnone => ?_, fun e he hcur hdir hleast => ?_⟩
  · have hempty : earliestHead j d s = none := by
      rw [earliestHead, best_eq_none, List.eq_nil_iff_forall_not_mem]
      intro t ht
      obtain ⟨e, he, hcur, hdir, -⟩ := mem_heads.mp ht
      exact (hnone e he).elim (fun hne => hne hcur) (fun hne => hne hdir)
    rw [h, hempty]
    rfl
  · have hbest : earliestHead j d s = some e.2.head := by
      refine best_of_beats (mem_heads.mpr ⟨e, he, hcur, hdir, rfl⟩) (fun t ht hne => ?_) (before_self _)
      obtain ⟨f, hf, hfcur, hfdir, rfl⟩ := mem_heads.mp ht
      have hbefore := (hleast f hf hfcur hfdir).resolve_left hne
      exact ⟨hbefore, before_asymm hbefore⟩
    rw [h, hbest]
    rfl

end

theorem activeRecord_none_of_inactive {s : State} (h : s.selector.active = none) : s.activeRecord = none := by
  rw [State.activeRecord, h]
  rfl

theorem stateBytes_two (c : Coordination) : ∃ a b, stateBytes c = [a, b] := by
  unfold stateBytes
  split <;> exact ⟨_, _, rfl⟩

end Sys2Proof.Machine

namespace Sys2Proof.Proofs

open Sys2Proof.Machine Sys2Proof.Safety

/-- Settles O45: the layout of the payload, read place by place. -/
theorem windowQueryReportsWindow : Obligations.WindowQueryReportsWindow := by
  intro b s hs
  refine ⟨fun hb => refuses_of_owner hs rfl rfl ?_, fun q hq => ?_⟩
  · show ownWindowQuery b.toNat s = _
    simp only [ownWindowQuery, List.getElem?_eq_none hb]
    rfl
  have hserve : serve (requestOf 0x28 [b]) s = done .none (windowPayload b.toNat q s) s := by
    show ownWindowQuery b.toNat s = _
    simp only [ownWindowQuery, hq]
  obtain ⟨t, payload, hexec, hanswer, hframe, rfl⟩ :=
    reads_of_owner (c := .windowQuery [b]) (ok := fun payload => payload = windowPayload b.toNat q s) hs rfl rfl hserve rfl
  obtain ⟨x, y, hstate⟩ := stateBytes_two q.state
  have hpayload : windowPayload b.toNat q s = _ := windowPayload_eq b.toNat q s
  rw [windowMarks_bytes, windowItems, hstate] at hpayload
  refine ⟨t, _, hexec, hanswer, hframe, ?_, ?_, ?_, ?_, fun hnone => ?_, fun a p hrecord => ?_, fun a o hactive ho => ?_,
    fun w hw => ?_, fun hw => ?_, ?_, ?_, ?_, fun start deadline r hpreempt => ?_, fun hpreempt => ?_, ?_, ?_, ?_,
    windowPayload_length ..⟩
  all_goals rw [hpayload]
  · simp only [← isSome_earliestHead]
    rfl
  · rfl
  · rw [hstate]
    rfl
  · rfl
  · rw [activeRecord_none_of_inactive hnone, hnone]
    exact (show _ = wordOf 0 ++ wordOf 0 from rfl).trans (by decide)
  · rw [hrecord]
    rfl
  · rw [hactive, Option.bind_some, ho]
    rfl
  · have hwindow : q.state.window? = some w := by
      obtain h | h := hw <;> rw [h] <;> rfl
    have hcycle : q.cycle? = w.cycle := by rw [Junction.cycle?, hwindow]; rfl
    rw [hwindow, hcycle]
    refine ⟨rfl, rfl, fun hnone => ?_, fun c hc => ?_⟩
    · rw [hnone]
      rfl
    · rw [hc]
      exact ⟨rfl, rfl, rfl, rfl, rfl, rfl, rfl⟩
  · have hwindow : q.state.window? = none := by
      cases h : q.state with
      | free cause => rfl
      | seek w => exact absurd h (hw w).1
      | inStep w => exact absurd h (hw w).2
      | preempt start deadline r => rfl
    have hcycle : q.cycle? = none := by rw [Junction.cycle?, hwindow]; rfl
    rw [hwindow, hcycle]
    rfl
  · rfl
  · rfl
  · rfl
  · rw [hpreempt]
    rfl
  · rw [← isSome_preemption, Option.isSome_eq_false_iff, Option.isNone_iff_eq_none] at hpreempt
    rw [hpreempt]
    rfl
  · exact headReported_of_bytes rfl
  · exact headReported_of_bytes rfl
  · rfl

end Sys2Proof.Proofs
end

section
/-! SUPPORT. Preemption (R139 to R142), and the statement about it. -/

namespace Sys2Proof.Machine

open Sys2Proof.Safety

/-! ## The junction before and after a preemption -/

theorem returnStateOf_eq (r : ReturnState) : returnStateOf r = [returnByte r] := by cases r <;> rfl

theorem enter_eq (r : ReturnState) (now : Ct) : r.enter now = returnedTo r now := by cases r <;> rfl

theorem isFault_returnedTo (r : ReturnState) (now : Ct) : (returnedTo r now).isFault = false := by cases r <;> rfl

theorem isPreempt_returnedTo (r : ReturnState) (now : Ct) : (returnedTo r now).isPreempt = false := by cases r <;> rfl

theorem returnOf_returnsTo (free : Bool) (c : Coordination) : ReturnsTo free c (returnOf free c) := by
  refine ⟨?_, ?_, ?_, ?_, ?_⟩
  · rintro (h | h) <;> cases c <;> simp [Coordination.isSeek, Coordination.isInStep, returnOf] at h ⊢
  all_goals
    rintro rfl
    rfl

section
variable {j : Nat} {q : Junction} {start deadline now : Ct} {ret : ReturnState} {s : State} {pmax : Nat} {free : Bool}

theorem beginPreempt_of_fresh (h : q.state.isPreempt = false) (now : Ct) (pmax : Nat) (free : Bool) :
    beginPreempt now pmax free q =
      { q with state := .preempt now (now + BitVec.ofNat 32 pmax) (returnOf free q.state) } := by
  have hstart : preemptStartOf now q.state = now := by
    cases hstate : q.state with
    | preempt a b r => simp [hstate, Coordination.isPreempt] at h
    | free c => rfl
    | seek w => rfl
    | inStep w => rfl
  rw [beginPreempt, hstart]
  rfl

theorem beginPreempt_of_preempted (h : q.state = .preempt start deadline ret) (now : Ct) (pmax : Nat) (free : Bool) :
    beginPreempt now pmax free q = { q with state := .preempt start (now + BitVec.ofNat 32 pmax) ret } := by
  rw [beginPreempt, h]
  rfl

theorem endPreempt_of_preempted (h : q.state = .preempt start deadline ret) (now : Ct) :
    endPreempt now q = { q with state := returnedTo ret now } := by
  unfold endPreempt
  rw [h]
  simp only [enter_eq]

/-! ## The requests (R139 to R141) -/

theorem ownPreemptBegin_of_get (hq : s.junctions[j]? = some q) : ownPreemptBegin j s =
    done (if q.state.isPreempt then .refreshed else .none)
      (preemptPayload (beginPreempt s.now s.settings.pmax s.corridorFree q).state)
      (s.setJunctions (s.junctions.set j (beginPreempt s.now s.settings.pmax s.corridorFree q))) := by
  simp only [ownPreemptBegin, hq, updateJunction_of_get hq]

theorem ownPreemptEnd_of_preempted (hq : s.junctions[j]? = some q) (h : q.state.isPreempt = true) :
    ownPreemptEnd j s = done .none (contextStateOf (endPreempt s.now q).state)
      (s.setJunctions (s.junctions.set j (endPreempt s.now q))) := by
  simp only [ownPreemptEnd, hq, h, if_true, updateJunction_of_get hq]

theorem ownPreemptEnd_of_other (hq : s.junctions[j]? = some q) (h : q.state.isPreempt = false) :
    ownPreemptEnd j s = refuse .wrongState s := by
  simp [ownPreemptEnd, hq, h]

/-! ## The deadline (R142) -/

theorem exec_preemptDeadline (j : Fin 24) (s : State) :
    exec (.preemptDeadline j) s = run (takeEvent (.preemptDeadline j)) s := rfl

theorem preemptDeadline_due {j : Fin 24} (hq : s.junctions[j.val]? = some q)
    (hstate : q.state = .preempt start s.time.ct ret) : (Event.preemptDeadline j).due s = true := by
  have htime : (s.junctions[j.val]?).bind Junction.deadline = some s.time.ct := by
    rw [hq, Option.bind_some, Junction.deadline, hstate]
    rfl
  rw [Event.due, htime]
  exact atOrBefore_self _

theorem preemptDeadline_effect {j : Fin 24} (hq : s.junctions[j.val]? = some q)
    (hstate : q.state = .preempt start deadline ret) : (Event.preemptDeadline j).effect s =
      (s.setJunctions (s.junctions.set j.val { q with state := returnedTo ret s.time.ct })).latch .preemptTimeout := by
  show (s.updateJunction j.val fun jn => endPreempt s.now jn).latch .preemptTimeout = _
  rw [updateJunction_of_get hq, endPreempt_of_preempted hstate]
  rfl

end

end Sys2Proof.Machine

namespace Sys2Proof.Proofs

open Sys2Proof.Machine Sys2Proof.Safety

/-- Settles O49: the junction is rewritten by the two operations of R139 to R141, and the deadline is the second of them
with its alert. -/
theorem preemptionBeginsAndEnds : Obligations.PreemptionBeginsAndEnds := by
  refine ⟨fun b s hs => ⟨fun hb => ?_, fun q hq => ?_⟩, fun j q start ret s hs hq hstate => ?_⟩
  · have hnone := List.getElem?_eq_none hb
    refine ⟨refuses_of_owner hs rfl rfl ?_, refuses_of_owner hs rfl rfl ?_⟩
    · show ownPreemptBegin b.toNat s = _
      simp only [ownPreemptBegin, hnone]
      rfl
    · show ownPreemptEnd b.toNat s = _
      simp only [ownPreemptEnd, hnone]
      rfl
  · intro deadline'
    have hbegin : serve (requestOf 0x2A [b]) s = _ := ownPreemptBegin_of_get hq
    refine ⟨fun hfresh => ⟨?_, refuses_of_owner hs rfl rfl (ownPreemptEnd_of_other hq hfresh)⟩,
      fun start deadline ret hstate => ⟨?_, ?_⟩⟩
    · rw [hfresh, beginPreempt_of_fresh hfresh] at hbegin
      obtain ⟨t, hexec, hanswer, hut, hst, -⟩ := answers_of_owner (c := .preemptBegin [b]) hs rfl rfl hbegin
        (frame_setJunctions s _)
      refine ⟨t, _, hexec, returnOf_returnsTo s.corridorFree q.state, ?_, hst.mono (by simp), hut .junctions (by simp)⟩
      rw [← returnStateOf_eq]
      exact hanswer
    · rw [show q.state.isPreempt = true by rw [hstate]; rfl, beginPreempt_of_preempted hstate] at hbegin
      obtain ⟨t, hexec, hanswer, -, -, hquiet⟩ := answers_of_owner (c := .preemptBegin [b]) hs rfl rfl hbegin
        (frame_setJunctions s _)
      obtain ⟨hut, hst⟩ := hquiet (joined_of_replaced hq rfl ((frame_setJunctions s _).mono (by simp)) rfl
        (by simp [Coordination.isFault]) (by simp [hstate, Coordination.isPreempt]))
      refine ⟨t, hexec, ?_, hst.mono (by simp), hut .junctions (by simp)⟩
      rw [← returnStateOf_eq]
      exact hanswer
    · have hend : serve (requestOf 0x2B [b]) s = _ := ownPreemptEnd_of_preempted hq (by rw [hstate]; rfl)
      rw [endPreempt_of_preempted hstate] at hend
      obtain ⟨t, hexec, hanswer, -, -, hquiet⟩ := answers_of_owner (c := .preemptEnd [b]) hs rfl rfl hend
        (frame_setJunctions s _)
      obtain ⟨hut, hst⟩ := hquiet (joined_of_replaced hq rfl ((frame_setJunctions s _).mono (by simp)) rfl
        (by simp [isFault_returnedTo]) (by simp [isPreempt_returnedTo]))
      refine ⟨t, hexec, ?_, hst.mono (by simp), hut .junctions (by simp)⟩
      rw [← contextStateOf_eq]
      exact hanswer
  · have hframe : Frame [.junctions, .latched] s ((Event.preemptDeadline j).effect s) := by
      rw [preemptDeadline_effect hq hstate]
      exact ((frame_setJunctions s _).mono (by simp)).trans ((frame_latch _ _).mono (by simp))
    refine ⟨_, ?_, (hframe.mono (by simp)).trans ((frame_settle s _).mono (by simp)), ?_, ?_⟩
    · rw [exec_preemptDeadline, run_of_running hs, takeEvent_of_due (preemptDeadline_due hq hstate)]
    · rw [settle_junctions, preemptDeadline_effect hq hstate]
      rfl
    · rw [settle_latched, preemptDeadline_effect hq hstate]
      rfl

end Sys2Proof.Proofs
end

section
/-! SUPPORT. The pending set and its flags (R161, R167 to R169), the alert requests (R170, R171) and LOCK EDITS (R166),
and the statement about them. -/

namespace Sys2Proof.Machine

open Sys2Proof.Safety

/-! ## The pending set (R167, R168) -/

theorem onlyIf_getLsbD (a : AlertSource) (c : Bool) (i : Nat) :
    (a.onlyIf c).getLsbD i = (c && decide (a.bit = i)) := by
  have hbit : a.bit < 13 := by cases a <;> decide
  cases c with
  | false => exact BitVec.getLsbD_zero
  | true =>
    show (BitVec.twoPow 13 a.bit).getLsbD i = _
    rw [BitVec.getLsbD_twoPow, decide_eq_true hbit]

/-- The bit of each source in the pending set. -/
theorem pendingSet_getLsbD (s : State) (i : Nat) : s.pendingSet.getLsbD i =
    ((!s.time.clock.valid && decide (0 = i)) || (s.time.syncLost && decide (1 = i)) ||
      (s.junctionFault && decide (2 = i)) || (s.preemptActive && decide (3 = i)) || (s.resultReady && decide (4 = i)) ||
      s.alerts.latched.getLsbD i) := by
  simp only [State.pendingSet, State.levelSet, BitVec.getLsbD_or, onlyIf_getLsbD]
  rfl

theorem resultReady_of_result {s : State} {f : ResultFrame} (h : s.port.state = .result f) : s.resultReady = true := by
  rw [State.resultReady, h]

theorem resultReady_of_other {s : State} (h : ∀ f, s.port.state ≠ .result f) : s.resultReady = false := by
  unfold State.resultReady
  split
  · next f hf => exact absurd hf (h f)
  all_goals rfl

theorem latched_ready {s : State} (h : AlertsOk s) : s.alerts.latched.getLsbD 4 = false := by
  have hbit := congrArg (fun v : BitVec 13 => v.getLsbD 4) h.latched
  have hready : (~~~latchedSources).getLsbD 4 = true := by decide
  simpa only [BitVec.getLsbD_and, hready, Bool.and_true] using hbit.trans BitVec.getLsbD_zero

/-! ## The flags W and F (R161) -/

theorem and_ne_zero_iff (a b : BitVec 13) :
    (a &&& b != 0) = true ↔ ∃ i, i < 13 ∧ a.getLsbD i = true ∧ b.getLsbD i = true := by
  rw [bne_iff_ne, ne_eq, BitVec.eq_of_getLsbD_eq_iff]
  simp

theorem junctionFault_iff (s : State) : s.junctionFault = true ↔ ∃ j ∈ s.junctions, j.state = .free .fault := by
  simp only [State.junctionFault, State.anyJunction, Coordination.isFault, List.any_eq_true, beq_iff_eq]

/-! ## The answer of a request that writes the alert unit -/

/-- The alert unit after a request, from what its owner leaves of it: a joining source sets the pulse end (R169). -/
theorem alerts_of_owner {c : Instr} {code : Byte} {ps : List Byte} {s t u : State} {r : Reply} (hs : Idle s)
    (hc : c.code? = some code) (hp : c.params? = some ps) (h : serve (requestOf code ps) s = (r, u))
    (ht : exec c s = .next t) : t.alerts = { u.alerts with
      pulseEnd := if u.alerts.mode = .pulse ∧ t.activeSet &&& ~~~s.activeSet ≠ 0 then some (u.time.ct + 1)
        else u.alerts.pulseEnd } := by
  have hexec := exec_of_idle_withPins hs hc hp
  rw [h] at hexec
  obtain rfl := Host.Outcome.next.inj (ht.symm.trans hexec)
  rw [activeSet_settle, settle_eq]
  rfl

/-! ## SET ALERT CONFIG and ACKNOWLEDGE ALERTS (R170, R171) -/

theorem sourceSet?_toNat (e : BitVec 13) : sourceSet? e.toNat = some e := by
  have he := e.isLt
  rw [sourceSet?, if_pos he, BitVec.ofNat_toNat, BitVec.setWidth_eq]

theorem sourceSet?_of_high {b1 b0 : Byte} (h : 32 ≤ b1.toNat) : sourceSet? (word16 b1 b0) = none :=
  if_neg (by rw [word16]; omega)

theorem pinMode?_of_le {m : Byte} (h : m.toNat ≤ 1) : pinMode? m.toNat = some (if m = 0 then .level else .pulse) := by
  obtain rfl | rfl := byte_cases_of_le_one h <;> rfl

theorem pinMode?_of_gt {n : Nat} (h : 1 < n) : pinMode? n = none := by
  rw [pinMode?, if_neg (by omega), if_neg (by omega)]

section
variable {e w f : BitVec 13} {g m : Byte} {s : State}

theorem word16_source (e : BitVec 13) : word16 (BitVec.ofNat 8 (e.toNat / 256)) (BitVec.ofNat 8 e.toNat) = e.toNat :=
  word16_wordOf (by have := e.isLt; omega)

theorem serve_setAlertConfig (e1 e0 g m w1 w0 f1 f0 : Byte) (s : State) :
    serve (requestOf 0x49 [e1, e0, g, m, w1, w0, f1, f0]) s =
      ownSetAlertConfig ⟨word16 e1 e0, g.toNat, m.toNat, word16 w1 w0, word16 f1 f0⟩ s := rfl

theorem alertConfig_eq_some (hg : g.toNat ≤ 1) (hm : m.toNat ≤ 1) (a : Alerts) :
    AlertFields.config ⟨e.toNat, g.toNat, m.toNat, w.toNat, f.toNat⟩ a = some { a with
      enable := e, global := g == 1, mode := if m = 0 then .level else .pulse, wMask := w, fMask := f
      pulseEnd := if g = 0 ∨ m = 0 then none else a.pulseEnd } := by
  simp only [AlertFields.config, sourceSet?_toNat, flag?_of_le hg, pinMode?_of_le hm]
  obtain rfl | rfl := byte_cases_of_le_one hg <;> obtain rfl | rfl := byte_cases_of_le_one hm <;> rfl

theorem alertConfig_eq_none {q : AlertFields} (a : Alerts)
    (h : sourceSet? q.enable = none ∨ flag? q.global = none ∨ pinMode? q.mode = none ∨ sourceSet? q.wMask = none ∨
      sourceSet? q.fMask = none) : q.config a = none := by
  unfold AlertFields.config
  split
  · next he hg hm hw hf => simp [he, hg, hm, hw, hf] at h
  · rfl

theorem frame_alertConfig (a : Alerts) (h : a.latched = s.alerts.latched) :
    Frame [.alertConfig, .pulseEnd] s (s.setAlerts a) := by
  intro b hb
  cases b with
  | alertConfig | pulseEnd => simp at hb
  | latched => exact h
  | _ => simp [Block.same]

end

/-- An acknowledgement takes sources away and brings none in. -/
theorem joined_of_acknowledged (m : SourceSet) (s : State) :
    joined s (s.setAlerts { s.alerts with latched := s.alerts.latched &&& ~~~m }) = 0 := by
  refine joined_of_pendingSet_mono ⟨rfl, rfl, rfl, rfl, rfl⟩ fun i hi => ?_
  rw [State.pendingSet, BitVec.getLsbD_or, Bool.or_eq_true] at hi ⊢
  refine hi.imp id fun hlatched => ?_
  rw [State.setAlerts_alerts, BitVec.getLsbD_and, Bool.and_eq_true] at hlatched
  exact hlatched.1

end Sys2Proof.Machine

namespace Sys2Proof.Proofs

open Sys2Proof.Machine Sys2Proof.Safety

/-- Settles O60: the pending set bit by bit, and each alert request by what its owner writes. -/
theorem alertRequestsAct : Obligations.AlertRequestsAct := by
  refine ⟨fun s hs => ?_, fun s => ?_, fun e w f g m s hs hg hm => ?_, fun m s hs => ?_,
    fun e1 e0 g m w1 w0 f1 f0 s hs hout => ?_, fun m1 m0 s hs hm => ?_, fun s hs => ?_⟩
  · obtain ⟨t, payload, hexec, hanswer, hframe, rfl⟩ :=
      reads_of_owner (c := .readAlerts []) (ok := fun p => p = readAlertsPayload s) hs rfl rfl rfl rfl
    have hready := resultReady_of_other (s := s) fun f hf => by simp [hs.2] at hf
    have hbytes : readAlertsPayload s = wordOf s.pendingSet.toNat ++ wordOf s.alerts.latched.toNat ++
        wordOf s.alerts.enable.toNat ++
        [BitVec.ofNat 8 s.alerts.global.toNat, if s.alerts.mode = .level then 0 else 1] ++
        wordOf s.alerts.wMask.toNat ++ wordOf s.alerts.fMask.toNat ++ [BitVec.ofNat 8 s.alertPin.toNat] := by
      cases h : s.alerts.mode <;> simp [readAlertsPayload, sourceSetOf, flagOf, byteOf, pinModeOf, h]
    refine ⟨t, hexec, hframe, hbytes ▸ hanswer, ?_⟩
    rw [pendingSet_getLsbD, hready]
    simp
  · have hfault : s.junctionFault = s.junctions.any fun j => j.state == .free .fault := rfl
    have hpreempt : s.preemptActive = s.junctions.any fun j => j.state.isPreempt := rfl
    refine ⟨?_, ?_, ?_, ?_, fun f hf => ?_, fun hf => ?_, fun hok => ?_, fun b hb => ?_, ?_, ?_, rfl, fun hs => ?_⟩
    · rw [pendingSet_getLsbD]
      simp
    · rw [pendingSet_getLsbD]
      simp
    · rw [pendingSet_getLsbD, ← hfault]
      simp
    · rw [pendingSet_getLsbD, ← hpreempt]
      simp
    · simp [pendingSet_getLsbD, resultReady_of_result hf]
    · rw [pendingSet_getLsbD, resultReady_of_other hf]
      simp
    · simp only [pendingSet_getLsbD, latched_ready hok]
      by_cases h : ∃ f, s.port.state = .result f
      · obtain ⟨f, hf⟩ := h
        simp [resultReady_of_result hf, hf]
      · simpa [resultReady_of_other (not_exists.mp h)] using h
    · have h0 : ¬ 0 = b := by omega
      have h1 : ¬ 1 = b := by omega
      have h2 : ¬ 2 = b := by omega
      have h3 : ¬ 3 = b := by omega
      have h4 : ¬ 4 = b := by omega
      simp [pendingSet_getLsbD, h0, h1, h2, h3, h4]
    · exact and_ne_zero_iff s.pendingSet s.alerts.wMask
    · rw [State.fFlag, Bool.or_eq_true, and_ne_zero_iff, junctionFault_iff]
    · rw [(outputs_of_running hs .high).1, State.alertWanted]
      cases s.alerts.mode <;> rfl
  · have hserve : serve (requestOf 0x49 (wordOf e.toNat ++ [g, m] ++ wordOf w.toNat ++ wordOf f.toNat)) s =
        done .none [] (s.setAlerts { s.alerts with
          enable := e, global := g == 1, mode := if m = 0 then .level else .pulse, wMask := w, fMask := f
          pulseEnd := if g = 0 ∨ m = 0 then none else s.alerts.pulseEnd }) := by
      refine (serve_setAlertConfig _ _ g m _ _ _ _ s).trans ?_
      rw [word16_source, word16_source, word16_source, ownSetAlertConfig, alertConfig_eq_some hg hm]
    obtain ⟨t, hexec, hanswer, hut, hst, -⟩ := answers_of_owner (c := .setAlertConfig _) hs rfl rfl hserve
      (frame_alertConfig _ rfl)
    refine ⟨t, hexec, hanswer, hst.mono (by simp), ?_⟩
    have hconf := hut .alertConfig (by simp)
    obtain ⟨-, hglobal, -⟩ := hconf
    rw [alerts_of_owner hs rfl rfl hserve hexec]
    have hempty (hg0 : g = 0) : t.activeSet = 0 := by
      refine if_neg ?_
      rw [hglobal]
      show ¬ (g == 1) = true
      rw [hg0]
      decide
    simp only [State.setAlerts_alerts, State.setAlerts_time]
    congr 1
    by_cases hm0 : m = 0
    · simp [hm0]
    · by_cases hg0 : g = 0
      · simp [hempty hg0, hg0]
      · have hnot : ¬ (g = 0 ∨ m = 0) := not_or.mpr ⟨hg0, hm0⟩
        simp only [if_neg hnot, if_neg hm0, true_and]
  · have hserve : serve (requestOf 0x4A (wordOf m.toNat)) s = done .none (sourceSetOf (s.alerts.latched &&& m))
        (s.setAlerts { s.alerts with latched := s.alerts.latched &&& ~~~m }) := by
      show ownAcknowledgeAlerts (word16 (BitVec.ofNat 8 (m.toNat / 256)) (BitVec.ofNat 8 m.toNat)) s = _
      rw [word16_source, ownAcknowledgeAlerts, sourceSet?_toNat]
    obtain ⟨t, hexec, hanswer, -, -, hquiet⟩ := answers_of_owner (c := .acknowledgeAlerts _) hs rfl rfl hserve
      (frame_setLatched s _)
    obtain ⟨hut, hst⟩ := hquiet (joined_of_acknowledged m s)
    exact ⟨t, hexec, hanswer, hst.mono (by simp), hut .latched (by simp)⟩
  · refine refuses_of_owner hs rfl rfl ((serve_setAlertConfig e1 e0 g m w1 w0 f1 f0 s).trans ?_)
    rw [ownSetAlertConfig, alertConfig_eq_none _ (hout.imp sourceSet?_of_high (Or.imp flag?_of_gt
      (Or.imp pinMode?_of_gt (Or.imp sourceSet?_of_high sourceSet?_of_high))))]
    rfl
  · refine refuses_of_owner hs rfl rfl ?_
    show ownAcknowledgeAlerts (word16 m1 m0) s = _
    rw [ownAcknowledgeAlerts, sourceSet?_of_high hm]
    rfl
  · have hserve : serve (requestOf 0x51 []) s = ownLockEdits () s := rfl
    cases hlock : s.port.editLock with
    | true =>
      rw [ownLockEdits, if_pos hlock] at hserve
      obtain ⟨t, hexec, hanswer, hut, hst⟩ := answers_of_quiet_owner (c := .lockEdits []) hs rfl rfl hserve
        (.refl [] s) (by simp [Quiet])
      exact ⟨t, hexec, hanswer, hst.mono (by simp), (hut .editLock (by simp)).trans hlock⟩
    | false =>
      rw [ownLockEdits, hlock] at hserve
      have hframe : Frame [.editLock] s (s.setPort { s.port with editLock := true }) := by
        intro b hb
        cases b with
        | editLock => simp at hb
        | _ => simp [Block.same]
      obtain ⟨t, hexec, hanswer, hut, hst⟩ := answers_of_quiet_owner (c := .lockEdits []) hs rfl rfl hserve
        hframe (by simp [Quiet])
      exact ⟨t, hexec, hanswer, hst.mono (by simp), hut .editLock (by simp)⟩

end Sys2Proof.Proofs
end

section
/-! SUPPORT. SET INPUT (R146), the release it makes, and the statement about it. -/

namespace Sys2Proof.Safety

open Sys2Proof.Machine

section
variable {issued : Prop} {s v w x t : State} {k : Fin 4}

theorem CatchesUp.congr {c : DayClock} {schedule : Vector ScheduleEntry Config.scheduleCount} (h : CatchesUp c schedule v)
    (hselector : t.selector = v.selector) : CatchesUp c schedule t :=
  ⟨hselector ▸ h.invalid, hselector ▸ h.empty, hselector ▸ h.nearest⟩

theorem ForceReleased.congr (h : ForceReleased k s v) (hselector : t.selector = v.selector)
    (hacts : SelectorActs (v.selector.requested ≠ s.selector.requested ∨ v.selector.requested ≠ s.target) s t) :
    ForceReleased k s t where
  caught hclock hentries := (h.caught hclock hentries).congr hselector
  requested := hselector ▸ h.requested
  acts := by rwa [hselector]

/-- A request whose owner makes a selector event and then writes an input: the outcome, told of the state the port
leaves. -/
theorem SelectorActs.of_owner_of_inputs (h : SelectorActs issued s (settle s w))
    (hsw : Frame [.inputs, .selector, .junctions, .latched] s w) (hwx : Frame [.inputs] w x)
    (hxt : Frame [.port, .pulseEnd] x t) (hquiet : joined s x = 0 → Frame [.port] x t) : SelectorActs issued s t := by
  have hwt : Frame [.inputs, .port, .pulseEnd] w t := (hwx.mono (by simp)).trans (hxt.mono (by simp))
  refine h.transfer (.refl s) ?_ ?_ ?_ fun hjunctions halerts => ?_
  · rw [settle_selector]
    exact hwt .selector (by simp)
  · rw [settle_junctions]
    exact hwt .junctions (by simp)
  · rw [settle_latched]
    exact hwt .latched (by simp)
  · rw [settle_junctions] at hjunctions
    have hlatched : w.alerts.latched = s.alerts.latched := by rw [← settle_latched s w, halerts]
    have hsx : Frame [.inputs, .selector] s x := by
      intro b hb
      have hkeeps : b.same s w := by
        by_cases hj : b = .junctions
        · exact hj ▸ hjunctions
        by_cases hla : b = .latched
        · exact hla ▸ hlatched
        exact hsw b (by simp_all)
      exact Block.same_trans hkeeps (hwx b (by simp_all))
    have hport := hquiet (joined_of_quiet hsx (by simp [Quiet]))
    exact alerts_of_frame ((hsx.mono (m := [.inputs, .selector, .port]) (by simp)).trans (hport.mono (by simp))) (by simp)

end

end Sys2Proof.Safety

namespace Sys2Proof.Machine

open Sys2Proof.Safety

/-! ## The forcing input of the lowest index (R52) -/

theorem exists_forcing (s : State) : ∃ x, Forcing s x := by
  by_cases h : ∃ k : Fin 4, ∃ p, s.inputs[k].func = .planForce p ∧ s.inputs[k].validated = true
  · obtain ⟨k, ⟨p, hfunc, hvalidated⟩, hleast⟩ := (wellFounded_lt (α := Fin 4)).has_min
      {k | ∃ p, s.inputs[k].func = .planForce p ∧ s.inputs[k].validated = true} h
    refine ⟨some (k, p), hfunc, hvalidated, fun m q hm hq => ?_⟩
    by_contra hvalid
    exact hleast m ⟨q, hq, by simpa using hvalid⟩ hm
  · refine ⟨none, fun k p hk => ?_⟩
    by_contra hvalid
    exact h ⟨k, p, hk, by simpa using hvalid⟩

/-- READ INPUTS shows the configuration of each input (R147). -/
theorem readInputs_stored {s : State} (hs : Idle s) {k : Fin 4} {i : Input} (hi : s.inputs[k] = i) :
    Reads (.readInputs []) s 0x41 (fun payload => slice payload (1 + 2 * k.val) 2 = functionBytes i.func ∧
      slice payload (9 + k.val) 1 = [if i.polarity = .activeLow then 0 else 1] ∧
      slice payload (13 + k.val) 1 = [BitVec.ofNat 8 i.assertTime] ∧
      slice payload (17 + k.val) 1 = [BitVec.ofNat 8 i.releaseTime]) := by
  obtain ⟨x, hx⟩ := exists_forcing s
  obtain ⟨-, -, hitems, -⟩ := inputsRead hx
  obtain ⟨hfunc, hpolarity, hassert, hrelease, -⟩ := hitems k
  rw [hi] at hfunc hpolarity hassert hrelease
  exact reads_of_owner hs rfl rfl rfl ⟨hfunc, hpolarity, hassert, hrelease⟩

/-! ## The fields of SET INPUT (R146) -/

section
variable {i f p q a r : Byte}

/-- The function that SET INPUT carries. -/
def functionOf (f p : Byte) : InputFunction :=
  if f = 0 then .none else if f = 1 then .editEnable else if f = 2 then .corridorFree else .planForce p.toNat

theorem byte_cases_of_le_three {b : Byte} (h : b.toNat ≤ 3) : b = 0 ∨ b = 1 ∨ b = 2 ∨ b = 3 := by bv_omega

theorem functionBytes_functionOf (hf : f.toNat ≤ 3) : functionBytes (functionOf f p) = [f, if f = 3 then p else 0] := by
  rw [functionBytes_eq]
  obtain rfl | rfl | rfl | rfl := byte_cases_of_le_three hf
  · rfl
  · rfl
  · rfl
  · exact congrArg (fun b => [(3 : Byte), b]) (ofNat_toNat_byte p)

theorem inputConfig_eq_some (hf : f.toNat ≤ 3) (hp : p.toNat ≤ 8) (hq : q.toNat ≤ 1) :
    InputFields.config ⟨i.toNat, f.toNat, p.toNat, q.toNat, a.toNat, r.toNat⟩ =
      some (functionOf f p, if q = 0 then .activeLow else .activeHigh) := by
  have hplan : p.toNat ≤ Config.planCount := hp
  have ha : a.toNat ≤ 255 := by have := a.isLt; omega
  have hr : r.toNat ≤ 255 := by have := r.isLt; omega
  have hfunction : inputFunction? f.toNat p.toNat = some (functionOf f p) := by
    obtain rfl | rfl | rfl | rfl := byte_cases_of_le_three hf <;> rfl
  have hpolarity : polarity? q.toNat = some (if q = 0 then .activeLow else .activeHigh) := by
    obtain rfl | rfl := byte_cases_of_le_one hq <;> rfl
  simp only [InputFields.config, hplan, ha, hr, decide_true, Bool.and_self, if_true, hfunction, hpolarity]

theorem inputConfig_eq_none (h : 3 < f.toNat ∨ 8 < p.toNat ∨ 1 < q.toNat) :
    InputFields.config ⟨i.toNat, f.toNat, p.toNat, q.toNat, a.toNat, r.toNat⟩ = none := by
  unfold InputFields.config
  split
  · next hrange =>
    have hplan : p.toNat ≤ 8 := by
      simp only [Bool.and_eq_true, decide_eq_true_eq] at hrange
      exact hrange.1.1
    obtain hf | hp | hq := h
    · have hnone : inputFunction? f.toNat p.toNat = none := by
        rw [inputFunction?, if_neg (by omega), if_neg (by omega), if_neg (by omega), if_neg (by omega)]
      rw [hnone]
    · omega
    · have hnone : polarity? q.toNat = none := by rw [polarity?, if_neg (by omega), if_neg (by omega)]
      rw [hnone]
      cases inputFunction? f.toNat p.toNat <;> rfl
  · rfl

end

/-! ## The release and the new configuration (R146) -/

section
variable {k : Fin 4} {s : State}

/-- An input but for its run, as its release leaves it. -/
theorem releaseInput_get (k : Fin 4) (s : State) (m : Fin 4) : (releaseInput k s).inputs[m] =
    if m = k then { s.inputs[k] with validated := false, runStart := (releaseInput k s).inputs[k].runStart }
    else s.inputs[m] := by
  unfold releaseInput
  split
  · simp only [changeInput_inputs, setValidated_get, if_true]
  · next h =>
    split
    · next hm =>
      subst hm
      rw [← Bool.eq_false_of_not_eq_true h]
    · rfl

theorem configureInput_get (f : InputFunction) (p : Polarity) (a r : Nat) (m : Fin 4) :
    (configureInput k f p a r (releaseInput k s)).inputs[m] = if m ≠ k then s.inputs[m] else
      ⟨f, p, a, r, s.inputs[k].raw, none, false⟩ := by
  have hself := releaseInput_get k s k
  rw [if_pos rfl] at hself
  have hput : (configureInput k f p a r (releaseInput k s)).inputs[m] = if m = k then
      { (releaseInput k s).inputs[k] with func := f, polarity := p, assertTime := a, releaseTime := r, runStart := none }
      else (releaseInput k s).inputs[m] := put_get ..
  rw [hput]
  by_cases hm : m = k
  · rw [if_pos hm, if_neg (not_not_intro hm), hself]
  · rw [if_neg hm, if_pos hm, releaseInput_get, if_neg hm]

theorem frame_configureInput (k : Fin 4) (f : InputFunction) (p : Polarity) (a r : Nat) (s : State) :
    Frame [.inputs] s (configureInput k f p a r s) := frame_setInputs s _

theorem releaseInput_of_validated (h : s.inputs[k].validated = true) : releaseInput k s = changeInput k false s :=
  if_pos h

/-- A release that has no owner to tell writes the input alone. -/
theorem frame_releaseInput_of_unowned
    (h : s.inputs[k].validated = false ∨ s.inputs[k].func = .none ∨ s.inputs[k].func = .editEnable) :
    Frame [.inputs] s (releaseInput k s) := by
  unfold releaseInput
  split
  · next hvalidated =>
    obtain hfalse | hfunc := h
    · exact absurd (hfalse.symm.trans hvalidated) Bool.false_ne_true
    · rw [changeInput_of_free hfunc]
      exact frame_setValidated k false s
  · exact .refl _ s

theorem frame_changeInput_of_corridorFree (h : s.inputs[k].func = .corridorFree) (v : Bool) :
    Frame [.inputs, .junctions] s (changeInput k v s) := by
  obtain ⟨f, hchange, -⟩ := settle_changeInput_of_corridorFree (v := v) h
  rw [hchange]
  exact ((frame_setValidated k v s).mono (by simp)).trans ((frame_setJunctions _ _).mono (by simp))

/-- The change of a CORRIDOR_FREE input leaves the pending set. -/
theorem changeInput_pendingSet_of_corridorFree (h : s.inputs[k].func = .corridorFree) (v : Bool) :
    (changeInput k v s).pendingSet = s.pendingSet := by
  obtain ⟨f, hkeeps, hmap⟩ := corridorFreeChange_eq_map s.corridorFree (setValidated k v s)
  rw [changeInput_of_corridorFree h, hmap, pendingSet_of_keepsAlertStates hkeeps]
  exact pendingSet_congr rfl rfl rfl rfl

end

end Sys2Proof.Machine

namespace Sys2Proof.Proofs

open Sys2Proof.Machine Sys2Proof.Safety

/-- Settles O59: the release by the owner of the old function, then the configuration. -/
theorem setInputStoresConfiguration : Obligations.SetInputStoresConfiguration := by
  intro i f p q a r s hs hopen
  have hserve : serve (requestOf 0x40 [i, f, p, q, a, r]) s =
      ownSetInput ⟨i.toNat, f.toNat, p.toNat, q.toNat, a.toNat, r.toNat⟩ s :=
    serve_edit (q := reqSetInput [i, f, p, q, a, r]) rfl hopen
  refine ⟨fun hout => refuses_of_owner hs rfl rfl (hserve.trans ?_), fun k hk hf hp hq => ?_⟩
  · unfold ownSetInput
    obtain hi | hout := hout
    · rw [index?_eq_none hi]
      rfl
    · rw [inputConfig_eq_none hout]
      cases index? Config.inputCount i.toNat <;> rfl
  · have hindex : index? Config.inputCount i.toNat = some k := index?_eq_some.mpr hk
    have haccept : serve (requestOf 0x40 [i, f, p, q, a, r]) s = done .none [] (configureInput k (functionOf f p)
        (if q = 0 then .activeLow else .activeHigh) a.toNat r.toNat (releaseInput k s)) := by
      rw [hserve]
      unfold ownSetInput
      rw [hindex, inputConfig_eq_some hf hp hq]
    generalize hx : configureInput k (functionOf f p) (if q = 0 then .activeLow else .activeHigh) a.toNat r.toNat
      (releaseInput k s) = x at haccept
    have hwx : Frame [.inputs] (releaseInput k s) x := hx ▸ frame_configureInput k _ _ _ _ _
    have hsx : Frame [.inputs, .selector, .junctions, .latched] s x :=
      (frame_releaseInput k s).trans (hwx.mono (by simp))
    obtain ⟨t, hexec, hanswer, hxt, hst, hquiet⟩ := answers_of_owner (c := .setInput _) hs rfl rfl haccept hsx
    have hinputs (m : Fin 4) : t.inputs[m] = if m ≠ k then s.inputs[m] else
        ⟨functionOf f p, if q = 0 then .activeLow else .activeHigh, a.toNat, r.toNat, s.inputs[k].raw, none, false⟩ := by
      rw [hxt .inputs (by simp), ← hx]
      exact configureInput_get ..
    have hstored : (released t).inputs[k] = _ := (hinputs k).trans (if_neg (not_not_intro rfl))
    obtain ⟨u, payload, hread, hreads, -, hfunc, hpolarity, hassert, hrelease⟩ :=
      readInputs_stored (idle_released hs.1 hst (by simp)) hstored
    refine ⟨t, hexec, hanswer, hinputs, hst.mono (by simp), fun hunowned => ?_, fun hvalidated hfree halone => ?_,
      fun y hvalidated hforce => ?_, u, payload, hread, hreads, hfunc.trans (functionBytes_functionOf hf),
      hpolarity.trans ?_, hassert.trans ?_, hrelease.trans ?_⟩
    · have hsx : Frame [.inputs] s x := (frame_releaseInput_of_unowned hunowned).trans hwx
      obtain ⟨hxt, -⟩ := hquiet (joined_of_quiet hsx (by simp [Quiet]))
      exact (hsx.mono (by simp)).trans (hxt.mono (by simp))
    · rw [releaseInput_of_validated hvalidated] at hwx
      have hsw := frame_changeInput_of_corridorFree hfree false
      have hsx : Frame [.inputs, .junctions] s x := hsw.trans (hwx.mono (by simp))
      have hpending : x.pendingSet = s.pendingSet := by
        rw [← changeInput_pendingSet_of_corridorFree hfree false]
        have hready : x.resultReady = (changeInput k false s).resultReady := by
          simp only [State.resultReady, (hwx .port (by simp)).1]
        exact pendingSet_congr (hwx .time (by simp)) (hwx .junctions (by simp)) (hwx .latched (by simp)) hready
      obtain ⟨hxt, -⟩ := hquiet (joined_of_pendingSet hpending (hsx .alertConfig (by simp)))
      refine ⟨(hsx.mono (by simp)).trans (hxt.mono (by simp)), fun j old w hold hw => ?_⟩
      have hjunctions : t.junctions = (changeInput k false s).junctions :=
        (hxt .junctions (by simp)).trans (hwx .junctions (by simp))
      exact changeInput_moves hfree (by rw [hvalidated]; rfl) halone hold (hjunctions ▸ hw)
    · rw [releaseInput_of_validated hvalidated] at hwx
      have hreleased := changeInput_releases hforce rfl rfl (s := s)
      have hselector : t.selector = (settle s (changeInput k false s)).selector := by
        rw [settle_selector]
        exact (hxt .selector (by simp)).trans (hwx .selector (by simp))
      exact hreleased.congr hselector
        (hreleased.acts.of_owner_of_inputs (frame_changeInput k false s) hwx hxt fun h => (hquiet h).1)
    · obtain rfl | rfl := byte_cases_of_le_one hq <;> rfl
    · rw [ofNat_toNat_byte]
    · rw [ofNat_toNat_byte]

end Sys2Proof.Proofs
end

section
/-! SUPPORT. Times counted from one origin (R2), and the best record of a table that prefers a slot on a tie. -/

namespace Sys2Proof.Machine

open Sys2Proof.Safety

/-! ## Times counted from one origin -/

section
variable {t : Ct} {a b : Int}

theorem ahead_offsets (t : Ct) (a b : Int) :
    (ahead (t + BitVec.ofInt 32 a) (t + BitVec.ofInt 32 b) : Int) = (b - a) % 4294967296 := by
  have hdiff : t + BitVec.ofInt 32 b - (t + BitVec.ofInt 32 a) = BitVec.ofInt 32 (b - a) := by
    rw [Int.sub_eq_add_neg, BitVec.ofInt_add, BitVec.ofInt_neg, BitVec.sub_eq_add_neg]
    bv_omega
  rw [ahead, hdiff, BitVec.toNat_ofInt]
  omega

theorem before_offsets (ha : -200000 ≤ a) (ha' : a ≤ 200000) (hb : -200000 ≤ b) (hb' : b ≤ 200000) :
    before (t + BitVec.ofInt 32 a) (t + BitVec.ofInt 32 b) = true ↔ a < b := by
  have hahead := ahead_offsets t a b
  rw [before_iff]
  omega

theorem atOrBefore_offsets (ha : -200000 ≤ a) (ha' : a ≤ 200000) (hb : -200000 ≤ b) (hb' : b ≤ 200000) :
    atOrBefore (t + BitVec.ofInt 32 a) (t + BitVec.ofInt 32 b) = true ↔ a ≤ b := by
  have hahead := ahead_offsets t a b
  rw [atOrBefore_iff]
  omega

theorem ahead_offsets_of_le (hab : a ≤ b) (h : b - a ≤ 400000) :
    ahead (t + BitVec.ofInt 32 a) (t + BitVec.ofInt 32 b) = (b - a).toNat := by
  have hahead := ahead_offsets t a b
  omega

theorem later_offsets (ha : -200000 ≤ a) (ha' : a ≤ 200000) (hb : -200000 ≤ b) (hb' : b ≤ 200000) :
    later (t + BitVec.ofInt 32 a) (t + BitVec.ofInt 32 b) = t + BitVec.ofInt 32 (max a b) := by
  unfold later
  split
  · next h =>
    rw [before_offsets ha ha' hb hb'] at h
    rw [max_eq_right h.le]
  · next h =>
    rw [before_offsets ha ha' hb hb'] at h
    rw [max_eq_left (by omega)]

theorem earlier_offsets (ha : -200000 ≤ a) (ha' : a ≤ 200000) (hb : -200000 ≤ b) (hb' : b ≤ 200000) :
    earlier (t + BitVec.ofInt 32 a) (t + BitVec.ofInt 32 b) = t + BitVec.ofInt 32 (min a b) := by
  unfold earlier
  split
  · next h =>
    rw [before_offsets hb hb' ha ha'] at h
    rw [min_eq_right h.le]
  · next h =>
    rw [before_offsets hb hb' ha ha'] at h
    rw [min_eq_left (by omega)]

theorem plus_offset (t : Ct) (a : Int) (d : Nat) : plus (t + BitVec.ofInt 32 a) d = t + BitVec.ofInt 32 (a + d) := by
  rw [plus, BitVec.ofInt_add, BitVec.ofInt_natCast, BitVec.add_assoc]

theorem minus_offset (t : Ct) (a : Int) (d : Nat) : minus (t + BitVec.ofInt 32 a) d = t + BitVec.ofInt 32 (a - d) := by
  rw [minus, Int.sub_eq_add_neg, BitVec.ofInt_add, BitVec.ofInt_neg, BitVec.ofInt_natCast, BitVec.sub_eq_add_neg,
    BitVec.add_assoc]

theorem ofNat_offset (t : Ct) (d : Nat) : t + BitVec.ofNat 32 d = t + BitVec.ofInt 32 d := by
  rw [BitVec.ofInt_natCast]

theorem zero_offset (t : Ct) : t = t + BitVec.ofInt 32 0 := by simp

end

/-! ## The latest of times that lie ahead of now (R86) -/

section
variable {now t u : Ct} {n : Nat}

theorem ahead_later (ht : ahead now t ≤ 300) (hu : ahead now u ≤ 300) :
    ahead now (later t u) = max (ahead now t) (ahead now u) := by
  have hdiff := ahead_from now t u
  unfold later
  split
  · next h =>
    rw [before_iff] at h
    omega
  · next h =>
    rw [before_iff] at h
    omega

theorem ahead_foldl_later {t : Ct} {ts : List Ct} (ht : ahead now t ≤ 300) (hts : ∀ u ∈ ts, ahead now u ≤ 300) :
    ∀ u ∈ t :: ts, ahead now u ≤ ahead now (ts.foldl later t) := by
  induction ts generalizing t with
  | nil => simp
  | cons x xs ih =>
    have hx := hts x (by simp)
    have hlater := ahead_later ht hx
    have hleast := ih (t := later t x) (by omega) fun u hu => hts u (List.mem_cons_of_mem _ hu)
    have hhead := hleast _ (List.mem_cons_self ..)
    rw [List.foldl_cons]
    intro u hu
    rcases List.mem_cons.mp hu with rfl | hu
    · omega
    · rcases List.mem_cons.mp hu with rfl | hu
      · omega
      · exact hleast u (List.mem_cons_of_mem _ hu)

theorem atOrBefore_of_ahead_le (h : ahead now t ≤ ahead now u) (hu : ahead now u ≤ 300) : atOrBefore t u = true := by
  have hdiff := ahead_from now t u
  rw [atOrBefore_iff]
  omega

end

/-! ## The best record of a table -/

theorem lives_sorted {α : Type} {n : Nat} (v : Vector (Slot α) n) : (lives v).Pairwise fun x y => x.1 < y.1 := by
  refine List.Pairwise.filterMap _ (fun i j hij x hx y hy => ?_) (List.pairwise_lt_finRange n)
  obtain ⟨r, -, rfl⟩ := Option.map_eq_some_iff.mp hx
  obtain ⟨r', -, rfl⟩ := Option.map_eq_some_iff.mp hy
  exact hij

/-- The best of a list that is split at it: it beats what comes before it, and nothing after beats it. -/
theorem best_of_split {α : Type} {beats : α → α → Bool} {front back : List α} {x : α}
    (hfront : ∀ y ∈ front, beats x y = true) (hback : ∀ y ∈ back, beats y x = false) :
    best beats (front ++ x :: back) = some x := by
  have hstay : back.foldl (fun b y => if beats y b then y else b) x = x := by
    induction back with
    | nil => rfl
    | cons y ys ih =>
      rw [List.foldl_cons, hback y (by simp)]
      exact ih fun z hz => hback z (List.mem_cons_of_mem _ hz)
  have hrun (b : α) (hb : beats x b = true) (l : List α) (hl : ∀ y ∈ l, beats x y = true) :
      (l ++ x :: back).foldl (fun b y => if beats y b then y else b) b = x := by
    induction l generalizing b with
    | nil => simp [hb, hstay]
    | cons y ys ih =>
      rw [List.cons_append, List.foldl_cons]
      refine ih _ ?_ fun z hz => hl z (List.mem_cons_of_mem _ hz)
      split
      · exact hl y (by simp)
      · exact hb
  cases front with
  | nil => exact congrArg some hstay
  | cons b bs => exact congrArg some (hrun b (hfront b (by simp)) bs fun y hy => hfront y (List.mem_cons_of_mem _ hy))

/-- The best of a list in the order of the slots, the lower slot on a tie. -/
theorem best_of_lower {α : Type} {n : Nat} {beats : Fin n × α → Fin n × α → Bool} {l : List (Fin n × α)} {x : Fin n × α}
    (hsorted : l.Pairwise fun x y => x.1 < y.1) (hx : x ∈ l) (hlower : ∀ y ∈ l, y.1 < x.1 → beats x y = true)
    (hhigher : ∀ y ∈ l, x.1 < y.1 → beats y x = false) : best beats l = some x := by
  obtain ⟨front, back, rfl⟩ := List.append_of_mem hx
  rw [List.pairwise_append, List.pairwise_cons] at hsorted
  obtain ⟨-, ⟨hback, -⟩, hfront⟩ := hsorted
  refine best_of_split (fun y hy => hlower y (by simp [hy]) (hfront y hy x (by simp))) fun y hy => ?_
  exact hhigher y (by simp [hy]) (hback y hy)

end Sys2Proof.Machine
end

section
/-! SUPPORT. The green-end check (R83 to R89): its candidates as the spec describes them, how it closes and how it
extends, and what it leaves. -/

namespace Sys2Proof.Machine

open Sys2Proof.Safety

/-! ## The view of a check and its candidates (R84, R85, R93) -/

/-- The view that a green-end check of junction `j` reads. -/
def viewOf (j : Nat) (q : Junction) (c : Cycle) (s : State) : CheckView := ⟨j, q, s.attributes j, c, s.now⟩

section
variable {j : Nat} {q : Junction} {w : Window} {c : Cycle} {s : State}

theorem suppressed_iff {d : Direction} : suppressed (s.attributes j) q d = true ↔ HeldBack j q d s := by
  cases d <;> simp [suppressed, HeldBack, Junction.spill]

theorem platoonCandidate_iff {r : Platoon} :
    (viewOf j q c s).platoonCandidate r = true ↔ PlatoonCandidate j q c r s := by
  simp only [viewOf, CheckView.platoonCandidate, Bool.and_eq_true, Bool.not_eq_true', beq_iff_eq, and_assoc]
  rw [← Bool.not_eq_true, suppressed_iff]
  exact ⟨fun ⟨h1, h2, h3, h4, h5⟩ => ⟨h1, h2, h3, h4, h5⟩, fun h => ⟨h.cur, h.direction, h.allowed, h.head, h.tail⟩⟩

theorem priorityCandidate_iff {r : Priority} :
    (viewOf j q c s).priorityCandidate r = true ↔ PriorityCandidate j q c r s := by
  simp only [viewOf, CheckView.priorityCandidate, Bool.and_eq_true, Bool.not_eq_true', beq_iff_eq, and_assoc,
    Priority.waiting, Option.isNone_iff_eq_none]
  rw [← Bool.not_eq_true (suppressed _ _ _), suppressed_iff]
  exact ⟨fun ⟨h1, h2, h3, h4, h5, h6, h7, h8⟩ => ⟨⟨h1, h2, h3, h4, h5⟩, h6, h7, h8⟩,
    fun ⟨⟨h1, h2, h3, h4, h5⟩, h6, h7, h8⟩ => ⟨h1, h2, h3, h4, h5, h6, h7, h8⟩⟩

theorem mem_targets {t : Ct} : t ∈ (viewOf j q c s).targets s ↔
    (∃ e ∈ s.livePlatoons, PlatoonCandidate j q c e.2 s ∧ t = platoonTarget c e.2 s) ∨
      ∃ e ∈ s.livePriorities, PriorityCandidate j q c e.2 s ∧ t = e.2.eta + BitVec.ofNat 32 c.held.m := by
  simp only [CheckView.targets, List.mem_append, List.mem_map, List.mem_filter, platoonCandidate_iff,
    priorityCandidate_iff, and_assoc]
  refine or_congr (exists_congr fun e => and_congr_right fun _ => and_congr_right fun _ => eq_comm)
    (exists_congr fun e => and_congr_right fun _ => and_congr_right fun _ => eq_comm)

theorem targets_eq_nil : (viewOf j q c s).targets s = [] ↔
    (∀ e ∈ s.livePlatoons, ¬ PlatoonCandidate j q c e.2 s) ∧ ∀ e ∈ s.livePriorities, ¬ PriorityCandidate j q c e.2 s := by
  simp only [CheckView.targets, List.append_eq_nil_iff, List.map_eq_nil_iff, List.filter_eq_nil_iff, platoonCandidate_iff,
    priorityCandidate_iff]

/-! ## Closing and extending (R86 to R89) -/

theorem checkGreen_of_closes (start : Ct) (h : Closes j q c s) :
    checkGreen (viewOf j q c s) start s = closeGreen (viewOf j q c s) s := by
  unfold checkGreen
  split
  · rfl
  · next hsome =>
    obtain hreach | hnone := h
    · exact if_pos (Nat.sub_eq_zero_of_le hreach)
    · rw [targets_eq_nil.mpr hnone] at hsome
      simp at hsome

/-- A check that does not close extends to one of its targets. -/
theorem checkGreen_of_extends (start : Ct) (h : ¬ Closes j q c s) : ∃ t ts, (viewOf j q c s).targets s = t :: ts ∧
    checkGreen (viewOf j q c s) start s = extendGreen (viewOf j q c s) start (ts.foldl later t) s := by
  obtain ⟨hreach, hsome⟩ := not_or.mp h
  cases htargets : (viewOf j q c s).targets s with
  | nil => exact absurd (targets_eq_nil.mp htargets) hsome
  | cons t ts =>
    refine ⟨t, ts, rfl, ?_⟩
    have hpos : ¬ (viewOf j q c s).reach = 0 := by
      show ¬ c.held.xMax - c.x = 0
      omega
    simp only [checkGreen, htargets, if_neg hpos]

/-- Every target of a check with reach left lies after now. -/
theorem ahead_target_pos (hx : c.x < c.held.xMax) (hmax : c.held.xMax ≤ 300) {t : Ct}
    (ht : t ∈ (viewOf j q c s).targets s) : 1 ≤ ahead s.time.ct t := by
  rcases mem_targets.mp ht with ⟨e, -, hcandidate, rfl⟩ | ⟨e, -, hcandidate, rfl⟩
  · have htail := before_iff.mp hcandidate.tail
    unfold platoonTarget
    dsimp only
    split
    · have hlimit := ahead_add s.time.ct (c.held.xMax - c.x) (by omega)
      rw [plus] at hlimit
      omega
    · exact htail.1
  · exact (before_iff.mp hcandidate.after).1

/-- The latest target of a check: one of the targets, with every other at or before it, within the reach. -/
theorem latest_target {t : Ct} {ts : List Ct} (hmax : c.held.xMax ≤ 300)
    (htargets : (viewOf j q c s).targets s = t :: ts) :
    ts.foldl later t ∈ (viewOf j q c s).targets s ∧
      (∀ u ∈ (viewOf j q c s).targets s, atOrBefore u (ts.foldl later t) = true) := by
  have hreach : ∀ u ∈ t :: ts, ahead s.time.ct u ≤ 300 := fun u hu =>
    (targets_within_reach (v := viewOf j q c s) hmax (htargets ▸ hu)).trans ((Nat.sub_le _ _).trans hmax)
  have hmem := foldl_later_mem t ts
  rw [htargets]
  refine ⟨hmem, fun u hu => atOrBefore_of_ahead_le (now := s.time.ct) ?_ (hreach _ hmem)⟩
  exact ahead_foldl_later (hreach t (by simp)) (fun x hx => hreach x (List.mem_cons_of_mem _ hx)) u hu

end

/-! ## The junction at a check -/

section
variable {q : Junction} {w : Window} {c : Cycle}

theorem window_of_acting (h : q.state = .seek w ∨ q.state = .inStep w) : q.state.window? = some w := by
  obtain h | h := h <;> rw [h] <;> rfl

theorem acting_of_window (h : q.state.window? = some w) : q.state = .seek w ∨ q.state = .inStep w := by
  cases hstate : q.state with
  | seek v | inStep v => simpa [hstate, Coordination.window?] using h
  | free cause | preempt a b r => simp [hstate, Coordination.window?] at h

theorem setCycle_of_window (h : q.state.window? = some w) (c : Cycle) :
    q.setCycle c = { q with state := q.state.setWindow { w with cycle := some c } } := by
  rw [Junction.setCycle, h]

theorem isFault_setWindow (d : Coordination) (w : Window) : (d.setWindow w).isFault = d.isFault := by cases d <;> rfl

theorem isPreempt_setWindow (d : Coordination) (w : Window) : (d.setWindow w).isPreempt = d.isPreempt := by
  cases d <;> rfl

/-- Another cycle keeps what the alert sources read of a junction. -/
theorem isFault_setCycle (q : Junction) (c : Cycle) : (q.setCycle c).state.isFault = q.state.isFault := by
  unfold Junction.setCycle
  split
  · exact isFault_setWindow ..
  · rfl

theorem isPreempt_setCycle (q : Junction) (c : Cycle) : (q.setCycle c).state.isPreempt = q.state.isPreempt := by
  unfold Junction.setCycle
  split
  · exact isPreempt_setWindow ..
  · rfl

end

/-! ## An early-green evaluation and a check bring no alert source in -/

section
variable {j : Nat} {s : State}

theorem frame_rewritten (s : State) (js : List Junction) (v : Vector (Slot Priority) Config.prioritySlots) :
    Frame [.junctions, .priorities] s ((s.setJunctions js).setPriorities v) :=
  ((frame_setJunctions s js).mono (by simp)).trans ((frame_setPriorities _ v).mono (by simp))

theorem extendGreen_eq {q : Junction} {c : Cycle} (hq : s.junctions[j]? = some q) (start newEnd : Ct) :
    extendGreen (viewOf j q c s) start newEnd s = (s.setJunctions (s.junctions.set j
      (if s.livePriorities.any fun r => (viewOf j q c s).priorityCandidate r.2 then
        (q.setCycle (extendCycle start q.smin s.now newEnd c)).grantWith c.held.r
      else q.setCycle (extendCycle start q.smin s.now newEnd c)))).setPriorities
        (grantRecords (viewOf j q c s).priorityCandidate .extension s.now s.priorities) := by
  simp only [extendGreen, viewOf, updateJunction_of_get hq]

theorem grantEarly_eq {q : Junction} {w : Window} {c : Cycle} {k : Fin 16} {r : Priority}
    (hq : s.junctions[j]? = some q) (newEnd : Ct) : grantEarly j q w c k r newEnd s =
      (s.setJunctions (s.junctions.set j ((q.setCycle (shortenCycle w.start newEnd c)).grantWith c.held.r))).setPriorities
        (rewrite s.priorities k (r.grantAs .early s.now)) := by
  simp only [grantEarly, updateJunction_of_get hq]

theorem frame_evaluateEarly (j : Nat) (s : State) : Frame [.junctions, .priorities] s (evaluateEarly j s) := by
  rcases evaluateEarly_cases j s with e | ⟨q, w, c, k, r, hq, -, -, -, -, -, e⟩
  · rw [e]
    exact .refl _ s
  · rw [e, grantEarly_eq hq]
    exact frame_rewritten s _ _

/-- An evaluation keeps what the alert sources read of every junction. -/
theorem evaluateEarly_alerts {test : Coordination → Bool} (htest : ∀ (q : Junction) (c : Cycle),
    test (q.setCycle c).state = test q.state) (h : (evaluateEarly j s).anyJunction test = true) :
    s.anyJunction test = true := by
  rcases evaluateEarly_cases j s with e | ⟨q, w, c, k, r, hq, -, -, -, -, -, e⟩ <;> rw [e] at h
  · exact h
  · rw [grantEarly_eq hq] at h
    refine anyJunction_of_replaced hq (State.setPriorities_junctions ..) (fun hnew => ?_) h
    exact (htest q _).symm.trans hnew

end

end Sys2Proof.Machine
end

section
/-! SUPPORT. The early-green evaluation (R94 to R96) and the GREEN_END_CHECK event (R83, R89). -/

namespace Sys2Proof.Machine

open Sys2Proof.Safety

/-! ## The early-green evaluation (R94 to R96) -/

section
variable {j : Nat} {q : Junction} {w : Window} {c : Cycle} {k : Fin 16} {r : Priority} {s : State}

theorem mayShorten_iff : mayShorten (s.attributes j) q c = true ↔
    c.phase = .side ∧ q.lockout = 0 ∧ q.granted = false ∧ (s.attributes j).noPriority = false ∧ c.y < c.held.eMax := by
  simp [mayShorten, and_assoc]

theorem mayShorten_of_window (hq : s.junctions[j]? = some q) (hw : q.state.window? = some w) (hc : q.cycle? = some c)
    (h : mayShorten (s.attributes j) q c = true) : MayShorten j q w c s := by
  obtain ⟨hside, hlockout, hgranted, hallowed, hroom⟩ := mayShorten_iff.mp h
  have hcycle : w.cycle = some c := by
    rw [Junction.cycle?, hw] at hc
    exact hc
  exact ⟨hq, acting_of_window hw, hcycle, hside, hlockout, hgranted, hallowed, hroom⟩

theorem mem_waitingLate {e : Fin 16 × Priority} :
    e ∈ s.livePriorities.filter (fun r => r.2.junction == j && r.2.waiting && r.2.cls == .late) ↔
      e ∈ s.livePriorities ∧ WaitsLate j e.2 := by
  simp [List.mem_filter, WaitsLate, Priority.waiting, and_assoc]

theorem waitsLate_of_earliestLate (h : earliestLate j s = some (k, r)) : WaitsLate j r :=
  (mem_waitingLate.mp (best_mem h)).2

theorem earliestLate_eq (h : EarliestLate j k r s) : earliestLate j s = some (k, r) := by
  refine best_of_lower ((lives_sorted s.priorities).filter _) (mem_waitingLate.mpr ⟨mem_lives.mpr h.live, h.waits⟩)
    (fun e he hlt => ?_) (fun e he hlt => ?_)
  all_goals
    obtain ⟨hlive, hwaits⟩ := mem_waitingLate.mp he
  · obtain hbefore | ⟨-, hgt⟩ := h.first e hlive hlt.ne hwaits
    · exact hbefore
    · exact absurd hgt (lt_asymm hlt)
  · obtain hbefore | ⟨heta, -⟩ := h.first e hlive hlt.ne' hwaits
    · exact before_asymm hbefore
    · show before e.2.eta r.eta = false
      rw [heta]
      exact before_self _

theorem evaluateEarly_of_unmet (h : (∀ q w c, ¬ MayShorten j q w c s) ∨ ∀ e ∈ s.livePriorities, ¬ WaitsLate j e.2) :
    evaluateEarly j s = s := by
  rcases evaluateEarly_cases j s with e | ⟨q, w, c, k, r, hq, hw, hc, hmay, hlate, -, -⟩
  · exact e
  · obtain hno | hno := h
    · exact absurd (mayShorten_of_window hq hw hc hmay) (hno q w c)
    · exact absurd (waitsLate_of_earliestLate hlate) (hno _ (mem_lives.mpr (earliestLate_live hlate)))

theorem evaluateEarly_of_met (hmay : MayShorten j q w c s) (hlate : EarliestLate j k r s) :
    evaluateEarly j s = if before (earlyEnd w.start c q.smin s.now r.eta) (plus w.start c.lc) then
      grantEarly j q w c k r (earlyEnd w.start c q.smin s.now r.eta) s else s := by
  have hw := window_of_acting hmay.window
  have hc : q.cycle? = some c := by
    rw [Junction.cycle?, hw]
    exact hmay.cycle
  have hshorten := mayShorten_iff.mpr ⟨hmay.side, hmay.lockout, hmay.granted, hmay.allowed, hmay.room⟩
  simp only [evaluateEarly, hmay.junction, hw, hc, hshorten, if_true, earliestLate_eq hlate]

/-- The new end, counted from the local cycle start (R95). -/
theorem earlyEnd_offset {start now eta : Ct} {smin nowAt green : Nat} {etaAt : Int} (hroom : c.y < c.held.eMax)
    (hnow : now = start + BitVec.ofNat 32 nowAt) (hnow' : nowAt ≤ 100000)
    (hgreen : c.greenEnd = start + BitVec.ofNat 32 green) (hgreen' : green ≤ 100000)
    (heta : eta = start + BitVec.ofInt 32 etaAt) (hlow : -100000 ≤ etaAt) (hhigh : etaAt ≤ 100000)
    (hlc : c.lc ≤ 100000) (hsmin : smin ≤ 1200) (hm : c.held.m ≤ 50) (hmax : c.held.eMax ≤ 300) :
    earlyEnd start c smin now eta = start + BitVec.ofInt 32
      (max (max (max (green + smin : Int) (etaAt - c.held.m)) nowAt) (c.lc - (c.held.eMax - c.y))) := by
  have hleft : ((c.held.eMax - c.y : Nat) : Int) = c.held.eMax - c.y := Nat.cast_sub hroom.le
  rw [earlyEnd, hgreen, heta, hnow, plus, plus, minus, minus]
  rw [ofNat_offset start green, ofNat_offset start nowAt, ofNat_offset start c.lc, ← plus, ← minus, ← minus, plus_offset,
    minus_offset, minus_offset, later_offsets (by omega) (by omega) (by omega) (by omega),
    later_offsets (by omega) (by omega) (by omega) (by omega), later_offsets (by omega) (by omega) (by omega) (by omega),
    hleft]

end

/-- What an evaluation does is what R94 to R96 say. -/
theorem evaluateEarly_evaluates (j : Nat) (s : State) : EvaluatesEarly j s (evaluateEarly j s) := by
  refine ⟨fun hunmet => ?_, fun q w c k r now green eta hmay hlate hnow hnow' hgreen hgreen' heta hlow hhigh hlc hsmin hm
    hmax => ?_⟩
  · rw [evaluateEarly_of_unmet hunmet]
    exact ⟨rfl, rfl⟩
  · intro newEnd
    have hend : earlyEnd w.start c q.smin s.now r.eta = w.start + BitVec.ofInt 32 newEnd :=
      earlyEnd_offset hmay.room hnow hnow' hgreen hgreen' heta hlow hhigh hlc hsmin hm hmax
    have hroom := hmay.room
    have hnonneg : 0 ≤ newEnd := by omega
    have hsmall : newEnd ≤ 200000 := by omega
    have hstop : plus w.start c.lc = w.start + BitVec.ofInt 32 c.lc := ofNat_offset ..
    have hbefore : before (w.start + BitVec.ofInt 32 newEnd) (w.start + BitVec.ofInt 32 c.lc) = true ↔ newEnd < c.lc :=
      before_offsets (by omega) hsmall (by omega) (by omega)
    rw [evaluateEarly_of_met hmay hlate, hend, hstop]
    refine ⟨fun hlt => ?_, fun hle => ?_⟩
    · rw [if_pos (hbefore.mpr hlt), grantEarly_eq hmay.junction, setCycle_of_window (window_of_acting hmay.window)]
      have hcut : ahead (w.start + BitVec.ofInt 32 newEnd) (w.start + BitVec.ofInt 32 c.lc) = c.lc - newEnd.toNat := by
        rw [ahead_offsets_of_le hlt.le (by omega)]
        omega
      have hkept : c.lc - (c.lc - newEnd.toNat) = newEnd.toNat := by omega
      refine ⟨?_, fun i => rewrite_get ..⟩
      simp only [shortenCycle, hstop, hcut, hkept, State.setPriorities_junctions, State.setJunctions_junctions]
      rfl
    · rw [if_neg (fun h => absurd (hbefore.mp h) (by omega))]
      exact ⟨rfl, rfl⟩

/-! ## The check (R83, R89) -/

theorem exec_greenEndCheck (j : Fin 24) (s : State) :
    exec (.greenEndCheck j) s = run (takeEvent (.greenEnd j)) s := rfl

section
variable {j : Nat} {q : Junction} {w : Window} {c : Cycle} {s : State}

theorem closeGreen_eq (hq : s.junctions[j]? = some q) (hw : q.state.window? = some w) :
    closeGreen (viewOf j q c s) s = evaluateEarly j (s.setJunctions (s.junctions.set j
      { q with state := q.state.setWindow { w with cycle := some { c with phase := .side } } })) := by
  show evaluateEarly j (s.updateJunction j fun _ => q.setCycle { c with phase := .side }) = _
  rw [updateJunction_of_get hq, setCycle_of_window hw]

theorem frame_checkGreen (hq : s.junctions[j]? = some q) (hw : q.state.window? = some w) (start : Ct) :
    Frame [.junctions, .priorities] s (checkGreen (viewOf j q c s) start s) := by
  by_cases hcloses : Closes j q c s
  · rw [checkGreen_of_closes start hcloses, closeGreen_eq hq hw]
    exact ((frame_setJunctions s _).mono (by simp)).trans (frame_evaluateEarly j _)
  · obtain ⟨t, ts, -, hextends⟩ := checkGreen_of_extends start hcloses
    rw [hextends, extendGreen_eq hq]
    exact frame_rewritten s _ _

/-- A check keeps what the alert sources read of every junction. -/
theorem checkGreen_alerts {test : Coordination → Bool} (htest : ∀ (q : Junction) (c : Cycle),
    test (q.setCycle c).state = test q.state) (hq : s.junctions[j]? = some q) (hw : q.state.window? = some w) (start : Ct)
    (h : (checkGreen (viewOf j q c s) start s).anyJunction test = true) : s.anyJunction test = true := by
  by_cases hcloses : Closes j q c s
  · rw [checkGreen_of_closes start hcloses, closeGreen_eq hq hw, ← setCycle_of_window hw] at h
    exact anyJunction_of_replaced hq (State.setJunctions_junctions ..) (htest q _).symm.trans (evaluateEarly_alerts htest h)
  · obtain ⟨t, ts, -, hextends⟩ := checkGreen_of_extends start hcloses
    rw [hextends, extendGreen_eq hq] at h
    refine anyJunction_of_replaced hq (State.setPriorities_junctions ..) (fun hnew => ?_) h
    split at hnew <;> exact (htest q _).symm.trans hnew

end

section
variable {j : Fin 24} {q : Junction} {w : Window} {c : Cycle} {s : State}

theorem AtGreenEnd.window? (h : AtGreenEnd j q w c s) : q.state.window? = some w := window_of_acting h.window

theorem AtGreenEnd.cycle? (h : AtGreenEnd j q w c s) : q.cycle? = some c := by
  rw [Junction.cycle?, window_of_acting h.window]
  exact h.cycle

theorem greenEnd_due (h : AtGreenEnd j q w c s) : (Event.greenEnd j).due s = true := by
  have htime : (s.junctions[j.val]?).bind Junction.checkTime = some s.time.ct := by
    rw [h.junction, Option.bind_some, Junction.checkTime, AtGreenEnd.cycle? h, h.time]
    exact if_pos h.green
  rw [Event.due, htime]
  exact atOrBefore_self _

theorem greenEnd_effect (h : AtGreenEnd j q w c s) :
    (Event.greenEnd j).effect s = checkGreen (viewOf j.val q c s) w.start s := by
  show greenEnd j.val s = _
  simp only [greenEnd, h.junction, AtGreenEnd.window? h, AtGreenEnd.cycle? h, viewOf]

/-- The check of a junction at its green end brings no alert source in. -/
theorem exec_greenEndCheck_of_due (h : AtGreenEnd j q w c s) :
    exec (.greenEndCheck j) s = .next (checkGreen (viewOf j.val q c s) w.start s) := by
  have hframe := frame_checkGreen (c := c) h.junction (AtGreenEnd.window? h) w.start
  have htime : (checkGreen (viewOf j.val q c s) w.start s).time = s.time := hframe .time (by simp)
  have hjoined : joined s (checkGreen (viewOf j.val q c s) w.start s) = 0 := by
    refine joined_of_levels (hframe .alertConfig (by simp)) (hframe .port (by simp)).1 (hframe .latched (by simp))
      (by rw [htime]; exact id) (by rw [htime]; exact id)
      (checkGreen_alerts isFault_setCycle h.junction (AtGreenEnd.window? h) w.start)
      (checkGreen_alerts isPreempt_setCycle h.junction (AtGreenEnd.window? h) w.start)
  rw [exec_greenEndCheck, run_of_running h.running, takeEvent_of_due (greenEnd_due h), greenEnd_effect h,
    settle_of_subset hjoined]

end

end Sys2Proof.Machine
end

section
/-! SUPPORT. What a green-end check that closes and one that extends leave (R86 to R89), and the statements about it. -/

namespace Sys2Proof.Machine

open Sys2Proof.Safety

/-! ## A check that closes (R89) -/

section
variable {j : Nat} {q : Junction} {w : Window} {c : Cycle} {s : State}

/-- The state at the side-time start of junction `j`, before its early-green evaluation (R89). -/
def sideStart (j : Nat) (q : Junction) (w : Window) (c : Cycle) (s : State) : State :=
  s.setJunctions (s.junctions.set j
    { q with state := q.state.setWindow { w with cycle := some { c with phase := .side } } })

/-- The junction at its side-time start. -/
theorem sideStart_get (hq : s.junctions[j]? = some q) : (sideStart j q w c s).junctions[j]? =
    some { q with state := q.state.setWindow { w with cycle := some { c with phase := .side } } } :=
  List.getElem?_set_self (List.getElem?_eq_some_iff.mp hq).1

theorem sideStart_cycle (hw : q.state.window? = some w) :
    ({ q with state := q.state.setWindow { w with cycle := some { c with phase := .side } } } : Junction).cycle? =
      some { c with phase := .side } := by
  rw [← setCycle_of_window hw]
  exact cycle?_setCycle hw _

/-- What an evaluation from the side-time start needs of the junction as the check found it (R94). -/
theorem mayShorten_sideStart {q' : Junction} {w' : Window} {c' : Cycle} (hq : s.junctions[j]? = some q)
    (hw : q.state.window? = some w) (h : MayShorten j q' w' c' (sideStart j q w c s)) :
    q.lockout = 0 ∧ q.granted = false ∧ (s.attributes j).noPriority = false ∧ c.y < c.held.eMax := by
  have hq' := Option.some.inj ((sideStart_get (w := w) (c := c) hq).symm.trans h.junction)
  have hc' : c' = { c with phase := .side } := by
    have hcycle : q'.cycle? = some c' := by
      rw [Junction.cycle?, window_of_acting h.window]
      exact h.cycle
    rw [← hq', sideStart_cycle hw] at hcycle
    exact (Option.some.inj hcycle).symm
  have hroom := h.room
  rw [hc'] at hroom
  subst hq'
  exact ⟨h.lockout, h.granted, h.allowed, hroom⟩

/-- What a check that closes leaves of the cycle and of each priority record. -/
theorem closed_check {q' : Junction} {c' : Cycle} (hq : s.junctions[j]? = some q) (hw : q.state.window? = some w)
    (hq' : (evaluateEarly j (sideStart j q w c s)).junctions[j]? = some q') (hc' : q'.cycle? = some c') :
    c'.held = c.held ∧ c'.phase = .side ∧ c'.x = c.x ∧ c'.greenEnd = c.greenEnd ∧ c'.lc ≤ c.lc ∧
      ∀ k : Fin 16, (evaluateEarly j (sideStart j q w c s)).priorities[k] = s.priorities[k] ∨
        ∃ r, s.priorities[k].live = some r ∧ WaitsLate j r ∧
          (evaluateEarly j (sideStart j q w c s)).priorities[k] =
            { s.priorities[k] with live := some { r with grant := some (.early, s.time.ct) } } ∧
          q'.granted = true ∧ q'.lockout = c.held.r ∧ q.granted = false ∧ q.lockout = 0 := by
  have hside := sideStart_get (w := w) (c := c) hq
  have hsidecycle := sideStart_cycle (c := c) hw
  rcases evaluateEarly_cases j (sideStart j q w c s) with e | ⟨p, v, d, k, r, hp, hv, hd, hmay, hlate, -, e⟩ <;>
    rw [e] at hq' ⊢
  · obtain rfl := Option.some.inj (hside.symm.trans hq')
    obtain rfl := Option.some.inj (hsidecycle.symm.trans hc')
    exact ⟨rfl, rfl, rfl, rfl, le_rfl, fun k => .inl rfl⟩
  · obtain ⟨hlockout, hgranted, -, -⟩ := mayShorten_sideStart hq hw (mayShorten_of_window hp hv hd hmay)
    obtain rfl := Option.some.inj (hside.symm.trans hp)
    obtain rfl := Option.some.inj (hsidecycle.symm.trans hd)
    rw [grantEarly_eq hside] at hq' ⊢
    have hset := Option.some.inj (Eq.trans (Eq.symm (List.getElem?_set_self (List.getElem?_eq_some_iff.mp hside).1)) hq')
    subst hset
    obtain rfl := Option.some.inj ((cycle?_setCycle hv _).symm.trans hc')
    refine ⟨rfl, rfl, rfl, rfl, Nat.sub_le .., fun i => ?_⟩
    have hget : (rewrite s.priorities k (r.grantAs .early s.now))[i] = if i = k then
        { s.priorities[k] with live := some (r.grantAs .early s.now) } else s.priorities[i] := rewrite_get ..
    by_cases hi : i = k
    · subst hi
      rw [if_pos rfl] at hget
      exact .inr ⟨r, earliestLate_live (s := sideStart j _ w c s) hlate, waitsLate_of_earliestLate hlate, hget, rfl, rfl,
        hgranted, hlockout⟩
    · rw [if_neg hi] at hget
      exact .inl hget

end

/-! ## A check that extends (R86 to R88) -/

section
variable {j : Nat} {q : Junction} {w : Window} {c : Cycle} {s : State} {newEnd : Ct}

theorem le_extendedLength (start : Ct) (lc smin : Nat) (newEnd : Ct) :
    ahead start newEnd + smin ≤ extendedLength start lc smin newEnd ∧ lc ≤ extendedLength start lc smin newEnd := by
  unfold extendedLength
  split <;> omega

/-- The record in a slot after every record that a test accepts has been granted. -/
theorem grantRecords_get_of_live {accept : Priority → Bool} {kind : GrantKind} {now : Ct}
    {v : Vector (Slot Priority) Config.prioritySlots} {k : Fin 16} {r : Priority} (h : v[k].live = some r) :
    (grantRecords accept kind now v)[k] =
      if accept r then { v[k] with live := some { r with grant := some (kind, now) } } else v[k] := by
  rw [grantRecords_get, h, Option.map_some]
  split
  · rfl
  · rw [← h]

theorem grantRecords_get_of_empty {accept : Priority → Bool} {kind : GrantKind} {now : Ct}
    {v : Vector (Slot Priority) Config.prioritySlots} {k : Fin 16} (h : v[k].live = none) :
    (grantRecords accept kind now v)[k] = v[k] := by
  rw [grantRecords_get, h, Option.map_none, ← h]

theorem grantRecords_of_none {accept : Priority → Bool} {kind : GrantKind} {now : Ct}
    {v : Vector (Slot Priority) Config.prioritySlots} (h : ∀ (k : Fin 16) r, v[k].live = some r → accept r = false) :
    grantRecords accept kind now v = v := by
  refine Vector.ext fun i hi => ?_
  cases hlive : v[(⟨i, hi⟩ : Fin 16)].live with
  | none => exact grantRecords_get_of_empty hlive
  | some r =>
    have hget := grantRecords_get_of_live (accept := accept) (kind := kind) (now := now) hlive
    rw [h _ r hlive] at hget
    exact hget

/-- What a check that extends leaves of the cycle and of each priority record. -/
theorem extended_check {q' : Junction} {c' : Cycle} (start : Ct) (hq : s.junctions[j]? = some q)
    (hw : q.state.window? = some w)
    (hq' : (extendGreen (viewOf j q c s) start newEnd s).junctions[j]? = some q') (hc' : q'.cycle? = some c') :
    c' = extendCycle start q.smin s.now newEnd c ∧
      (∀ k : Fin 16, (extendGreen (viewOf j q c s) start newEnd s).priorities[k] = s.priorities[k] ∨
        ∃ r, s.priorities[k].live = some r ∧ PriorityCandidate j q c r s ∧
          (extendGreen (viewOf j q c s) start newEnd s).priorities[k] =
            { s.priorities[k] with live := some { r with grant := some (.extension, s.time.ct) } } ∧
          q'.granted = true ∧ q'.lockout = c.held.r) ∧
      ∀ (k : Fin 16) r, s.priorities[k].live = some r → PriorityCandidate j q c r s →
        (extendGreen (viewOf j q c s) start newEnd s).priorities[k] =
          { s.priorities[k] with live := some { r with grant := some (.extension, s.time.ct) } } := by
  rw [extendGreen_eq hq] at hq' ⊢
  have hset := Option.some.inj (Eq.trans (Eq.symm (List.getElem?_set_self (List.getElem?_eq_some_iff.mp hq).1)) hq')
  have hcandidate {k : Fin 16} {r : Priority} (hr : s.priorities[k].live = some r) (h : PriorityCandidate j q c r s) :
      (grantRecords (viewOf j q c s).priorityCandidate .extension s.now s.priorities)[k] =
        { s.priorities[k] with live := some { r with grant := some (.extension, s.time.ct) } } :=
    (grantRecords_get_of_live hr).trans (if_pos (priorityCandidate_iff.mpr h))
  refine ⟨?_, fun k => ?_, fun k r hr h => hcandidate hr h⟩
  · have hcycle : q'.cycle? = some (extendCycle start q.smin s.now newEnd c) := by
      rw [← hset]
      split <;> exact cycle?_setCycle hw _
    exact Option.some.inj (hc'.symm.trans hcycle)
  · cases hr : s.priorities[k].live with
    | none => exact .inl (grantRecords_get_of_empty hr)
    | some r =>
      by_cases h : PriorityCandidate j q c r s
      · have hgrants : (s.livePriorities.any fun e => (viewOf j q c s).priorityCandidate e.2) = true :=
          List.any_eq_true.mpr ⟨(k, r), mem_lives.mpr hr, priorityCandidate_iff.mpr h⟩
        rw [if_pos hgrants] at hset
        exact .inr ⟨r, rfl, h, hcandidate hr h, hset ▸ rfl, hset ▸ rfl⟩
      · refine .inl ((grantRecords_get_of_live hr).trans (if_neg fun haccept => h ?_))
        exact priorityCandidate_iff.mp haccept

/-- The extended cycle, counted from now (R86, R87). -/
theorem extendCycle_offset {start now : Ct} {side more : Nat} (smin : Nat) (c : Cycle)
    (hside : start + BitVec.ofNat 32 side = now) (hside' : side ≤ 100000) (hmore : more ≤ 300) :
    extendCycle start smin now (now + BitVec.ofNat 32 more) c = { c with
      x := c.x + more, greenEnd := now + BitVec.ofNat 32 more, lc := max c.lc (side + more + smin) } := by
  have hnow : ahead now (now + BitVec.ofNat 32 more) = more := ahead_add now more (by omega)
  have hstart : ahead start (now + BitVec.ofNat 32 more) = side + more := by
    rw [← hside, BitVec.add_assoc, ← BitVec.ofNat_add]
    exact ahead_add start (side + more) (by omega)
  have hlength : extendedLength start c.lc smin (now + BitVec.ofNat 32 more) = max c.lc (side + more + smin) := by
    rw [extendedLength, hstart]
    split <;> omega
  rw [extendCycle, hnow, hlength]

/-- A check whose candidates all offer one target extends to it. -/
theorem checkGreen_of_target {t : Ct} (start : Ct) (hcloses : ¬ Closes j q c s) (hmax : c.held.xMax ≤ 300)
    (hone : ∀ u ∈ (viewOf j q c s).targets s, u = t) :
    checkGreen (viewOf j q c s) start s = extendGreen (viewOf j q c s) start t s := by
  obtain ⟨u, us, htargets, hextends⟩ := checkGreen_of_extends start hcloses
  obtain ⟨hmem, -⟩ := latest_target hmax htargets
  rw [hextends, hone _ hmem]

end

/-! ## Candidates counted from now (R84, R85) -/

section
variable {j : Nat} {q : Junction} {c : Cycle} {s : State}

/-- The head, the tail and the target of a platoon record, counted from now. -/
theorem platoon_offsets {r : Platoon} {head tail : Int} (hhead : r.head = s.time.ct + BitVec.ofInt 32 head)
    (hspread : (r.spread : Int) = tail - head) :
    r.head + BitVec.ofNat 32 c.held.m = s.time.ct + BitVec.ofInt 32 (head + c.held.m) ∧
      r.head + BitVec.ofNat 32 r.spread + BitVec.ofNat 32 c.held.m = s.time.ct + BitVec.ofInt 32 (tail + c.held.m) := by
  rw [hhead]
  refine ⟨plus_offset .., ?_⟩
  have htail : head + r.spread + c.held.m = tail + c.held.m := by omega
  rw [← htail]
  exact (congrArg (fun t : Ct => t + BitVec.ofNat 32 c.held.m) (plus_offset ..)).trans (plus_offset ..)

theorem platoonTarget_offset {r : Platoon} {head tail : Int} (hhead : r.head = s.time.ct + BitVec.ofInt 32 head)
    (hspread : (r.spread : Int) = tail - head) (htail : tail ≤ 100000) (hx : c.x < c.held.xMax)
    (hmax : c.held.xMax ≤ 300) (hm : c.held.m ≤ 50) (hafter : 0 < tail + c.held.m) : platoonTarget c r s =
      s.time.ct + BitVec.ofNat 32 (min (tail + c.held.m).toNat (c.held.xMax - c.x)) := by
  show earlier (r.head + BitVec.ofNat 32 r.spread + BitVec.ofNat 32 c.held.m)
    (s.time.ct + BitVec.ofNat 32 (c.held.xMax - c.x)) = _
  rw [(platoon_offsets hhead hspread).2, ofNat_offset, ofNat_offset,
    earlier_offsets (by omega) (by omega) (by omega) (by omega)]
  congr 2
  omega

theorem platoonCandidate_of_offsets {r : Platoon} {head tail : Int} (hcur : r.cur = j)
    (hallowed : (s.attributes j).noExtend = false) (hdir : ¬ HeldBack j q r.dir s)
    (hhead : r.head = s.time.ct + BitVec.ofInt 32 head) (hspread : (r.spread : Int) = tail - head)
    (hlow : -100000 ≤ head) (htail : tail ≤ 100000) (hmax : c.held.xMax ≤ 300) (hm : c.held.m ≤ 50)
    (hreach : head + c.held.m + c.x ≤ c.held.xMax) (hafter : 0 < tail + c.held.m) : PlatoonCandidate j q c r s := by
  obtain ⟨hheadM, htailM⟩ := platoon_offsets (c := c) hhead hspread
  refine ⟨hcur, hdir, hallowed, ?_, ?_⟩
  · rw [hheadM, ofNat_offset]
    exact (atOrBefore_offsets (by omega) (by omega) (by omega) (by omega)).mpr (by omega)
  · rw [htailM]
    have hbefore := before_offsets (t := s.time.ct) (a := 0) (b := tail + c.held.m) (by omega) (by omega) (by omega)
      (by omega)
    rw [← zero_offset] at hbefore
    exact hbefore.mpr hafter

theorem priorityCandidate_of_offset {r : Priority} {eta : Int} (hgrantable : Grantable j q r s)
    (hdir : ¬ HeldBack j q r.dir s) (heta : r.eta = s.time.ct + BitVec.ofInt 32 eta) (hmax : c.held.xMax ≤ 300)
    (hafter : 0 < eta + c.held.m) (hreach : eta + c.held.m + c.x ≤ c.held.xMax) :
    r.eta + BitVec.ofNat 32 c.held.m = s.time.ct + BitVec.ofNat 32 (eta + c.held.m).toNat ∧
      PriorityCandidate j q c r s := by
  have hend : r.eta + BitVec.ofNat 32 c.held.m = s.time.ct + BitVec.ofInt 32 (eta + c.held.m) := by
    rw [heta]
    exact plus_offset ..
  have hnat : ((eta + c.held.m).toNat : Int) = eta + c.held.m := by omega
  refine ⟨by rw [hend, ofNat_offset, hnat], hgrantable, hdir, ?_, ?_⟩
  · rw [hend]
    have hbefore := before_offsets (t := s.time.ct) (a := 0) (b := eta + c.held.m) (by omega) (by omega) (by omega)
      (by omega)
    rw [← zero_offset] at hbefore
    exact hbefore.mpr hafter
  · rw [hend, ofNat_offset]
    exact (atOrBefore_offsets (by omega) (by omega) (by omega) (by omega)).mpr (by omega)

/-- Without reach left no priority record is a candidate. -/
theorem not_priorityCandidate_of_closes {r : Priority} {k : Fin 16} (hlive : s.priorities[k].live = some r)
    (h : Closes j q c s) : ¬ PriorityCandidate j q c r s := by
  intro hcandidate
  obtain hreach | ⟨-, hnone⟩ := h
  · have hleft : c.held.xMax - c.x = 0 := by omega
    have hlimit := hcandidate.reach
    rw [hleft] at hlimit
    have hle := ahead_le_of_atOrBefore (n := 0) (by omega) hcandidate.after hlimit
    have hpos := (before_iff.mp hcandidate.after).1
    omega
  · exact hnone _ (mem_lives.mpr hlive) hcandidate

end

end Sys2Proof.Machine

namespace Sys2Proof.Proofs

open Sys2Proof.Machine Sys2Proof.Safety

/-- Settles O46: a check that closes and finds no evaluation to make, and the extension to the one target there is. -/
theorem greenEndClosesOrExtends : Obligations.GreenEndClosesOrExtends := by
  refine ⟨fun j q w c s h hcloses hearly => ?_,
    fun j q w c s k r head tail side h hpriorities hlive hcur halone hallowed hdir hx hmax hm hhead hspread hlow hhigh
      hreach hafter hside hside' => ?_,
    fun j q w c s k r eta side h hplatoons hlive hgrantable hdir halone hmax hm heta hafter hreach hside hside' => ?_⟩
  · have hw := AtGreenEnd.window? h
    refine ⟨_, exec_greenEndCheck_of_due h, ?_⟩
    have hunmet : (∀ q' w' c', ¬ MayShorten j.val q' w' c' (sideStart j.val q w c s)) ∨
        ∀ e ∈ (sideStart j.val q w c s).livePriorities, ¬ WaitsLate j.val e.2 := by
      by_cases hmay : ∃ q' w' c', MayShorten j.val q' w' c' (sideStart j.val q w c s)
      · obtain ⟨q', w', c', hmay⟩ := hmay
        obtain ⟨hlockout, hgranted, hallowed, hroom⟩ := mayShorten_sideStart h.junction hw hmay
        refine .inr fun e he ⟨hjunction, hwaiting, hlate⟩ => ?_
        obtain hspent | hregular := hearly
        · omega
        · have hcls := hregular e he ⟨hjunction, hwaiting, hlockout, hgranted, hallowed⟩
          simp [hlate] at hcls
      · exact .inl fun q' w' c' hm => hmay ⟨q', w', c', hm⟩
    have hstays : checkGreen (viewOf j.val q c s) w.start s = sideStart j.val q w c s := by
      rw [checkGreen_of_closes w.start hcloses, closeGreen_eq h.junction hw]
      exact evaluateEarly_of_unmet hunmet
    rw [hstays]
    exact ⟨frame_setJunctions s _, rfl⟩
  · intro more
    have hcandidate : PlatoonCandidate j.val q c r s :=
      platoonCandidate_of_offsets hcur hallowed hdir hhead hspread hlow hhigh hmax hm hreach hafter
    have hcloses : ¬ Closes j.val q c s := by
      rintro (hspent | ⟨hnone, -⟩)
      · omega
      · exact hnone _ (mem_lives.mpr hlive) hcandidate
    have hnone : ∀ e ∈ s.livePriorities, ¬ PriorityCandidate j.val q c e.2 s :=
      fun e he hcand => hpriorities e he hcand.grantable.junction
    have hone : ∀ u ∈ (viewOf j.val q c s).targets s, u = s.time.ct + BitVec.ofNat 32 more := by
      intro u hu
      rcases mem_targets.mp hu with ⟨⟨i, p⟩, he, hcand, rfl⟩ | ⟨e, he, hcand, -⟩
      · obtain rfl := halone _ he hcand.cur
        obtain rfl := Option.some.inj ((mem_lives.mp he).symm.trans hlive)
        exact platoonTarget_offset hhead hspread hhigh hx hmax hm hafter
      · exact absurd hcand (hnone e he)
    have hgrants : (s.livePriorities.any fun e => (viewOf j.val q c s).priorityCandidate e.2) = false := by
      simpa only [List.any_eq_false, priorityCandidate_iff] using hnone
    have hkeeps : grantRecords (viewOf j.val q c s).priorityCandidate .extension s.now s.priorities = s.priorities :=
      grantRecords_of_none fun i p hp =>
        Bool.eq_false_of_not_eq_true fun hcand => hnone _ (mem_lives.mpr hp) (priorityCandidate_iff.mp hcand)
    have hextend : extendCycle w.start q.smin s.now (s.time.ct + BitVec.ofNat 32 more) c = _ :=
      extendCycle_offset (now := s.time.ct) q.smin c hside hside' (by omega)
    refine ⟨_, exec_greenEndCheck_of_due h, ?_⟩
    rw [checkGreen_of_target w.start hcloses hmax hone, extendGreen_eq h.junction, hgrants, hkeeps,
      hextend, setCycle_of_window (AtGreenEnd.window? h)]
    exact ⟨frame_setJunctions s _, rfl⟩
  · intro more
    obtain ⟨hend, hcandidate⟩ := priorityCandidate_of_offset hgrantable hdir heta hmax hafter hreach
    have hcloses : ¬ Closes j.val q c s := by
      rintro (hspent | ⟨-, hnone⟩)
      · omega
      · exact hnone _ (mem_lives.mpr hlive) hcandidate
    have honly : ∀ e ∈ s.livePriorities, PriorityCandidate j.val q c e.2 s → e.1 = k := fun e he hcand => by
      by_contra hne
      exact halone e he hne hcand.grantable.junction
    have hone : ∀ u ∈ (viewOf j.val q c s).targets s, u = s.time.ct + BitVec.ofNat 32 more := by
      intro u hu
      rcases mem_targets.mp hu with ⟨e, he, hcand, -⟩ | ⟨⟨i, p⟩, he, hcand, rfl⟩
      · obtain hnone | hforbidden := hplatoons
        · exact absurd hcand.cur (hnone e he)
        · simp [hcand.allowed] at hforbidden
      · obtain rfl := honly _ he hcand
        obtain rfl := Option.some.inj ((mem_lives.mp he).symm.trans hlive)
        exact hend
    have hgrants : (s.livePriorities.any fun e => (viewOf j.val q c s).priorityCandidate e.2) = true :=
      List.any_eq_true.mpr ⟨(k, r), mem_lives.mpr hlive, priorityCandidate_iff.mpr hcandidate⟩
    have hextend : extendCycle w.start q.smin s.now (s.time.ct + BitVec.ofNat 32 more) c = _ :=
      extendCycle_offset (now := s.time.ct) q.smin c hside hside' (by omega)
    refine ⟨_, exec_greenEndCheck_of_due h, ?_⟩
    rw [checkGreen_of_target w.start hcloses hmax hone, extendGreen_eq h.junction, hgrants,
      hextend, setCycle_of_window (AtGreenEnd.window? h)]
    refine ⟨frame_rewritten s _ _, rfl, fun i => ?_⟩
    by_cases hi : i = k
    · subst hi
      exact (grantRecords_get_of_live hlive).trans
        ((if_pos (priorityCandidate_iff.mpr hcandidate)).trans (if_pos rfl).symm)
    · rw [if_neg hi]
      cases hp : s.priorities[i].live with
      | none => exact grantRecords_get_of_empty hp
      | some p =>
        refine (grantRecords_get_of_live hp).trans (if_neg fun hcand => hi ?_)
        exact honly _ (mem_lives.mpr hp) (priorityCandidate_iff.mp hcand)

/-- Settles O47, by whether the check closes: the facts about the one case, and those about the other. -/
theorem greenEndStaysWithinReach : Obligations.GreenEndStaysWithinReach := by
  intro j q w c s t q' c' h hx hmax hexec hq' hc'
  obtain rfl := Host.Outcome.next.inj (hexec.symm.trans (exec_greenEndCheck_of_due h))
  have hw := AtGreenEnd.window? h
  refine ⟨frame_checkGreen h.junction hw w.start .platoons (by simp), ?_⟩
  by_cases hcloses : Closes j.val q c s
  · rw [checkGreen_of_closes w.start hcloses, closeGreen_eq h.junction hw] at hq' ⊢
    obtain ⟨hheld, hside, hkeepsx, hkeepsEnd, hlc, hrecords⟩ := closed_check h.junction hw hq' hc'
    have hgreen : c'.phase ≠ .green := by simp [hside]
    refine ⟨hheld, fun hg => absurd hg hgreen, fun _ => ⟨hkeepsx, hkeepsEnd, hlc⟩, fun k => ?_,
      ⟨fun _ => hcloses, fun _ => hside⟩, fun r hg => absurd hg hgreen, fun hg => absurd hg hgreen,
      fun k r hlive hcand => absurd hcand (not_priorityCandidate_of_closes hlive hcloses)⟩
    refine (hrecords k).imp_right ?_
    rintro ⟨r, hlive, ⟨hjunction, hwaiting, hlate⟩, hgrant, hflag⟩
    exact ⟨r, .early, hlive, hjunction, hwaiting, hgrant, fun hg => absurd hg hgreen, fun _ => ⟨rfl, hlate⟩, hflag⟩
  · obtain ⟨u, us, htargets, hextends⟩ := checkGreen_of_extends w.start hcloses
    obtain ⟨hmem, hlatest⟩ := latest_target hmax htargets
    rw [hextends] at hq' ⊢
    obtain ⟨rfl, hrecords, hcandidates⟩ := extended_check w.start h.junction hw hq' hc'
    have hxlt : c.x < c.held.xMax := Nat.lt_of_not_le fun hle => hcloses (.inl hle)
    have hpos := ahead_target_pos hxlt hmax hmem
    have hreach : ahead s.time.ct (us.foldl later u) ≤ c.held.xMax - c.x :=
      targets_within_reach (v := viewOf j.val q c s) hmax hmem
    have hgreen : (extendCycle w.start q.smin s.now (us.foldl later u) c).phase = .green := h.green
    have hside : (extendCycle w.start q.smin s.now (us.foldl later u) c).phase ≠ .side := by simp [hgreen]
    obtain ⟨hlength, hlc⟩ := le_extendedLength w.start c.lc q.smin (us.foldl later u)
    refine ⟨rfl, fun _ => ⟨rfl, ?_, ?_, hlength, hlc, rfl⟩, fun hs => absurd hs hside, fun k => ?_,
      ⟨fun hs => absurd hs hside, fun hc => absurd hc hcloses⟩,
      fun r _ hr hcand => hlatest _ (mem_targets.mpr (.inl ⟨r, hr, hcand, rfl⟩)), fun _ => ?_, fun k r hlive hcand =>
        ⟨hgreen, hlatest _ (mem_targets.mpr (.inr ⟨_, mem_lives.mpr hlive, hcand, rfl⟩)), hcandidates k r hlive hcand⟩⟩
    · show c.x < c.x + ahead s.time.ct _
      omega
    · show c.x + ahead s.time.ct _ ≤ c.held.xMax
      omega
    · refine (hrecords k).imp_right ?_
      rintro ⟨r, hlive, hcand, hgrant, hflag, hlockout⟩
      exact ⟨r, .extension, hlive, hcand.grantable.junction, hcand.grantable.waiting, hgrant, fun _ => rfl,
        fun hs => absurd hs hside, hflag, hlockout, hcand.grantable.granted, hcand.grantable.lockout⟩
    · exact mem_targets.mp hmem

end Sys2Proof.Proofs
end

section
/-! SUPPORT. The ways out of a priority record (R127, R134, R135, R138), and the statement about them. -/

namespace Sys2Proof.Machine

open Sys2Proof.Safety

/-! ## The record of a tag (R134) -/

section
variable {tag j : Nat} {k : Fin 16} {r : Priority} {s : State}

/-- The only record that holds a tag at a junction is the one a search for the two finds. -/
theorem recordOf_of_unique (hlive : s.priorities[k].live = some r) (htag : r.tag = tag) (hj : r.junction = j)
    (honly : ∀ x ∈ s.livePriorities, x.2.tag = tag → x.2.junction = j → x.1 = k) : recordOf tag j s = some (k, r) := by
  cases h : recordOf tag j s with
  | none => exact absurd hj (recordOf_eq_none h (k, r) (mem_lives.mpr hlive) htag)
  | some x =>
    obtain ⟨i, r'⟩ := x
    obtain ⟨hlive', htag', hj'⟩ := recordOf_eq_some h
    obtain rfl : i = k := honly (i, r') (mem_lives.mpr hlive') htag' hj'
    rw [hlive] at hlive'
    rw [Option.some.inj hlive']

theorem recordOf_of_absent (h : ∀ x ∈ s.livePriorities, x.2.tag = tag → x.2.junction ≠ j) : recordOf tag j s = none := by
  rw [recordOf, List.find?_eq_none]
  intro x hx
  simpa using h x hx

/-! ## CHECK OUT and READ PRIORITY at their owner (R127, R134, R136) -/

theorem checkOutAt_eq (k : Fin 16) (r : Priority) (s : State) : checkOutAt k r s =
    done .none (priorityRecord k s.priorities[k].gen r) (s.setPriorities (retireAt s.priorities k .checkedOut s.now)) := by
  rw [checkOutAt, priorityBytes_eq]

theorem ownCheckOut_of_live (h : s.priorities[k].live = some r) :
    ownCheckOut (.byId ⟨k.val, s.priorities[k].gen.val⟩) s = checkOutAt k r s := by
  simp only [ownCheckOut, resolve_of_live h]

theorem ownCheckOut_of_stale {gen : Fin 16} (h : s.priorities[k].live = none ∨ s.priorities[k].gen ≠ gen) :
    ownCheckOut (.byId ⟨k.val, gen.val⟩) s = (refusedReply .staleId (stalePayloadOf s.priorities[k] gen), s) := by
  simp only [ownCheckOut, resolve_of_stale h, refuseStale, stalePayload_staleNote]

theorem ownReadPriority_of_stale {gen : Fin 16} (h : s.priorities[k].live = none ∨ s.priorities[k].gen ≠ gen) :
    ownReadPriority ⟨k.val, gen.val⟩ s = (refusedReply .staleId (stalePayloadOf s.priorities[k] gen), s) := by
  simp only [ownReadPriority, resolve_of_stale h, refuseStale, stalePayload_staleNote]

theorem ownCheckOut_of_out_of_range {id : Identifier} (h : 16 ≤ id.slot ∨ 15 < id.gen) :
    ownCheckOut (.byId id) s = refuse .outOfRange s := by
  simp only [ownCheckOut, resolve_of_out_of_range h]

theorem ownReadPriority_of_out_of_range {id : Identifier} (h : 16 ≤ id.slot ∨ 15 < id.gen) :
    ownReadPriority id s = refuse .outOfRange s := by
  simp only [ownReadPriority, resolve_of_out_of_range h]

theorem ownCheckOut_of_unconfigured (htag : tag ≠ 0) (hj : s.n ≤ j) :
    ownCheckOut (.byTag tag j) s = refuse .notConfigured s := by
  simp [ownCheckOut, htag, hj]

theorem ownCheckOut_of_record (htag : tag ≠ 0) (hj : j < s.n) (h : recordOf tag j s = some (k, r)) :
    ownCheckOut (.byTag tag j) s = checkOutAt k r s := by
  simp [ownCheckOut, htag, Nat.not_le.mpr hj, h]

theorem ownCheckOut_of_absent (htag : tag ≠ 0) (hj : j < s.n) (h : recordOf tag j s = none) :
    ownCheckOut (.byTag tag j) s = refuse .noSuchRecord s := by
  simp [ownCheckOut, htag, Nat.not_le.mpr hj, h]

theorem serve_checkOut_of_fin (k gen : Fin 16) (s : State) :
    serve (requestOf 0x39 [BitVec.ofNat 8 k.val, BitVec.ofNat 8 gen.val]) s = ownCheckOut (.byId ⟨k.val, gen.val⟩) s := by
  have howner (b g : Byte) : serve (requestOf 0x39 [b, g]) s = ownCheckOut (.byId ⟨b.toNat, g.toNat⟩) s := rfl
  rw [howner, byte_toNat_of_fin (by decide), byte_toNat_of_fin (by decide)]

theorem serve_readPriority_of_fin (k gen : Fin 16) (s : State) :
    serve (requestOf 0x3A [BitVec.ofNat 8 k.val, BitVec.ofNat 8 gen.val]) s = ownReadPriority ⟨k.val, gen.val⟩ s := by
  have howner (b g : Byte) : serve (requestOf 0x3A [b, g]) s = ownReadPriority ⟨b.toNat, g.toNat⟩ s := rfl
  rw [howner, byte_toNat_of_fin (by decide), byte_toNat_of_fin (by decide)]

theorem serve_checkOut_of_tag {tag : Nat} (htag : tag ≤ 65535) (j : Byte) (s : State) :
    serve (requestOf 0x39 (wordOf tag ++ [j])) s = ownCheckOut (.byTag tag j.toNat) s := by
  have howner (t1 t0 : Byte) : serve (requestOf 0x39 [t1, t0, j]) s = ownCheckOut (.byTag (word16 t1 t0) j.toNat) s := rfl
  exact (howner _ _).trans (by rw [word16_wordOf htag])

/-- A request that checks a record out answers it and retires it CHECKED_OUT. -/
theorem checkOut_retires {ps : List Byte} (hs : Idle s) (hlive : s.priorities[k].live = some r)
    (h : serve (requestOf 0x39 ps) s = checkOutAt k r s) : ∃ u, exec (.checkOut ps) s = .next u ∧
      Answers u 0x39 .done .none (priorityRecord k s.priorities[k].gen r) ∧ Frame [.priorities, .port] s u ∧
      ∀ i : Fin 16, u.priorities[i] = if i = k
        then ⟨s.priorities[k].gen, none, some ⟨s.priorities[k].gen, .checkedOut, s.time.ct⟩⟩ else s.priorities[i] := by
  rw [checkOutAt_eq] at h
  obtain ⟨u, hexec, hanswer, howner, hframe⟩ :=
    answers_of_quiet_owner (c := .checkOut ps) hs rfl rfl h (frame_setPriorities _ _) (by simp [Quiet])
  have hpriorities : u.priorities = retireAt s.priorities k .checkedOut s.time.ct := howner .priorities (by simp)
  exact ⟨u, hexec, hanswer, hframe.mono (by simp), hpriorities ▸ retireAt_get_of_live hlive .checkedOut s.time.ct⟩

/-! ## Expiry (R135) -/

theorem exec_priorityExpiry (k : Fin 16) (s : State) :
    exec (.priorityExpiry k) s = run (takeEvent (.priorityExpiry k)) s := rfl

theorem priorityExpiry_due (hlive : s.priorities[k].live = some r) (hexpiry : r.expiry = s.time.ct) :
    (Event.priorityExpiry k).due s = true := by
  have htime : s.priorities[k].live.map Priority.expiry = some s.time.ct := by rw [hlive, Option.map_some, hexpiry]
  rw [Event.due, htime]
  exact atOrBefore_self _

theorem expirePriority_of_live (hlive : s.priorities[k].live = some r) : expirePriority k s =
    if r.grant = none then (s.setPriorities (retireAt s.priorities k .expired s.now)).latch .priorityExpired
    else s.setPriorities (retireAt s.priorities k .expired s.now) := by
  unfold expirePriority
  rw [hlive]
  simp only [Priority.waiting, Option.isNone_iff_eq_none]

end

/-! ## A table cleared (R125, R138) -/

theorem retireAll_get_ite {α : Type} {n : Nat} (v : Vector (Slot α) n) (c : RetireCause) (now : Ct) (i : Fin n) :
    (retireAll v c now)[i] = if v[i].live.isSome then ⟨v[i].gen, none, some ⟨v[i].gen, c, now⟩⟩ else v[i] := by
  rw [retireAll_get]
  cases hlive : v[i].live with
  | none => rw [Slot.retire_of_empty hlive]; rfl
  | some r => rw [Slot.retire_of_live hlive]; rfl

end Sys2Proof.Machine

namespace Sys2Proof.Proofs

open Sys2Proof.Machine Sys2Proof.Safety

/-- Settles O56: every way out is one retirement, and every refusal is read off what its identifier or its tag names. -/
theorem priorityRecordsLeave : Obligations.PriorityRecordsLeave := by
  refine ⟨fun k r s hs hlive => ?_, fun k gen s hs hstale => ?_, fun b g s hs hrange => ?_, fun j s hs => ?_,
    fun tag j s hs htag htag' => ?_, fun s hs => ?_⟩
  · refine ⟨fun hidle => ⟨?_, fun htag htag' hj hbyte honly => ?_⟩, fun hexpiry => ?_⟩
    · exact checkOut_retires hidle hlive ((serve_checkOut_of_fin _ _ _).trans (ownCheckOut_of_live hlive))
    · have hbyte' : (BitVec.ofNat 8 r.junction).toNat = r.junction := by rw [BitVec.toNat_ofNat]; omega
      refine checkOut_retires hidle hlive ((serve_checkOut_of_tag htag' _ _).trans ?_)
      rw [hbyte']
      exact ownCheckOut_of_record (by omega) hj (recordOf_of_unique hlive rfl rfl honly)
    · have hretired := frame_setPriorities s (retireAt s.priorities k .expired s.now)
      have heffect : (Event.priorityExpiry k).effect s = _ := expirePriority_of_live hlive
      refine ⟨_, by rw [exec_priorityExpiry, run_of_running hs, takeEvent_of_due (priorityExpiry_due hlive hexpiry)],
        ?_, ?_, fun i => ?_⟩
      · refine Frame.trans (t := (Event.priorityExpiry k).effect s) ?_ ((frame_settle _ _).mono (by simp))
        rw [heffect]
        split
        · exact (hretired.mono (by simp)).trans ((frame_latch _ _).mono (by simp))
        · exact hretired.mono (by simp)
      · rw [settle_latched, heffect]
        split <;> rfl
      · rw [settle_priorities, heffect, ← retireAt_get_of_live hlive .expired s.time.ct]
        split <;> rfl
  · exact ⟨refuses_of_owner hs rfl rfl ((serve_checkOut_of_fin k gen s).trans (ownCheckOut_of_stale hstale)),
      refuses_of_owner hs rfl rfl ((serve_readPriority_of_fin k gen s).trans (ownReadPriority_of_stale hstale))⟩
  · have hout : 16 ≤ (Identifier.mk b.toNat g.toNat).slot ∨ 15 < (Identifier.mk b.toNat g.toNat).gen := hrange
    exact ⟨refuses_of_owner hs rfl rfl (ownCheckOut_of_out_of_range hout),
      refuses_of_owner hs rfl rfl (ownReadPriority_of_out_of_range hout)⟩
  · have hserve : serve (requestOf 0x39 [0, 0, j]) s = _ := serve_checkOut_of_tag (tag := 0) (by omega) j s
    exact refuses_of_owner hs rfl rfl (hserve.trans rfl)
  · refine ⟨fun hj => ?_, fun hj habsent => ?_⟩
    · exact refuses_of_owner hs rfl rfl
        ((serve_checkOut_of_tag htag' j s).trans (ownCheckOut_of_unconfigured (by omega) hj))
    · exact refuses_of_owner hs rfl rfl
        ((serve_checkOut_of_tag htag' j s).trans (ownCheckOut_of_absent (by omega) hj (recordOf_of_absent habsent)))
  · have hserve : serve (requestOf 0x3C []) s = done .none _ _ := rfl
    have hcleared : Frame [.platoons, .priorities] s
        ((s.setPlatoons (retireAll s.platoons .cleared s.now)).setPriorities (retireAll s.priorities .cleared s.now)) :=
      ((frame_setPlatoons s _).mono (by simp)).trans ((frame_setPriorities _ _).mono (by simp))
    obtain ⟨u, hexec, hanswer, howner, hframe⟩ :=
      answers_of_quiet_owner (c := .clearRecords []) hs rfl rfl hserve hcleared (by simp [Quiet])
    have hplatoons : u.platoons = retireAll s.platoons .cleared s.time.ct := howner .platoons (by simp)
    have hpriorities : u.priorities = retireAll s.priorities .cleared s.time.ct := howner .priorities (by simp)
    exact ⟨u, hexec, hanswer, hframe.mono (by simp), hplatoons ▸ retireAll_get_ite _ _ _,
      hpriorities ▸ retireAll_get_ite _ _ _⟩

end Sys2Proof.Proofs
end

section
/-! SUPPORT. List sequences (R123, R124, R137, R162, R163), and the statement about them. -/

namespace Sys2Proof.Safety

open Sys2Proof.Machine

theorem frame_setSequence (s : State) (q : Option ListSequence) : Frame [.sequence] s (s.setSequence q) := by
  intro b hb
  cases b with
  | sequence => simp at hb
  | _ => simp [Block.same, State.setSequence]

end Sys2Proof.Safety

namespace Sys2Proof.Machine

open Sys2Proof.Safety

/-! ## The list order (R123, R137) -/

theorem keyBefore_iff {a b : ListKey} : keyBefore a b = true ↔ KeyLess a.1 a.2 b.1 b.2 := by
  simp [keyBefore, KeyLess]

theorem keyBefore_self (a : ListKey) : keyBefore a a = false := by simp [keyBefore]

theorem keyBefore_asymm {a b : ListKey} (h : keyBefore a b = true) : keyBefore b a = false := by
  rw [← Bool.not_eq_true]
  intro hback
  obtain hbefore | ⟨htime, hslot⟩ := keyBefore_iff.mp h
  · obtain hbefore' | ⟨htime', -⟩ := keyBefore_iff.mp hback
    · rw [before_asymm hbefore] at hbefore'
      cases hbefore'
    · rw [htime', before_self] at hbefore
      cases hbefore
  · obtain hbefore' | ⟨-, hslot'⟩ := keyBefore_iff.mp hback
    · rw [htime, before_self] at hbefore'
      cases hbefore'
    · exact lt_asymm hslot hslot'

/-! ## The records that pass a filter (R123, R137) -/

theorem passes_iff {α : Type} [BEq α] [LawfulBEq α] {filter : Option α} {x : α} :
    passes filter x = true ↔ ∀ y, filter = some y → x = y := by
  cases filter with
  | none => simp [passes]
  | some y =>
    rw [passes, beq_iff_eq]
    exact ⟨fun h z hz => h ▸ Option.some.inj hz, fun h => (h y rfl).symm⟩

section
variable {f : ListFilter} {s : State}

/-- A passing record, as its collection holds it and as its entry shows it. -/
theorem mem_passing_platoons {j : Option Nat} {d : Option Direction} {e : ListEntry} :
    e ∈ passing (.platoons j d) s ↔ ∃ k r, s.platoons[k].live = some r ∧ (∀ x, j = some x → r.cur = x) ∧
      (∀ x, d = some x → r.dir = x) ∧ e = ⟨(r.head, k.val), platoonLook k s.platoons[k].gen.val r s⟩ := by
  simp only [passing, List.mem_map, List.mem_filter, Bool.and_eq_true, passes_iff, Prod.exists, and_assoc, State.livePlatoons,
    mem_lives, eq_comm (a := e)]

theorem mem_passing_priorities {j : Option Nat} {e : ListEntry} :
    e ∈ passing (.priorities j) s ↔ ∃ k r, s.priorities[k].live = some r ∧ (∀ x, j = some x → r.junction = x) ∧
      e = ⟨(r.eta, k.val), priorityLook k s.priorities[k].gen.val r s⟩ := by
  simp only [passing, List.mem_map, List.mem_filter, passes_iff, Prod.exists, and_assoc, State.livePriorities, mem_lives,
    eq_comm (a := e)]

theorem listed_iff {t : Ct} {slot : Nat} : Listed f s t slot ↔ ∃ e ∈ passing f s, e.key = (t, slot) := by
  cases f with
  | platoons j d =>
    constructor
    · rintro ⟨⟨k, r⟩, hlive, hj, hd, rfl, rfl⟩
      exact ⟨_, mem_passing_platoons.mpr ⟨k, r, mem_lives.mp hlive, hj, hd, rfl⟩, rfl⟩
    · rintro ⟨e, he, hkey⟩
      obtain ⟨k, r, hlive, hj, hd, rfl⟩ := mem_passing_platoons.mp he
      obtain ⟨rfl, rfl⟩ := Prod.mk.inj hkey
      exact ⟨(k, r), mem_lives.mpr hlive, hj, hd, rfl, rfl⟩
  | priorities j =>
    constructor
    · rintro ⟨⟨k, r⟩, hlive, hj, rfl, rfl⟩
      exact ⟨_, mem_passing_priorities.mpr ⟨k, r, mem_lives.mp hlive, hj, rfl⟩, rfl⟩
    · rintro ⟨e, he, hkey⟩
      obtain ⟨k, r, hlive, hj, rfl⟩ := mem_passing_priorities.mp he
      obtain ⟨rfl, rfl⟩ := Prod.mk.inj hkey
      exact ⟨(k, r), mem_lives.mpr hlive, hj, rfl, rfl⟩

/-- A key names its record. -/
theorem passing_eq_of_key {e x : ListEntry} (he : e ∈ passing f s) (hx : x ∈ passing f s) (hkey : e.key = x.key) :
    e = x := by
  cases f with
  | platoons j d =>
    obtain ⟨k, r, hlive, -, -, rfl⟩ := mem_passing_platoons.mp he
    obtain ⟨k', r', hlive', -, -, rfl⟩ := mem_passing_platoons.mp hx
    obtain rfl := Fin.ext (Prod.mk.inj hkey).2
    rw [hlive] at hlive'
    obtain rfl := Option.some.inj hlive'
    rfl
  | priorities j =>
    obtain ⟨k, r, hlive, -, rfl⟩ := mem_passing_priorities.mp he
    obtain ⟨k', r', hlive', -, rfl⟩ := mem_passing_priorities.mp hx
    obtain rfl := Fin.ext (Prod.mk.inj hkey).2
    rw [hlive] at hlive'
    obtain rfl := Option.some.inj hlive'
    rfl

theorem ownReadPlatoon_of_live {k : Fin 32} {r : Platoon} (h : s.platoons[k].live = some r) :
    ownReadPlatoon ⟨k.val, s.platoons[k].gen.val⟩ s = done .none (platoonLook k s.platoons[k].gen.val r s) s := by
  simp only [ownReadPlatoon, resolve_of_live h]

theorem ownReadPriority_of_live {k : Fin 16} {r : Priority} (h : s.priorities[k].live = some r) :
    ownReadPriority ⟨k.val, s.priorities[k].gen.val⟩ s = done .none (priorityLook k s.priorities[k].gen.val r s) s := by
  simp only [ownReadPriority, resolve_of_live h]

/-- The entry of a listing shows its record as the look-up returns it (R122, R136). -/
theorem looksUp_of_passing {e : ListEntry} (hs : Idle s) (he : e ∈ passing f s) : LooksUp f s e.key.2 e.bytes := by
  cases f with
  | platoons j d =>
    obtain ⟨k, r, hlive, -, -, rfl⟩ := mem_passing_platoons.mp he
    intro i hi
    obtain rfl := Fin.ext hi
    have hserve : serve (requestOf 0x32 [BitVec.ofNat 8 i.val, BitVec.ofNat 8 s.platoons[i].gen.val]) s = _ :=
      (serve_readPlatoon_of_fin i s.platoons[i].gen s).trans (ownReadPlatoon_of_live hlive)
    obtain ⟨v, hexec, hanswer, -⟩ := answers_of_quiet_owner (c := .readPlatoon _) hs rfl rfl hserve (.refl [] s)
      (by simp [Quiet])
    exact ⟨v, hexec, hanswer⟩
  | priorities j =>
    obtain ⟨k, r, hlive, -, rfl⟩ := mem_passing_priorities.mp he
    intro i hi
    obtain rfl := Fin.ext hi
    have hserve := (serve_readPriority_of_fin i s.priorities[i].gen s).trans (ownReadPriority_of_live hlive)
    obtain ⟨v, hexec, hanswer, -⟩ := answers_of_quiet_owner (c := .readPriority _) hs rfl rfl hserve (.refl [] s)
      (by simp [Quiet])
    exact ⟨v, hexec, hanswer⟩

/-! ## One step of a sequence (R162, R163) -/

/-- A key comes after a cursor, as every key does where there is none. -/
def Follows (cursor : Option ListKey) (key : ListKey) : Prop := ∀ k, cursor = some k → keyBefore k key = true

theorem mem_afterCursor {cursor : Option ListKey} {e : ListEntry} {l : List ListEntry} :
    e ∈ afterCursor cursor l ↔ e ∈ l ∧ Follows cursor e.key := by
  cases cursor with
  | none => simp [afterCursor, Follows]
  | some k => simp [afterCursor, Follows, List.mem_filter]

theorem listStep_of_none {cursor : Option ListKey} (h : ∀ e ∈ passing f s, ¬ Follows cursor e.key) :
    listStep f cursor s = (⟨.done, .none, [], false, true⟩, s.setSequence none) := by
  have hempty : afterCursor cursor (passing f s) = [] := List.eq_nil_iff_forall_not_mem.mpr fun e he =>
    h e (mem_afterCursor.mp he).1 (mem_afterCursor.mp he).2
  simp only [listStep, hempty, best]

/-- The step at the least key that follows the cursor. -/
theorem listStep_of_least {cursor : Option ListKey} {e : ListEntry} (he : e ∈ passing f s) (hfollows : Follows cursor e.key)
    (hleast : ∀ x ∈ passing f s, Follows cursor x.key → x.key ≠ e.key → keyBefore e.key x.key = true) :
    listStep f cursor s =
      (⟨.done, .none, e.bytes, (passing f s).any fun x => keyBefore e.key x.key,
          !(passing f s).any fun x => keyBefore e.key x.key⟩,
        s.setSequence (if (passing f s).any fun x => keyBefore e.key x.key then some ⟨f, e.key.1, e.key.2⟩ else none)) := by
  have hbest : best (fun a b => keyBefore a.key b.key) (afterCursor cursor (passing f s)) = some e := by
    refine best_of_beats (mem_afterCursor.mpr ⟨he, hfollows⟩) (fun x hx hne => ?_) (keyBefore_self _)
    obtain ⟨hpassing, hcursor⟩ := mem_afterCursor.mp hx
    have hbefore := hleast x hpassing hcursor fun hkey => hne (passing_eq_of_key hpassing he hkey)
    exact ⟨hbefore, keyBefore_asymm hbefore⟩
  simp only [listStep, hbest]
  split
  · next h => simp only [h, Bool.not_true]
  · next h => simp only [Bool.not_eq_true] at h; simp [h]

/-- A request that its owner answers by one step from a cursor. -/
theorem listStep_acts {c : Instr} {code : Byte} {ps : List Byte} {cursor : Option ListKey} {ok : Ct → Nat → Prop}
    (hs : Idle s) (hc : c.code? = some code) (hp : c.params? = some ps)
    (h : serve (requestOf code ps) s = listStep f cursor s) (hok : ∀ t slot, ok t slot ↔ Follows cursor (t, slot)) :
    ListStep c code f ok s := by
  have hquiet (q : Option ListSequence) : joined s (s.setSequence q) = 0 :=
    joined_of_quiet (frame_setSequence s q) (by simp [Quiet])
  refine ⟨fun t slot hlisted hfirst hleast => ?_, fun hno => ?_⟩
  · obtain ⟨e, he, hkey⟩ := listed_iff.mp hlisted
    have hfollows : Follows cursor e.key := by rw [hkey]; exact (hok t slot).mp hfirst
    rw [listStep_of_least he hfollows fun x hx hcursor hne => keyBefore_iff.mpr (by
      rw [hkey] at hne ⊢
      exact hleast x.key.1 x.key.2 (listed_iff.mpr ⟨x, hx, rfl⟩) ((hok _ _).mpr hcursor) hne)] at h
    obtain ⟨u, hexec, hanswer, -, -, hjoined⟩ := answersList_of_owner hs hc hp h (frame_setSequence s _)
    obtain ⟨howner, hframe⟩ := hjoined (hquiet _)
    have hsequence := howner .sequence (by simp)
    refine ⟨u, e.bytes, _, hexec, hanswer, hframe, ?_, ?_, ?_⟩
    · have hslot : e.key.2 = slot := by rw [hkey]
      rw [← hslot]
      exact looksUp_of_passing hs he
    · simp only [List.any_eq_true, listed_iff, hkey]
      constructor
      · rintro ⟨x, hx, hbefore⟩
        exact ⟨x.key.1, x.key.2, ⟨x, hx, rfl⟩, keyBefore_iff.mp hbefore⟩
      · rintro ⟨t', slot', ⟨x, hx, hkey'⟩, hless⟩
        exact ⟨x, hx, hkey' ▸ keyBefore_iff.mpr hless⟩
    · refine hsequence.trans ?_
      rw [hkey]
      rfl
  · rw [listStep_of_none fun e he hfollows =>
      hno e.key.1 e.key.2 (listed_iff.mpr ⟨e, he, rfl⟩) ((hok _ _).mpr hfollows)] at h
    obtain ⟨u, hexec, hanswer, -, -, hjoined⟩ := answersList_of_owner hs hc hp h (frame_setSequence s _)
    obtain ⟨howner, hframe⟩ := hjoined (hquiet _)
    exact ⟨u, hexec, hanswer, hframe, howner .sequence (by simp)⟩

end

/-! ## The filters as bytes (12.1) -/

theorem junctionFilter?_of_byte {j : Byte} (h : j.toNat < 24 ∨ j = 255) :
    junctionFilter? j.toNat = some (if j = 255 then none else some j.toNat) := by
  by_cases hall : j = 255
  · subst hall
    rfl
  · have hlow : j.toNat < 24 := h.resolve_right hall
    rw [junctionFilter?, if_pos hlow, if_neg hall]

theorem junctionFilter?_of_gap {j : Byte} (hlow : 24 ≤ j.toNat) (hall : j ≠ 255) : junctionFilter? j.toNat = none := by
  have hnot : ¬ j.toNat < Config.maxJunctions := by
    show ¬ j.toNat < 24
    omega
  have hnumber : j.toNat ≠ 255 := fun h => hall (by bv_omega)
  rw [junctionFilter?, if_neg hnot, if_neg hnumber]

theorem directionFilter?_of_byte {d : Byte} (h : d.toNat ≤ 2) : directionFilter? d.toNat =
    some (if d = 0 then some .inbound else if d = 1 then some .outbound else none) := by
  obtain rfl | rfl | rfl : d = 0 ∨ d = 1 ∨ d = 2 := by bv_omega
  all_goals rfl

theorem directionFilter?_of_gt {n : Nat} (h : 2 < n) : directionFilter? n = none := by
  rw [directionFilter?, if_neg (by omega), direction?_of_gt (by omega)]
  rfl

section
variable {j d : Nat} {s : State} {f : Option Nat} {g : Option Direction}

theorem ownListPlatoons_of_filters (hj : junctionFilter? j = some f) (hd : directionFilter? d = some g)
    (hf : filterUnconfigured f s = false) : ownListPlatoons (j, d) s = listStep (.platoons f g) none s := by
  simp [ownListPlatoons, hj, hd, hf]

theorem ownListPlatoons_of_unconfigured (hj : junctionFilter? j = some f) (hd : directionFilter? d = some g)
    (hf : filterUnconfigured f s = true) : ownListPlatoons (j, d) s = refuse .notConfigured s := by
  simp [ownListPlatoons, hj, hd, hf]

theorem ownListPlatoons_of_out_of_range (h : junctionFilter? j = none ∨ directionFilter? d = none) :
    ownListPlatoons (j, d) s = refuse .outOfRange s := by
  unfold ownListPlatoons
  split
  · next hj hd =>
    obtain hno | hno := h
    · exact absurd (hno.symm.trans hj) nofun
    · exact absurd (hno.symm.trans hd) nofun
  · rfl

theorem ownListPriority_of_filter (hj : junctionFilter? j = some f) (hf : filterUnconfigured f s = false) :
    ownListPriority j s = listStep (.priorities f) none s := by
  simp [ownListPriority, hj, hf]

theorem ownListPriority_of_unconfigured (hj : junctionFilter? j = some f) (hf : filterUnconfigured f s = true) :
    ownListPriority j s = refuse .notConfigured s := by
  simp [ownListPriority, hj, hf]

theorem ownListPriority_of_out_of_range (hj : junctionFilter? j = none) : ownListPriority j s = refuse .outOfRange s := by
  simp [ownListPriority, hj]

theorem filterUnconfigured_of_byte {j : Byte} (h : j.toNat < s.n ∧ j.toNat < 24 ∨ j = 255) :
    filterUnconfigured (if j = 255 then none else some j.toNat) s = false := by
  by_cases hall : j = 255
  · rw [if_pos hall]
    rfl
  · rw [if_neg hall]
    exact decide_eq_false (Nat.not_le.mpr (h.resolve_right hall).1)

theorem filterUnconfigured_of_ge {j : Byte} (hlow : j.toNat < 24) (h : s.n ≤ j.toNat) :
    filterUnconfigured (if j = 255 then none else some j.toNat) s = true := by
  have hall : j ≠ 255 := by rintro rfl; exact absurd hlow (by decide)
  rw [if_neg hall]
  exact decide_eq_true h

end

end Sys2Proof.Machine

namespace Sys2Proof.Proofs

open Sys2Proof.Machine Sys2Proof.Safety

/-- Settles O57: the three requests are one step each, from no cursor or from the cursor of the sequence. -/
theorem listsFollowKeyOrder : Obligations.ListsFollowKeyOrder := by
  intro s hs
  refine ⟨fun j d hj hd => ?_, fun j hj => ?_, fun q hq => ?_, fun hnone => ?_, fun j d => ⟨fun hout => ?_,
    fun hlow hall => ?_, fun hlow hn hd => ⟨?_, ?_⟩⟩⟩
  · exact listStep_acts (cursor := none) hs rfl rfl (ownListPlatoons_of_filters (junctionFilter?_of_byte (hj.imp_left And.right))
      (directionFilter?_of_byte hd) (filterUnconfigured_of_byte hj)) (by simp [Follows])
  · exact listStep_acts (cursor := none) hs rfl rfl
      (ownListPriority_of_filter (junctionFilter?_of_byte (hj.imp_left And.right)) (filterUnconfigured_of_byte hj))
      (by simp [Follows])
  · refine listStep_acts (cursor := some (q.keyTime, q.keySlot)) hs rfl rfl ?_ (by simp [Follows, keyBefore_iff])
    show ownContinueList () s = _
    simp only [ownContinueList, hq]
  · refine refuses_of_owner hs rfl rfl ?_
    show ownContinueList () s = _
    simp only [ownContinueList, hnone]
    rfl
  · exact refuses_of_owner hs rfl rfl (ownListPlatoons_of_out_of_range
      (hout.imp (fun h => junctionFilter?_of_gap h.1 h.2) directionFilter?_of_gt))
  · exact refuses_of_owner hs rfl rfl (ownListPriority_of_out_of_range (junctionFilter?_of_gap hlow hall))
  · exact refuses_of_owner hs rfl rfl (ownListPlatoons_of_unconfigured (junctionFilter?_of_byte (.inl hlow))
      (directionFilter?_of_byte hd) (filterUnconfigured_of_ge hlow hn))
  · exact refuses_of_owner hs rfl rfl
      (ownListPriority_of_unconfigured (junctionFilter?_of_byte (.inl hlow)) (filterUnconfigured_of_ge hlow hn))

end Sys2Proof.Proofs
end

section
/-! SUPPORT. A time as its four bytes, and a record placed in a table (R114, R131); CHECK IN (R128 to R132) with the
early-green evaluation it makes (R94), and the statements about them. -/

namespace Sys2Proof.Machine

open Sys2Proof.Safety

/-! ## Bytes of a request (12.1) -/

theorem word32_ctOf (t : Ct) : word32 (BitVec.ofNat 8 (t.toNat / 16777216)) (BitVec.ofNat 8 (t.toNat / 65536))
    (BitVec.ofNat 8 (t.toNat / 256)) (BitVec.ofNat 8 t.toNat) = t := by
  have ht := t.isLt
  apply BitVec.eq_of_toNat_eq
  simp only [word32, BitVec.toNat_ofNat]
  omega

theorem direction?_dirByte (d : Direction) : direction? (dirByte d).toNat = some d := by cases d <;> rfl

theorem class?_classByte (c : PriorityClass) : class? (classByte c).toNat = some c := by cases c <;> rfl

theorem class?_of_gt {n : Nat} (h : 1 < n) : class? n = none := by
  rw [class?, if_neg (by omega), if_neg (by omega)]

/-! ## A record placed in a table (R114, R131) -/

section
variable {α : Type} {n : Nat} {v : Vector (Slot α) n} {k : Fin n}

theorem lowestEmpty_eq_some (hempty : v[k].live = none) (hlower : ∀ i : Fin n, i < k → v[i].live.isSome = true) :
    lowestEmpty v = some k := by
  rw [lowestEmpty, List.find?_eq_some_iff_getElem]
  refine ⟨by rw [hempty]; rfl, k.val, by simp, by simp, fun i hi => ?_⟩
  have hlive := hlower ⟨i, hi.trans k.isLt⟩ hi
  simp only [List.getElem_finRange, Fin.cast_mk, Option.isNone_eq_false_iff.mpr hlive, Bool.not_false]

theorem place_get (v : Vector (Slot α) n) (k : Fin n) (r : α) (i : Fin n) :
    (put v k (v[k].place r))[i] = if i = k then ⟨v[k].gen + 1, some r, none⟩ else v[i] := put_get ..

/-- A record placed in the slot of one that is retired for it. -/
theorem replace_get (v : Vector (Slot α) n) (k : Fin n) (c : RetireCause) (now : Ct) (r : α) (i : Fin n) :
    (put (retireAt v k c now) k ((retireAt v k c now)[k].place r))[i] =
      if i = k then ⟨v[k].gen + 1, some r, none⟩ else v[i] := by
  have hgen : (retireAt v k c now)[k].gen = v[k].gen := by
    rw [retireAt_get, if_pos rfl]
    exact (v[k].retire_spec c now).2
  rw [place_get, hgen]
  split
  · rfl
  · next hi => rw [retireAt_get, if_neg hi]

end

/-! ## CHECK IN as its bytes, and its refusals (R128) -/

section
variable {j b cb : Byte} {tag : Nat} {eta : Ct} {s : State}

theorem serve_checkIn (htag : tag ≤ 65535) (j b cb : Byte) (eta : Ct) (s : State) :
    serve (requestOf 0x38 ([j, b] ++ wordOf tag ++ [cb] ++ ctOf eta)) s =
      ownCheckIn ⟨j.toNat, b.toNat, tag, cb.toNat, eta⟩ s := by
  have howner (t1 t0 e3 e2 e1 e0 : Byte) : serve (requestOf 0x38 [j, b, t1, t0, cb, e3, e2, e1, e0]) s =
      ownCheckIn ⟨j.toNat, b.toNat, word16 t1 t0, cb.toNat, word32 e3 e2 e1 e0⟩ s := rfl
  exact (howner _ _ _ _ _ _).trans (by rw [word16_wordOf htag, word32_ctOf])

theorem ownCheckIn_of_no_plan {q : CheckInFields} (h : s.selector.active = none) :
    ownCheckIn q s = refuse .noPlan s := by
  simp [ownCheckIn, h]

theorem ownCheckIn_of_out_of_range (hactive : s.selector.active.isSome = true)
    (hout : 1 < b.toNat ∨ 1 < cb.toNat ∨ tag = 0) :
    ownCheckIn ⟨j.toNat, b.toNat, tag, cb.toNat, eta⟩ s = refuse .outOfRange s := by
  simp only [ownCheckIn, Option.isNone_eq_false_iff.mpr hactive, Bool.false_eq_true, if_false]
  split
  · next hd hc =>
    have htag : tag = 0 := by
      obtain hb | hcb | htag := hout
      · exact absurd ((direction?_of_gt hb).symm.trans hd) nofun
      · exact absurd ((class?_of_gt hcb).symm.trans hc) nofun
      · exact htag
    rw [if_pos htag]
  · rfl

theorem ownCheckIn_of_fields {d : Direction} {cls : PriorityClass} (hactive : s.selector.active.isSome = true)
    (hd : direction? b.toNat = some d) (hc : class? cb.toNat = some cls) (htag : tag ≠ 0) :
    ownCheckIn ⟨j.toNat, b.toNat, tag, cb.toNat, eta⟩ s = if s.n ≤ j.toNat then refuse .notConfigured s
      else if (s.attributes j.toNat).noPriority then refuse .excluded s
      else checkIn ⟨j.toNat, d, tag, cls, clampEta s.now eta, etaClamped s.now eta⟩ s := by
  simp only [ownCheckIn, Option.isNone_eq_false_iff.mpr hactive, Bool.false_eq_true, if_false, hd, hc, if_neg htag]

theorem class?_of_le (h : cb.toNat ≤ 1) : ∃ cls, class? cb.toNat = some cls := by
  obtain rfl | rfl := byte_cases_of_le_one h
  · exact ⟨.regular, rfl⟩
  · exact ⟨.late, rfl⟩

/-! ## An admitted check-in (R129 to R131) -/

/-- What a check-in asks for, its ETA as clamped. -/
def askedFor (j : Byte) (d : Direction) (tag : Nat) (cls : PriorityClass) (eta : Ct) (s : State) : CheckIn :=
  ⟨j.toNat, d, tag, cls, etaAt s.time.ct eta, etaClamped s.time.ct eta⟩

theorem serve_checkIn_of_admitted {d : Direction} {cls : PriorityClass} (h : CheckedIn j tag s) :
    serve (requestOf 0x38 (checkInBytes j d tag cls eta)) s = checkIn (askedFor j d tag cls eta s) s := by
  obtain ⟨-, hactive, ⟨htag, htag'⟩, hj, hallowed⟩ := h
  refine (serve_checkIn htag' j (dirByte d) (classByte cls) eta s).trans ?_
  rw [ownCheckIn_of_fields hactive (direction?_dirByte d) (class?_classByte cls) (by omega), if_neg (Nat.not_le.mpr hj),
    if_neg (by simp [hallowed])]
  rfl

theorem etaClamped_eq (now eta : Ct) : etaClamped now eta = !decide (etaAt now eta = eta) := by
  unfold etaClamped etaAt ahead
  cases hbefore : before eta now with
  | true =>
    have hne : now ≠ eta := by
      rintro rfl
      rw [before_self] at hbefore
      cases hbefore
    simp only [Bool.true_or, if_true, decide_eq_false hne, Bool.not_false]
  | false =>
    simp only [Bool.false_or, Bool.false_eq_true, if_false]
    by_cases hfar : 3000 < (eta - now).toNat
    · have hne : now + 3000 ≠ eta := by rintro rfl; bv_omega
      simp only [hfar, if_true, decide_true, decide_eq_false hne, Bool.not_false]
    · simp only [hfar, if_false, decide_true, decide_false, Bool.not_true]

theorem clampByte_eta (now eta : Ct) :
    clampByte false false false (etaClamped now eta) = [if etaAt now eta = eta then 0 else 8] := by
  rw [etaClamped_eq]
  by_cases h : etaAt now eta = eta
  · simp only [h, if_true]
    rfl
  · simp only [h, if_false]
    rfl

section
variable {q : CheckIn} {k : Fin 16} {r : Priority}

theorem checkIn_of_record (h : recordOf q.tag q.j s = some (k, r)) : checkIn q s = checkInReply .updated k [] q
    (afterCheckIn q (s.setPriorities (rewrite s.priorities k (updatePriority q s.settings.lm r)))) := by
  simp only [checkIn, h]

theorem checkIn_of_empty (h : recordOf q.tag q.j s = none) (hempty : lowestEmpty s.priorities = some k) :
    checkIn q s = checkInReply (if q.clamped then .clamped else .none) k [] q (afterCheckIn q
      (s.setPriorities (put s.priorities k (s.priorities[k].place (newPriority q s.settings.lm))))) := by
  simp only [checkIn, h, checkInCreate, hempty, createPriority]

theorem checkIn_of_victim (h : recordOf q.tag q.j s = none) (hfull : lowestEmpty s.priorities = none)
    (hlate : q.cls = .late) (hvictim : priorityVictim s = some (k, r)) :
    checkIn q s = checkInReply .evicted k (identifierOf k.val s.priorities[k].gen.val) q (afterCheckIn q
      (createPriority k (newPriority q s.settings.lm) (s.setPriorities (retireAt s.priorities k .evicted s.now)))) := by
  simp only [checkIn, h, checkInCreate, hfull, hlate, hvictim]

theorem checkIn_of_full (h : recordOf q.tag q.j s = none) (hfull : lowestEmpty s.priorities = none)
    (hno : q.cls = .regular ∨ priorityVictim s = none) : checkIn q s = refuse .tableFull s := by
  simp only [checkIn, h, checkInCreate, hfull]
  cases hcls : q.cls with
  | regular => rfl
  | late =>
    have hvictim : priorityVictim s = none := hno.resolve_left (by simp [hcls])
    simp only [hvictim]

/-- Of the REGULAR records the one with the latest ETA, the highest slot on a tie, is the one displaced. -/
theorem priorityVictim_eq (hlive : s.priorities[k].live = some r) (hcls : r.cls = .regular)
    (hlatest : ∀ x ∈ s.livePriorities, x.1 ≠ k → x.2.cls = .regular →
      before x.2.eta r.eta = true ∨ (x.2.eta = r.eta ∧ x.1 < k)) : priorityVictim s = some (k, r) := by
  refine best_of_beats (List.mem_filter.mpr ⟨mem_lives.mpr hlive, by simp [hcls]⟩) (fun x hx hne => ?_) (by simp)
  obtain ⟨hmem, hregular⟩ := List.mem_filter.mp hx
  have hslot : x.1 ≠ k := by
    intro hk
    subst hk
    have hsame := (mem_lives.mp hmem).symm.trans hlive
    exact hne (Prod.ext rfl (Option.some.inj hsame))
  obtain hbefore | ⟨heta, hlower⟩ := hlatest x hmem hslot (by simpa using hregular)
  · have hback := before_asymm hbefore
    have heta : r.eta ≠ x.2.eta := by
      intro heta
      rw [heta, before_self] at hbefore
      cases hbefore
    simp [hbefore, hback, Ne.symm heta]
  · have hnot : ¬ k < x.1 := lt_asymm hlower
    simp [heta, hlower, hnot]

theorem priorityVictim_eq_none (h : ∀ x ∈ s.livePriorities, x.2.cls = .late) : priorityVictim s = none := by
  rw [priorityVictim, best_eq_none, List.filter_eq_nil_iff]
  intro x hx
  simp [h x hx]

end

/-! ## The evaluation after it (R94, R132) -/

theorem afterCheckIn_of_no_evaluation {q : CheckIn} {v : Vector (Slot Priority) 16} (hq : q.j = j.toNat)
    (h : NoEvaluation j q.cls s) : afterCheckIn q (s.setPriorities v) = s.setPriorities v := by
  unfold afterCheckIn
  split
  · next hlate =>
    obtain hregular | hgreen := h
    · rw [hlate] at hregular
      cases hregular
    · refine evaluateEarly_of_unmet (.inl fun p w c hmay => ?_)
      have hjunction : s.junctions[j.toNat]? = some p := hq ▸ hmay.junction
      have hcycle : p.cycle? = some c := by
        rw [Junction.cycle?, window_of_acting hmay.window]
        exact hmay.cycle
      have hside := hmay.side
      rw [hgreen p c hjunction hcycle] at hside
      cases hside
  · rfl

theorem frame_afterCheckIn (q : CheckIn) (s : State) : Frame [.junctions, .priorities] s (afterCheckIn q s) := by
  unfold afterCheckIn
  split
  · exact frame_evaluateEarly q.j s
  · exact .refl _ s

theorem afterCheckIn_alerts {q : CheckIn} {test : Coordination → Bool} (htest : ∀ (p : Junction) (c : Cycle),
    test (p.setCycle c).state = test p.state) (h : (afterCheckIn q s).anyJunction test = true) :
    s.anyJunction test = true := by
  unfold afterCheckIn at h
  split at h
  · exact evaluateEarly_alerts htest h
  · exact h

/-- An evaluation grants a record at most: it empties no slot and renames none. -/
theorem evaluateEarly_keeps {i : Nat} {k : Fin 16} {r : Priority} (hlive : s.priorities[k].live = some r) :
    ∃ shown, (evaluateEarly i s).priorities[k] = { s.priorities[k] with live := some shown } := by
  rcases evaluateEarly_cases i s with e | ⟨q, w, c, m, x, hq, -, -, -, -, -, e⟩
  · refine ⟨r, ?_⟩
    rw [e, ← hlive]
  · rw [e, grantEarly_eq hq, State.setPriorities_priorities, rewrite_get]
    split
    · next hk =>
      subst hk
      exact ⟨_, rfl⟩
    · exact ⟨r, by rw [← hlive]⟩

/-- What an evaluation does is told from the junctions and the records it leaves. -/
theorem evaluatesEarly_congr {i : Nat} {t u : State} (h : EvaluatesEarly i s t) (hjunctions : u.junctions = t.junctions)
    (hpriorities : u.priorities = t.priorities) : EvaluatesEarly i s u := by
  unfold EvaluatesEarly at h ⊢
  rw [hjunctions, hpriorities]
  exact h

/-- An admitted check-in that stores its record: the answer shows it as the evaluation leaves it. -/
theorem checkIn_acts {d : Direction} {cls : PriorityClass} {k : Fin 16} {v : Vector (Slot Priority) 16} {t : State}
    {reason : Reason} {evicted : List Byte} {shown : Priority} (hs : CheckedIn j tag s)
    (h : checkIn (askedFor j d tag cls eta s) s = checkInReply reason k evicted (askedFor j d tag cls eta s) t)
    (ht : t = afterCheckIn (askedFor j d tag cls eta s) (s.setPriorities v))
    (hlive : t.priorities[k].live = some shown) :
    ∃ u, exec (.checkIn (checkInBytes j d tag cls eta)) s = .next u ∧
      Answers u 0x38 .done reason (priorityRecord k t.priorities[k].gen shown ++ evicted ++
        [if etaAt s.time.ct eta = eta then 0 else 8]) ∧ Frame [.port] t u := by
  have hreply : serve (requestOf 0x38 (checkInBytes j d tag cls eta)) s = done reason
      (priorityRecord k t.priorities[k].gen shown ++ evicted ++ [if etaAt s.time.ct eta = eta then 0 else 8]) t := by
    rw [serve_checkIn_of_admitted hs, h]
    simp only [checkInReply, hlive, priorityBytes_eq, askedFor, clampByte_eta]
    rfl
  have hstored : Frame [.junctions, .priorities] s t := by
    rw [ht]
    exact ((frame_setPriorities s v).mono (by simp)).trans (frame_afterCheckIn _ _)
  obtain ⟨u, hexec, hanswer, -, -, hjoined⟩ := answers_of_owner (c := .checkIn _) hs.idle rfl rfl hreply hstored
  have htime : t.time = s.time := hstored .time (by simp)
  obtain ⟨howner, -⟩ := hjoined (joined_of_levels (hstored .alertConfig (by simp)) (hstored .port (by simp)).1
    (hstored .latched (by simp)) (by rw [htime]; exact id) (by rw [htime]; exact id)
    (fun hfault => afterCheckIn_alerts (s := s.setPriorities v) isFault_setCycle (ht ▸ hfault))
    (fun hpreempt => afterCheckIn_alerts (s := s.setPriorities v) isPreempt_setCycle (ht ▸ hpreempt)))
  exact ⟨u, hexec, hanswer, howner⟩

end

end Sys2Proof.Machine
end

section
/-! SUPPORT. What an admitted check-in stores (R130, R131), and the statements about CHECK IN and the early green. -/

namespace Sys2Proof.Machine

open Sys2Proof.Safety

/-! ## What an admitted check-in stores (R130, R131) -/

/-- A check-in puts `slot` into slot `k` of the priority list and answers the reason, with the identifier it evicts. -/
def Stores (q : CheckIn) (s : State) (k : Fin 16) (slot : Slot Priority) (reason : Reason) (evicted : List Byte) : Prop :=
  ∃ v : Vector (Slot Priority) 16, (∀ i : Fin 16, v[i] = if i = k then slot else s.priorities[i]) ∧
    checkIn q s = checkInReply reason k evicted q (afterCheckIn q (s.setPriorities v))

/-- The record that a check-in writes into its slot, made afresh (R131). -/
def madeRecord (j : Byte) (d : Direction) (tag : Nat) (cls : PriorityClass) (eta : Ct) (s : State) : Priority :=
  ⟨tag, j.toNat, d, cls, etaAt s.time.ct eta, etaAt s.time.ct eta + BitVec.ofNat 32 s.settings.lm, none⟩

/-- The record of the tag as a check-in updates it (R130). -/
def keptRecord (d : Direction) (cls : PriorityClass) (eta : Ct) (s : State) (r : Priority) : Priority :=
  { r with dir := d, cls := cls, eta := etaAt s.time.ct eta
           expiry := etaAt s.time.ct eta + BitVec.ofNat 32 s.settings.lm }

section
variable {j : Byte} {d : Direction} {tag : Nat} {cls : PriorityClass} {eta : Ct} {s : State} {k : Fin 16} {r : Priority}

theorem stores_updated (hlive : s.priorities[k].live = some r) (htag : r.tag = tag) (hj : r.junction = j.toNat)
    (honly : ∀ x ∈ s.livePriorities, x.2.tag = tag → x.2.junction = j.toNat → x.1 = k) :
    Stores (askedFor j d tag cls eta s) s k { s.priorities[k] with live := some (keptRecord d cls eta s r) } .updated [] :=
  ⟨_, rewrite_get _ _ _, checkIn_of_record (q := askedFor j d tag cls eta s) (recordOf_of_unique hlive htag hj honly)⟩

theorem stores_created (hnew : ∀ x ∈ s.livePriorities, x.2.tag = tag → x.2.junction ≠ j.toNat)
    (hempty : s.priorities[k].live = none) (hlower : ∀ i : Fin 16, i < k → s.priorities[i].live.isSome = true) :
    Stores (askedFor j d tag cls eta s) s k ⟨s.priorities[k].gen + 1, some (madeRecord j d tag cls eta s), none⟩
      (if etaAt s.time.ct eta = eta then .none else .clamped) [] := by
  refine ⟨_, place_get _ _ _, ?_⟩
  rw [checkIn_of_empty (q := askedFor j d tag cls eta s) (recordOf_of_absent hnew) (lowestEmpty_eq_some hempty hlower)]
  have hclamped : (askedFor j d tag cls eta s).clamped = !decide (etaAt s.time.ct eta = eta) := etaClamped_eq _ _
  rw [hclamped]
  by_cases h : etaAt s.time.ct eta = eta
  · simp only [h, decide_true, Bool.not_true, Bool.false_eq_true, if_false, if_true]
    rfl
  · simp only [h, decide_false, Bool.not_false, if_false, if_true]
    rfl

theorem stores_evicting (hnew : ∀ x ∈ s.livePriorities, x.2.tag = tag → x.2.junction ≠ j.toNat)
    (hfull : ∀ i : Fin 16, s.priorities[i].live.isSome = true) (hlive : s.priorities[k].live = some r)
    (hcls : r.cls = .regular) (hlatest : ∀ x ∈ s.livePriorities, x.1 ≠ k → x.2.cls = .regular →
      before x.2.eta r.eta = true ∨ (x.2.eta = r.eta ∧ x.1 < k)) :
    Stores (askedFor j d tag .late eta s) s k ⟨s.priorities[k].gen + 1, some (madeRecord j d tag .late eta s), none⟩
      .evicted [BitVec.ofNat 8 k.val, BitVec.ofNat 8 s.priorities[k].gen.val] := by
  exact ⟨_, replace_get _ _ _ _ _, checkIn_of_victim (q := askedFor j d tag .late eta s) (recordOf_of_absent hnew)
    (lowestEmpty_eq_none.mpr hfull) rfl (priorityVictim_eq hlive hcls hlatest)⟩

theorem stores_of_latePlaced {slot : Slot Priority} {reason : Reason} {evicted : List Byte}
    (h : LatePlaced j d tag eta s k slot reason evicted) : Stores (askedFor j d tag .late eta s) s k slot reason evicted := by
  cases h with
  | updated r hlive htag hj honly => exact stores_updated hlive htag hj honly
  | created hnew hempty hlower => exact stores_created hnew hempty hlower
  | evicting r hnew hfull hlive hcls hlatest => exact stores_evicting hnew hfull hlive hcls hlatest

theorem live_of_latePlaced {slot : Slot Priority} {reason : Reason} {evicted : List Byte}
    (h : LatePlaced j d tag eta s k slot reason evicted) : ∃ x, slot.live = some x := by
  cases h <;> exact ⟨_, rfl⟩

/-- A check-in that makes no evaluation leaves its record as it stores it. -/
theorem checkIn_stores {slot : Slot Priority} {x : Priority} {reason : Reason} {evicted : List Byte}
    (hs : CheckedIn j tag s) (hno : NoEvaluation j cls s)
    (h : Stores (askedFor j d tag cls eta s) s k slot reason evicted) (hslot : slot.live = some x) :
    ∃ u, exec (.checkIn (checkInBytes j d tag cls eta)) s = .next u ∧
      Answers u 0x38 .done reason (priorityRecord k slot.gen x ++ evicted ++ [if etaAt s.time.ct eta = eta then 0 else 8]) ∧
      Frame [.priorities, .port] s u ∧ ∀ i : Fin 16, u.priorities[i] = if i = k then slot else s.priorities[i] := by
  obtain ⟨v, hv, hreply⟩ := h
  have hk : v[k] = slot := (hv k).trans (if_pos rfl)
  have hafter := afterCheckIn_of_no_evaluation (q := askedFor j d tag cls eta s) (v := v) rfl hno
  rw [hafter] at hreply
  have hlive : (s.setPriorities v).priorities[k].live = some x := by rw [State.setPriorities_priorities, hk, hslot]
  obtain ⟨u, hexec, hanswer, howner⟩ := checkIn_acts hs hreply hafter.symm hlive
  rw [State.setPriorities_priorities, hk] at hanswer
  have hpriorities : u.priorities = v := howner .priorities (by simp)
  exact ⟨u, hexec, hanswer, ((frame_setPriorities s v).mono (by simp)).trans (howner.mono (by simp)), hpriorities ▸ hv⟩

end

end Sys2Proof.Machine

namespace Sys2Proof.Proofs

open Sys2Proof.Machine Sys2Proof.Safety

/-- Settles O54: an admitted check-in stores the record its case names; a refusal is read off the checks in their
order. -/
theorem checkInStoresRecord : Obligations.CheckInStoresRecord := by
  refine ⟨fun j d tag cls eta s k r hs hno => ?_, fun j b cb tag eta s hs htag => ?_⟩
  · refine ⟨fun hlive hrtag hj honly => ?_, fun hnew => ⟨fun hempty hlower => ?_, fun hfull hcls hlive hregular hlatest => ?_,
      fun hfull hgive => ?_⟩⟩
    · obtain ⟨u, hexec, hanswer, hrest⟩ := checkIn_stores hs hno (stores_updated hlive hrtag hj honly) rfl
      rw [List.append_nil] at hanswer
      exact ⟨u, hexec, hanswer, hrest⟩
    · obtain ⟨u, hexec, hanswer, hrest⟩ := checkIn_stores hs hno (stores_created hnew hempty hlower) rfl
      rw [List.append_nil] at hanswer
      exact ⟨u, hexec, hanswer, hrest⟩
    · subst hcls
      obtain ⟨u, hexec, hanswer, hrest⟩ :=
        checkIn_stores hs hno (stores_evicting hnew hfull hlive hregular hlatest) rfl
      rw [List.append_assoc] at hanswer
      exact ⟨u, hexec, hanswer, hrest⟩
    · refine refuses_of_owner hs.idle rfl rfl ((serve_checkIn_of_admitted hs).trans ?_)
      exact checkIn_of_full (recordOf_of_absent hnew) (lowestEmpty_eq_none.mpr hfull) (hgive.imp_right priorityVictim_eq_none)
  · have hrefuses {reason : Reason} (h : ownCheckIn ⟨j.toNat, b.toNat, tag, cb.toNat, eta⟩ s = refuse reason s) :
        Refuses (.checkIn ([j, b] ++ wordOf tag ++ [cb] ++ ctOf eta)) s 0x38 reason [] :=
      refuses_of_owner hs rfl rfl ((serve_checkIn htag j b cb eta s).trans h)
    refine ⟨fun hnone => hrefuses (ownCheckIn_of_no_plan hnone), fun hactive => ⟨fun hout => ?_, fun hb hcb hzero => ?_⟩⟩
    · exact hrefuses (ownCheckIn_of_out_of_range hactive hout)
    · obtain ⟨cls, hcls⟩ := class?_of_le hcb
      have hfields := ownCheckIn_of_fields (j := j) (eta := eta) hactive (direction?_of_le hb) hcls hzero
      refine ⟨fun hn => hrefuses (hfields.trans (if_pos hn)), fun hn hallowed => hrefuses (hfields.trans ?_)⟩
      rw [if_neg (Nat.not_le.mpr hn), if_pos hallowed]

/-- Settles O55: at a check-in the evaluation runs on the list with the record stored, and at a green end that closes it
runs from the side-time start. -/
theorem earlyGreenServesLateRecord : Obligations.EarlyGreenServesLateRecord := by
  refine ⟨fun j d tag eta s k slot reason evicted hs hplaced => ?_, fun j q w c s h hcloses => ?_⟩
  · obtain ⟨v, hv, hreply⟩ := stores_of_latePlaced hplaced
    obtain ⟨x, hx⟩ := live_of_latePlaced hplaced
    have hk : v[k] = slot := (hv k).trans (if_pos rfl)
    have hstored : (s.setPriorities v).priorities[k] = slot := hk
    obtain ⟨shown, hshown⟩ := evaluateEarly_keeps (i := j.toNat) (s := s.setPriorities v) (hstored ▸ hx)
    rw [hstored] at hshown
    have hafter : afterCheckIn (askedFor j d tag .late eta s) (s.setPriorities v) =
        evaluateEarly j.toNat (s.setPriorities v) := rfl
    rw [hafter] at hreply
    have hlive : (evaluateEarly j.toNat (s.setPriorities v)).priorities[k].live = some shown := by rw [hshown]
    obtain ⟨u, hexec, hanswer, howner⟩ := checkIn_acts hs hreply hafter.symm hlive
    rw [hshown] at hanswer
    have hpriorities := howner .priorities (by simp)
    have hjunctions := howner .junctions (by simp)
    refine ⟨u, v, shown, hexec, hv, evaluatesEarly_congr (evaluateEarly_evaluates _ _) hjunctions hpriorities, ?_, ?_, hanswer⟩
    · exact ((frame_setPriorities s v).mono (by simp)).trans
        (((frame_evaluateEarly j.toNat _).mono (by simp)).trans (howner.mono (by simp)))
    · exact (congrArg (fun t : Vector (Slot Priority) 16 => t[k]) hpriorities).trans hshown
  · have hwindow := AtGreenEnd.window? h
    refine ⟨_, exec_greenEndCheck_of_due h, (frame_checkGreen h.junction hwindow w.start).mono (by simp), ?_⟩
    rw [checkGreen_of_closes w.start hcloses, closeGreen_eq h.junction hwindow]
    exact evaluateEarly_evaluates _ _

end Sys2Proof.Proofs
end

section
/-! SUPPORT. The answers and the partners of platoon records (R106, R108, R111); PLATOON SEEN (R107 to R114), and the
statements about it. -/

namespace Sys2Proof.Machine

open Sys2Proof.Safety

/-! ## The clamp byte and the reason (R108, R172) -/

theorem clamps_bytes (a b c : Bool) : (Clamps.mk a b c).bytes = [clampOf a b c] := by
  cases a <;> cases b <;> cases c <;> rfl

theorem clamps_reason (a b c : Bool) :
    (Clamps.mk a b c).reason = if clampOf a b c = 0 then .none else .clamped := by
  cases a <;> cases b <;> cases c <;> rfl

theorem platoonReply_eq (reason : Reason) (k : Fin 32) (gen : Fin 16) (p : Platoon) (extra : List Byte) (a b c : Bool) :
    platoonReply reason k gen.val p extra ⟨a, b, c⟩ =
      doneReply reason (platoonRecord k gen p ++ extra ++ [clampOf a b c]) := by
  rw [platoonReply, platoonBytes_eq, clamps_bytes]

theorem tooOld_iff {now t : Ct} : tooOld now t = true ↔ ¬ InTime now t := by
  simp [tooOld, InTime]

theorem tooOld_of_inTime {now t : Ct} (h : InTime now t) : tooOld now t = false := by
  rw [← Bool.not_eq_true, tooOld_iff, not_not]
  exact h

/-! ## Links (R106) -/

section
variable {a : ActivePlan} {n : Nat} {d : Direction} {j : Byte} {k travel : Nat}

theorem isLast_of_departs (h : Departs a n d (some j) k travel) : isLast n d j.toNat = false := by
  cases d with
  | inbound =>
    have hj : j.toNat + 1 < n := h.1
    exact beq_eq_false_iff_ne.mpr hj.ne
  | outbound =>
    have hj : k + 1 = j.toNat := h.2.1
    exact beq_eq_false_iff_ne.mpr (by omega)

theorem linkFrom_of_departs (h : Departs a n d (some j) k travel) : linkFrom a d j.toNat = (k, travel) := by
  cases d with
  | inbound =>
    obtain ⟨-, rfl, htravel⟩ := h
    simp [linkFrom, List.getD_eq_getElem?_getD, htravel]
  | outbound =>
    obtain ⟨-, hk, htravel⟩ := h
    obtain rfl : k = j.toNat - 1 := by omega
    simp [linkFrom, List.getD_eq_getElem?_getD, htravel]

theorem lt_of_departs (h : Departs a n d (some j) k travel) : j.toNat < n := by
  cases d with
  | inbound => exact Nat.lt_of_succ_lt h.1
  | outbound => exact h.1

theorem entryOf_of_departs (h : Departs a n d none k travel) : entryOf a d = some travel ∧ entryTarget n d = k := by
  cases d with
  | inbound => exact ⟨h.2, h.1.symm⟩
  | outbound =>
    obtain ⟨hk, htravel⟩ := h
    refine ⟨htravel, ?_⟩
    show n - 1 = k
    omega

theorem isLast_iff : isLast n d k = true ↔ (d = .inbound ∧ k + 1 = n) ∨ (d = .outbound ∧ k = 0) := by
  cases d <;> simp [isLast]

end

/-! ## Merge partners (R111, R119) -/

section
variable {m : Fin 32} {r formed : Platoon} {skip : Option (Fin 32)} {s : State}

theorem mergePartner_of_partner (h : Partner m r formed skip s) :
    mergePartner s.settings.gm formed skip s.platoons = some (m, r) := by
  have hpartner : isPartner s.settings.gm formed r = true := isPartner_iff.mpr ⟨h.dir, h.cur, h.near⟩
  refine best_of_beats (List.mem_filter.mpr ⟨mem_lives.mpr h.live, by simp [hpartner, h.other]⟩) (fun e he hne => ?_)
    (before_self _)
  obtain ⟨hlive, htest⟩ := List.mem_filter.mp he
  simp only [Bool.and_eq_true, bne_iff_ne] at htest
  obtain ⟨hdir, hcur, hnear⟩ := isPartner_iff.mp htest.1
  have hslot : e.1 ≠ m := by
    rintro rfl
    exact hne (Prod.ext rfl (Option.some.inj ((mem_lives.mp hlive).symm.trans h.live)))
  have hbefore := h.earliest e hlive hslot htest.2 hdir hcur hnear
  exact ⟨hbefore, before_asymm hbefore⟩

theorem mergePartner_of_alone (h : ∀ e ∈ s.livePlatoons, skip ≠ some e.1 → e.2.dir = formed.dir → e.2.cur = formed.cur →
    s.settings.gm ≤ apart e.2.head formed.head) : mergePartner s.settings.gm formed skip s.platoons = none := by
  rw [mergePartner, best_eq_none, List.filter_eq_nil_iff]
  intro e he htest
  simp only [Bool.and_eq_true, bne_iff_ne] at htest
  obtain ⟨hdir, hcur, hnear⟩ := isPartner_iff.mp htest.1
  exact absurd hnear (Nat.not_lt.mpr (h e he htest.2 hdir hcur))

theorem mergeInto_eq (r formed : Platoon) : mergeInto r formed = mergedRecord r formed := rfl

end

/-! ## PLATOON SEEN at its owner (R107 to R114) -/

/-- The fields of a PLATOON SEEN, from a junction or from an entry link. -/
def seenFields (from? : Option Byte) (b : Byte) (t : Ct) (count : Byte) (spread : Nat) : SeenFields :=
  ⟨from?.map BitVec.toNat, b.toNat, t, count.toNat, word16 (BitVec.ofNat 8 (spread / 256)) (BitVec.ofNat 8 spread)⟩

section
variable {from? : Option Byte} {b count : Byte} {t : Ct} {spread : Nat} {s : State}

theorem serve_platoonSeen (from? : Option Byte) (b : Byte) (t : Ct) (count : Byte) (spread : Nat) (s : State) :
    serve (requestOf 0x30 (from?.toList ++ [b] ++ ctOf t ++ [count] ++ wordOf spread)) s =
      ownPlatoonSeen (seenFields from? b t count spread) s := by
  have hjunction (j t3 t2 t1 t0 s1 s0 : Byte) : serve (requestOf 0x30 [j, b, t3, t2, t1, t0, count, s1, s0]) s =
      ownPlatoonSeen ⟨some j.toNat, b.toNat, word32 t3 t2 t1 t0, count.toNat, word16 s1 s0⟩ s := rfl
  have hentry (t3 t2 t1 t0 s1 s0 : Byte) : serve (requestOf 0x30 [b, t3, t2, t1, t0, count, s1, s0]) s =
      ownPlatoonSeen ⟨none, b.toNat, word32 t3 t2 t1 t0, count.toNat, word16 s1 s0⟩ s := rfl
  cases from? with
  | some j => exact (hjunction _ _ _ _ _ _ _).trans (by rw [word32_ctOf]; rfl)
  | none => exact (hentry _ _ _ _ _ _).trans (by rw [word32_ctOf]; rfl)

section
variable {q : SeenFields} {a : ActivePlan} {p : Plan} {d : Direction} {j travel : Nat}

theorem ownPlatoonSeen_of_no_plan (h : s.activeRecord = none) : ownPlatoonSeen q s = refuse .noPlan s := by
  simp only [ownPlatoonSeen, h]

theorem ownPlatoonSeen_of_no_direction (hplan : s.activeRecord = some (a, p)) (hd : 1 < q.dir) :
    ownPlatoonSeen q s = refuse .outOfRange s := by
  simp only [ownPlatoonSeen, hplan, direction?_of_gt hd]

theorem ownPlatoonSeen_of_junction (hplan : s.activeRecord = some (a, p)) (hd : direction? q.dir = some d)
    (hj : q.j = some j) : ownPlatoonSeen q s = if s.n ≤ j then refuse .notConfigured s
      else if seenRefused q s then refuse .outOfRange s else seenAtJunction q d j a p s := by
  simp only [ownPlatoonSeen, hplan, hd, hj]

theorem ownPlatoonSeen_of_entry (hplan : s.activeRecord = some (a, p)) (hd : direction? q.dir = some d)
    (hj : q.j = none) (hentry : entryOf a d = some travel) :
    ownPlatoonSeen q s = if seenRefused q s then refuse .outOfRange s else seenAtEntry q d travel p s := by
  simp only [ownPlatoonSeen, hplan, hd, hj, hentry]

theorem ownPlatoonSeen_of_no_entry (hplan : s.activeRecord = some (a, p)) (hd : direction? q.dir = some d)
    (hj : q.j = none) (hentry : entryOf a d = none) : ownPlatoonSeen q s = refuse .notConfigured s := by
  simp only [ownPlatoonSeen, hplan, hd, hj, hentry]

end

theorem seenRefused_of_bad (h : count = 0 ∨ ¬ InTime s.time.ct t) :
    seenRefused (seenFields from? b t count spread) s = true := by
  rw [seenRefused, Bool.or_eq_true, beq_iff_eq]
  obtain rfl | hold := h
  · exact .inl rfl
  · exact .inr (tooOld_iff.mpr hold)

theorem seenRefused_of_good (hcount : count ≠ 0) (htime : InTime s.time.ct t) :
    seenRefused (seenFields from? b t count spread) s = false := by
  have hnumber : count.toNat ≠ 0 := fun h => hcount (by bv_omega)
  rw [seenRefused, Bool.or_eq_false_iff, beq_eq_false_iff_ne]
  exact ⟨hnumber, tooOld_of_inTime htime⟩

/-- The clamps of a report, with the spread it carries. -/
theorem seenClamps_eq (hspread : spread ≤ 65535) (now : Ct) : seenClamps now (seenFields from? b t count spread) =
    ⟨before now t, decide (99 < count.toNat), decide (600 < spread)⟩ := by
  rw [seenClamps, seenFields, word16_wordOf hspread]

/-- An admitted report forms its record, whichever way it comes. -/
theorem ownPlatoonSeen_of_seen {d : Direction} {k travel : Nat} {a : ActivePlan} {p : Plan}
    (h : Seen d from? t count spread k travel a p s) : ownPlatoonSeen (seenFields from? (dirByte d) t count spread) s =
      seenFormed (formedRecord d from? k travel p.c s.settings.lm count.toNat spread (seenAt s.time.ct t))
        ⟨before s.time.ct t, decide (99 < count.toNat), decide (600 < spread)⟩ s := by
  obtain ⟨-, hplan, htime, hcount, hspread, hdeparts⟩ := h
  have hgood : ¬ seenRefused (seenFields from? (dirByte d) t count spread) s = true := by
    rw [seenRefused_of_good hcount htime]
    exact Bool.false_ne_true
  cases from? with
  | some j =>
    rw [ownPlatoonSeen_of_junction hplan (direction?_dirByte d) rfl, if_neg (Nat.not_le.mpr (lt_of_departs hdeparts)),
      if_neg hgood, seenAtJunction, if_neg (by rw [isLast_of_departs hdeparts]; exact Bool.false_ne_true),
      linkFrom_of_departs hdeparts, seenClamps_eq hspread, seenFields, word16_wordOf hspread]
    rfl
  | none =>
    obtain ⟨hentry, htarget⟩ := entryOf_of_departs hdeparts
    rw [ownPlatoonSeen_of_entry hplan (direction?_dirByte d) rfl hentry, if_neg hgood, seenAtEntry, htarget,
      seenClamps_eq hspread, seenFields, word16_wordOf hspread]
    rfl

end

/-! ## The formed record dissolved, merged or placed (R110 to R114) -/

section
variable {formed r : Platoon} {x y z : Bool} {m : Fin 32} {s : State}

theorem seenFormed_of_spread (h : s.settings.dl < formed.spread) :
    seenFormed formed ⟨x, y, z⟩ s = done .dissolved [clampOf x y z] s := by
  rw [seenFormed, if_pos h, clamps_bytes]
  rfl

theorem seenFormed_of_partner (hspread : formed.spread ≤ s.settings.dl) (h : Partner m r formed none s) :
    seenFormed formed ⟨x, y, z⟩ s = seenMerge s.settings.dl m r formed ⟨x, y, z⟩ s := by
  simp only [seenFormed, if_neg (Nat.not_lt.mpr hspread), mergePartner_of_partner h]

theorem seenFormed_of_alone (hspread : formed.spread ≤ s.settings.dl)
    (h : ∀ e ∈ s.livePlatoons, e.2.dir = formed.dir → e.2.cur = formed.cur → s.settings.gm ≤ apart e.2.head formed.head) :
    seenFormed formed ⟨x, y, z⟩ s = seenPlace formed ⟨x, y, z⟩ s := by
  simp only [seenFormed, if_neg (Nat.not_lt.mpr hspread), mergePartner_of_alone fun e he _ => h e he]

theorem seenMerge_of_kept (h : (mergedRecord r formed).spread ≤ s.settings.dl) :
    seenMerge s.settings.dl m r formed ⟨x, y, z⟩ s =
      done .merged (platoonRecord m s.platoons[m].gen (mergedRecord r formed) ++ [clampOf x y z])
        (s.setPlatoons (rewrite s.platoons m (mergedRecord r formed))) := by
  rw [seenMerge, mergeInto_eq, if_neg (Nat.not_lt.mpr h), platoonReply_eq, List.append_nil]
  rfl

theorem seenMerge_of_spread (h : s.settings.dl < (mergedRecord r formed).spread) :
    seenMerge s.settings.dl m r formed ⟨x, y, z⟩ s =
      done .dissolved [BitVec.ofNat 8 m.val, BitVec.ofNat 8 s.platoons[m].gen.val, clampOf x y z]
        (s.setPlatoons (retireAt s.platoons m .dissolved s.now)) := by
  rw [seenMerge, mergeInto_eq, if_pos h, clamps_bytes]
  rfl

theorem createPlatoon_eq (m : Fin 32) (formed : Platoon) (s : State) :
    createPlatoon m formed s = s.setPlatoons (put s.platoons m (s.platoons[m].place formed)) := rfl

theorem seenPlace_of_empty (h : lowestEmpty s.platoons = some m) : seenPlace formed ⟨x, y, z⟩ s =
    done (if clampOf x y z = 0 then .none else .clamped)
      (platoonRecord m (s.platoons[m].gen + 1) formed ++ [clampOf x y z])
      (s.setPlatoons (put s.platoons m (s.platoons[m].place formed))) := by
  have hgen : (createPlatoon m formed s).platoons[m].gen = s.platoons[m].gen + 1 := by
    rw [createPlatoon_eq, State.setPlatoons_platoons, place_get, if_pos rfl]
  simp only [seenPlace, h, hgen, platoonReply_eq, clamps_reason, List.append_nil]
  rfl

/-- The record that a full table gives up: the smallest count, then the latest head, then the highest slot. -/
theorem platoonVictim_eq (hlive : s.platoons[m].live = some r) (hleast : ∀ e ∈ s.livePlatoons, e.1 ≠ m →
      r.count < e.2.count ∨ (r.count = e.2.count ∧
        (before e.2.head r.head = true ∨ (e.2.head = r.head ∧ e.1 < m)))) : platoonVictim s.platoons = some (m, r) := by
  refine best_of_beats (mem_lives.mpr hlive) (fun e he hne => ?_) (by simp)
  have hslot : e.1 ≠ m := by
    rintro rfl
    exact hne (Prod.ext rfl (Option.some.inj ((mem_lives.mp he).symm.trans hlive)))
  obtain hcount | ⟨hcount, hbefore | ⟨hhead, hlower⟩⟩ := hleast e he hslot
  · have hnot : ¬ e.2.count < r.count := lt_asymm hcount
    simp [hcount, hnot, hcount.ne']
  · have hback := before_asymm hbefore
    have hhead : e.2.head ≠ r.head := by
      intro hhead
      rw [hhead, before_self] at hbefore
      cases hbefore
    simp [hcount, hbefore, hback, hhead]
  · have hnot : ¬ m < e.1 := lt_asymm hlower
    simp [hcount, hhead, hlower, hnot]

section
variable (hfull : lowestEmpty s.platoons = none) (hvictim : platoonVictim s.platoons = some (m, r))
include hfull hvictim

theorem seenPlace_of_larger (h : r.count < formed.count) : seenPlace formed ⟨x, y, z⟩ s =
    done .evicted (platoonRecord m (s.platoons[m].gen + 1) formed ++
        [BitVec.ofNat 8 m.val, BitVec.ofNat 8 s.platoons[m].gen.val, clampOf x y z])
      ((createPlatoon m formed (s.setPlatoons (retireAt s.platoons m .evicted s.now))).latch .platoonEvicted) := by
  have hgen : ((createPlatoon m formed (s.setPlatoons (retireAt s.platoons m .evicted s.now))).latch
      .platoonEvicted).platoons[m].gen = s.platoons[m].gen + 1 := by
    show (put (retireAt s.platoons m .evicted s.now) m ((retireAt s.platoons m .evicted s.now)[m].place formed))[m].gen = _
    rw [replace_get, if_pos rfl]
  simp only [seenPlace, hfull, seenEvict, hvictim, if_pos h, hgen, platoonReply_eq, List.append_assoc]
  rfl

theorem seenPlace_of_smaller (h : formed.count ≤ r.count) :
    seenPlace formed ⟨x, y, z⟩ s = (refusedReply .tableFull [], s.latch .platoonRefused) := by
  simp only [seenPlace, hfull, seenEvict, hvictim, if_neg (Nat.not_lt.mpr h)]

end

/-- A request that writes the platoon table and nothing else. -/
theorem setPlatoons_of_owner {c : Instr} {code : Byte} {ps payload : List Byte} {reason : Reason}
    {v : Vector (Slot Platoon) 32} (hs : Idle s) (hc : c.code? = some code) (hp : c.params? = some ps)
    (h : serve (requestOf code ps) s = done reason payload (s.setPlatoons v)) :
    ∃ u, exec c s = .next u ∧ Answers u code .done reason payload ∧ Frame [.platoons, .port] s u ∧ u.platoons = v := by
  obtain ⟨u, hexec, hanswer, howner, hframe⟩ :=
    answers_of_quiet_owner hs hc hp h (frame_setPlatoons s v) (by simp [Quiet])
  exact ⟨u, hexec, hanswer, hframe.mono (by simp), howner .platoons (by simp)⟩

/-- A request that answers and changes nothing but the port. -/
theorem answers_of_still_owner {c : Instr} {code : Byte} {ps payload : List Byte} {reason : Reason} (hs : Idle s)
    (hc : c.code? = some code) (hp : c.params? = some ps) (h : serve (requestOf code ps) s = done reason payload s) :
    ∃ u, exec c s = .next u ∧ Answers u code .done reason payload ∧ Frame [.port] s u := by
  obtain ⟨u, hexec, hanswer, howner, -⟩ := answers_of_quiet_owner hs hc hp h (.refl [] s) (by simp [Quiet])
  exact ⟨u, hexec, hanswer, howner⟩

end

end Sys2Proof.Machine

namespace Sys2Proof.Proofs

open Sys2Proof.Machine Sys2Proof.Safety

/-- Settles O50: an admitted report forms its record, which dissolves or takes the lowest empty slot; the refusals are
read off the checks in their order. -/
theorem platoonSeenFormsRecord : Obligations.PlatoonSeenFormsRecord := by
  refine ⟨fun d from? t count spread k travel a p s hseen => ?_, fun b j count t spread s hs => ?_⟩
  · intro formed clamp
    have hserve : serve (requestOf 0x30 (seenBytes d from? t count spread)) s = _ :=
      (serve_platoonSeen from? (dirByte d) t count spread s).trans (ownPlatoonSeen_of_seen hseen)
    refine ⟨fun hspread => ?_, fun m hspread hclear hempty hlower => ?_⟩
    · exact answers_of_still_owner hseen.idle rfl rfl (hserve.trans (seenFormed_of_spread hspread))
    · obtain ⟨u, hexec, hanswer, hframe, hplatoons⟩ := setPlatoons_of_owner (c := .platoonSeen _) hseen.idle rfl rfl
        (hserve.trans ((seenFormed_of_alone hspread hclear).trans
          (seenPlace_of_empty (lowestEmpty_eq_some hempty hlower))))
      exact ⟨u, hexec, hanswer, hframe, hplatoons ▸ place_get _ _ _⟩
  · intro rest
    have hjunction {reason : Reason} (h : ownPlatoonSeen (seenFields (some j) b t count spread) s = refuse reason s) :
        Refuses (.platoonSeen (j :: b :: rest)) s 0x30 reason [] :=
      refuses_of_owner hs rfl rfl ((serve_platoonSeen (some j) b t count spread s).trans h)
    have hentry {reason : Reason} (h : ownPlatoonSeen (seenFields none b t count spread) s = refuse reason s) :
        Refuses (.platoonSeen (b :: rest)) s 0x30 reason [] :=
      refuses_of_owner hs rfl rfl ((serve_platoonSeen none b t count spread s).trans h)
    refine ⟨fun hnone => ?_, fun hplan hb => ?_, fun hplan hb hn => ?_, fun a p hplan hno => ?_,
      fun hplan hb hn hbad => ?_, fun a p hplan hyes hbad => ?_, fun hplan hlast hcount htime hspread => ?_⟩
    · have hplan := activeRecord_none_of_inactive hnone
      exact ⟨hjunction (ownPlatoonSeen_of_no_plan hplan), hentry (ownPlatoonSeen_of_no_plan hplan)⟩
    · obtain ⟨⟨a, p⟩, hplan⟩ := Option.isSome_iff_exists.mp hplan
      exact ⟨hjunction (ownPlatoonSeen_of_no_direction hplan hb), hentry (ownPlatoonSeen_of_no_direction hplan hb)⟩
    · obtain ⟨⟨a, p⟩, hplan⟩ := Option.isSome_iff_exists.mp hplan
      exact hjunction ((ownPlatoonSeen_of_junction hplan (direction?_of_le hb) rfl).trans (if_pos hn))
    · refine hentry ?_
      obtain ⟨rfl, hno⟩ | ⟨rfl, hno⟩ := hno
      · exact ownPlatoonSeen_of_no_entry (d := .inbound) hplan rfl rfl hno
      · exact ownPlatoonSeen_of_no_entry (d := .outbound) hplan rfl rfl hno
    · obtain ⟨⟨a, p⟩, hplan⟩ := Option.isSome_iff_exists.mp hplan
      refine hjunction ((ownPlatoonSeen_of_junction hplan (direction?_of_le hb) rfl).trans ?_)
      rw [if_neg (Nat.not_le.mpr hn), if_pos (seenRefused_of_bad hbad)]
    · refine hentry ?_
      obtain ⟨rfl, hyes⟩ | ⟨rfl, hyes⟩ := hyes
      · obtain ⟨travel, htravel⟩ := Option.isSome_iff_exists.mp hyes
        exact (ownPlatoonSeen_of_entry (d := .inbound) hplan rfl rfl htravel).trans (if_pos (seenRefused_of_bad hbad))
      · obtain ⟨travel, htravel⟩ := Option.isSome_iff_exists.mp hyes
        exact (ownPlatoonSeen_of_entry (d := .outbound) hplan rfl rfl htravel).trans (if_pos (seenRefused_of_bad hbad))
    · obtain ⟨⟨a, p⟩, hplan⟩ := Option.isSome_iff_exists.mp hplan
      have hgood : ¬ seenRefused (seenFields (some j) b t count spread) s = true := by
        rw [seenRefused_of_good hcount htime]
        exact Bool.false_ne_true
      have hplace : ∃ d, direction? b.toNat = some d ∧ j.toNat < s.n ∧ isLast s.n d j.toNat = true := by
        obtain ⟨rfl, hj⟩ | ⟨rfl, rfl, hn⟩ := hlast
        · exact ⟨.inbound, rfl, by omega, isLast_iff.mpr (.inl ⟨rfl, hj⟩)⟩
        · exact ⟨.outbound, rfl, hn, rfl⟩
      obtain ⟨d, hd, hn, hend⟩ := hplace
      refine answers_of_still_owner hs rfl rfl ((serve_platoonSeen (some j) b t count spread s).trans
        ((ownPlatoonSeen_of_junction hplan hd rfl).trans ?_))
      rw [if_neg (Nat.not_le.mpr hn), if_neg hgood, seenAtJunction, if_pos hend, seenClamps_eq hspread, clamps_bytes]
      rfl

/-- Settles O51: the formed record goes into its partner, into the slot of the record that gives way, or nowhere. -/
theorem platoonSeenMergesOrEvicts : Obligations.PlatoonSeenMergesOrEvicts := by
  intro d from? t count spread k travel a p s m r hseen formed clamp gen hspread
  have hserve : serve (requestOf 0x30 (seenBytes d from? t count spread)) s = _ :=
    (serve_platoonSeen from? (dirByte d) t count spread s).trans (ownPlatoonSeen_of_seen hseen)
  refine ⟨fun hpartner => ⟨fun hkept => ?_, fun hbig => ?_⟩, fun hfull hlive hclear hleast => ?_⟩
  · obtain ⟨u, hexec, hanswer, hframe, hplatoons⟩ := setPlatoons_of_owner (c := .platoonSeen _) hseen.idle rfl rfl
      (hserve.trans ((seenFormed_of_partner hspread hpartner).trans (seenMerge_of_kept hkept)))
    exact ⟨u, hexec, hanswer, hframe, hplatoons ▸ rewrite_get _ _ _⟩
  · obtain ⟨u, hexec, hanswer, hframe, hplatoons⟩ := setPlatoons_of_owner (c := .platoonSeen _) hseen.idle rfl rfl
      (hserve.trans ((seenFormed_of_partner hspread hpartner).trans (seenMerge_of_spread hbig)))
    exact ⟨u, hexec, hanswer, hframe, hplatoons ▸ retireAt_get_of_live hpartner.live .dissolved s.time.ct⟩
  · have hplace := hserve.trans (seenFormed_of_alone hspread hclear)
    have hempty := lowestEmpty_eq_none.mpr hfull
    have hvictim := platoonVictim_eq hlive hleast
    refine ⟨fun hlarger => ?_, fun hsmaller => ?_⟩
    · have hevicted : Frame [.platoons, .latched] s
          ((createPlatoon m formed (s.setPlatoons (retireAt s.platoons m .evicted s.now))).latch .platoonEvicted) :=
        ((frame_setPlatoons s _).mono (by simp)).trans
          (((frame_setPlatoons _ _).mono (by simp)).trans ((frame_latch _ _).mono (by simp)))
      obtain ⟨u, hexec, hanswer, howner, hframe, -⟩ := answers_of_owner (c := .platoonSeen _) hseen.idle rfl rfl
        (hplace.trans (seenPlace_of_larger hempty hvictim hlarger)) hevicted
      have hplatoons : u.platoons = _ := howner .platoons (by simp)
      exact ⟨u, hexec, hanswer, hframe.mono (by simp), howner .latched (by simp),
        hplatoons ▸ replace_get s.platoons m .evicted s.time.ct formed⟩
    · obtain ⟨u, hexec, hanswer, howner, hframe, -⟩ := answersList_of_owner (c := .platoonSeen _) hseen.idle rfl rfl
        (hplace.trans (seenPlace_of_smaller hempty hvictim hsmaller)) (frame_latch s _)
      exact ⟨u, hexec, hanswer, hframe.mono (by simp), howner .latched (by simp)⟩

end Sys2Proof.Proofs
end

section
/-! SUPPORT. PASSAGE (R115 to R119), and the statement about it. -/

namespace Sys2Proof.Machine

open Sys2Proof.Safety

/-! ## PASSAGE as its bytes, and its checks (R115) -/

section
variable {j b : Byte} {t : Ct} {s : State}

theorem serve_passage (j b : Byte) (t : Ct) (s : State) :
    serve (requestOf 0x31 ([j, b] ++ ctOf t)) s = ownPassage ⟨j.toNat, b.toNat, t, none⟩ s := by
  have howner (t3 t2 t1 t0 : Byte) : serve (requestOf 0x31 [j, b, t3, t2, t1, t0]) s =
      ownPassage ⟨j.toNat, b.toNat, word32 t3 t2 t1 t0, none⟩ s := rfl
  exact (howner _ _ _ _).trans (by rw [word32_ctOf])

theorem serve_passage_named (j b : Byte) (t : Ct) (slot g : Byte) (s : State) :
    serve (requestOf 0x31 ([j, b] ++ ctOf t ++ [slot, g])) s =
      ownPassage ⟨j.toNat, b.toNat, t, some ⟨slot.toNat, g.toNat⟩⟩ s := by
  have howner (t3 t2 t1 t0 : Byte) : serve (requestOf 0x31 [j, b, t3, t2, t1, t0, slot, g]) s =
      ownPassage ⟨j.toNat, b.toNat, word32 t3 t2 t1 t0, some ⟨slot.toNat, g.toNat⟩⟩ s := rfl
  exact (howner _ _ _ _).trans (by rw [word32_ctOf])

theorem serve_passage_of_fin (j : Byte) (d : Direction) (t : Ct) (k : Fin 32) (gen : Fin 16) (s : State) :
    serve (requestOf 0x31 (passageBytes j d t k gen)) s =
      ownPassage ⟨j.toNat, (dirByte d).toNat, t, some ⟨k.val, gen.val⟩⟩ s := by
  refine (serve_passage_named j (dirByte d) t (BitVec.ofNat 8 k.val) (BitVec.ofNat 8 gen.val) s).trans ?_
  rw [byte_toNat_of_fin (by decide), byte_toNat_of_fin (by decide)]

/-- A passage in either form, by its parameter bytes. -/
theorem serve_passage_of_form (j b : Byte) (t : Ct) {id : List Byte} (hid : id = [] ∨ id.length = 2) (s : State) :
    ∃ x, serve (requestOf 0x31 ([j, b] ++ ctOf t ++ id)) s = ownPassage ⟨j.toNat, b.toNat, t, x⟩ s := by
  obtain rfl | hlength := hid
  · rw [List.append_nil]
    exact ⟨none, serve_passage j b t s⟩
  · obtain ⟨slot, g, rfl⟩ := List.length_eq_two.mp hlength
    exact ⟨_, serve_passage_named j b t slot g s⟩

section
variable {q : PassageFields} {a : ActivePlan} {p : Plan} {d : Direction}

theorem ownPassage_of_no_plan (h : s.activeRecord = none) : ownPassage q s = refuse .noPlan s := by
  simp only [ownPassage, h]

theorem ownPassage_of_no_direction (hplan : s.activeRecord = some (a, p)) (hd : 1 < q.dir) :
    ownPassage q s = refuse .outOfRange s := by
  simp only [ownPassage, hplan, direction?_of_gt hd]

theorem ownPassage_of_unconfigured (hplan : s.activeRecord = some (a, p)) (hd : direction? q.dir = some d)
    (hn : s.n ≤ q.j) : ownPassage q s = refuse .notConfigured s := by
  simp only [ownPassage, hplan, hd, if_pos hn]

theorem ownPassage_of_old (hplan : s.activeRecord = some (a, p)) (hd : direction? q.dir = some d) (hn : q.j < s.n)
    (hold : ¬ InTime s.time.ct q.t) : ownPassage q s = refuse .outOfRange s := by
  have htest : tooOld s.now q.t = true := tooOld_iff.mpr hold
  simp only [ownPassage, hplan, hd, if_neg (Nat.not_le.mpr hn), if_pos htest]

/-- A passage that R115 admits goes to the record it names or to the one it matches. -/
theorem ownPassage_of_admitted (hplan : s.activeRecord = some (a, p)) (hd : direction? q.dir = some d) (hn : q.j < s.n)
    (htime : InTime s.time.ct q.t) : ownPassage q s = match q.id with
      | some id => passageById id q.j d (seenAt s.time.ct q.t) a p ⟨before s.time.ct q.t, false, false⟩ s
      | none => passageByMatch q.j d (seenAt s.time.ct q.t) a p ⟨before s.time.ct q.t, false, false⟩ s := by
  have htest : tooOld s.now q.t = false := tooOld_of_inTime htime
  simp only [ownPassage, hplan, hd, if_neg (Nat.not_le.mpr hn), htest, Bool.false_eq_true, if_false]
  rfl

end

end

/-! ## The record that a passage names (R103, R116) -/

section
variable {k : Fin 32} {gen : Fin 16} {r : Platoon} {j : Nat} {d : Direction} {t : Ct} {a : ActivePlan} {p : Plan}
  {c : Clamps} {s : State}

theorem passageById_of_out_of_range {id : Identifier} (h : 32 ≤ id.slot ∨ 15 < id.gen) :
    passageById id j d t a p c s = refuse .outOfRange s := by
  simp only [passageById, resolve_of_out_of_range h]

theorem passageById_of_stale (h : s.platoons[k].live = none ∨ s.platoons[k].gen ≠ gen) :
    passageById ⟨k.val, gen.val⟩ j d t a p c s = (refusedReply .staleId (stalePayloadOf s.platoons[k] gen), s) := by
  simp only [passageById, resolve_of_stale h, refuseStale, stalePayload_staleNote]

theorem passageById_of_live (hlive : s.platoons[k].live = some r) (hd : r.dir = d) (hj : r.cur = j) :
    passageById ⟨k.val, s.platoons[k].gen.val⟩ j d t a p c s = advance k r j t a p c s := by
  simp only [passageById, resolve_of_live hlive, hd, hj, decide_true, Bool.and_self, if_true]

theorem passageById_of_elsewhere (hlive : s.platoons[k].live = some r) (h : r.dir ≠ d ∨ r.cur ≠ j) :
    passageById ⟨k.val, s.platoons[k].gen.val⟩ j d t a p c s =
      (refusedReply .wrongJunction [dirByte r.dir, BitVec.ofNat 8 r.cur], s) := by
  have htest : ¬ (decide (r.dir = d) && decide (r.cur = j)) = true := by
    rw [Bool.and_eq_true, decide_eq_true_iff, decide_eq_true_iff, not_and_or]
    exact h
  simp only [passageById, resolve_of_live hlive, if_neg htest, directionOf_eq]
  rfl

/-! ## The record that a passage matches (R117) -/

theorem mem_matching {e : Fin 32 × Platoon} :
    e ∈ s.livePlatoons.filter (fun r => r.2.dir == d && r.2.cur == j && apart t r.2.head ≤ s.settings.lm) ↔
      e ∈ s.livePlatoons ∧ e.2.dir = d ∧ e.2.cur = j ∧ apart t e.2.head ≤ s.settings.lm := by
  simp [List.mem_filter, and_assoc]

theorem matchPassage_eq (hlive : s.platoons[k].live = some r) (hd : r.dir = d) (hj : r.cur = j)
    (hnear : apart t r.head ≤ s.settings.lm)
    (hfirst : ∀ e ∈ s.livePlatoons, e.1 ≠ k → e.2.dir = d → e.2.cur = j → apart t e.2.head ≤ s.settings.lm →
      before r.head e.2.head = true ∨ (r.head = e.2.head ∧ k < e.1)) : matchPassage j d t s = some (k, r) := by
  refine best_of_lower ((lives_sorted s.platoons).filter _)
    (mem_matching.mpr ⟨mem_lives.mpr hlive, hd, hj, hnear⟩) (fun e he hlt => ?_) (fun e he hlt => ?_)
  all_goals
    obtain ⟨hmem, hdir, hcur, hclose⟩ := mem_matching.mp he
  · obtain hbefore | ⟨-, hgt⟩ := hfirst e hmem hlt.ne hdir hcur hclose
    · exact hbefore
    · exact absurd hgt (lt_asymm hlt)
  · obtain hbefore | ⟨hhead, -⟩ := hfirst e hmem hlt.ne' hdir hcur hclose
    · exact before_asymm hbefore
    · show before e.2.head r.head = false
      rw [hhead]
      exact before_self _

theorem matchPassage_eq_none (h : ∀ e ∈ s.livePlatoons, e.2.dir = d → e.2.cur = j →
    s.settings.lm < apart t e.2.head) : matchPassage j d t s = none := by
  rw [matchPassage, best_eq_none, List.eq_nil_iff_forall_not_mem]
  intro e he
  obtain ⟨hmem, hdir, hcur, hclose⟩ := mem_matching.mp he
  exact absurd hclose (Nat.not_le.mpr (h e hmem hdir hcur))

theorem passageByMatch_of_match (h : matchPassage j d t s = some (k, r)) :
    passageByMatch j d t a p c s = advance k r j t a p c s := by
  simp only [passageByMatch, h]

theorem passageByMatch_of_none {x y z : Bool} (h : matchPassage j d t s = none) :
    passageByMatch j d t a p ⟨x, y, z⟩ s = done .noMatch [clampOf x y z] s := by
  simp only [passageByMatch, h, clamps_bytes]
  rfl

end

/-! ## The record advanced (R118, R119) -/

section
variable {k m : Fin 32} {r q next : Platoon} {a : ActivePlan} {p : Plan} {x y z : Bool} {t : Ct} {s : State}

theorem depart_passed (t : Ct) (dest travel c lm : Nat) (r : Platoon) :
    depart t dest travel c lm (passed t r) = advancedRecord r dest travel c lm t := by
  have hlinks : (passed t r).links = r.links + (r.origin.isSome || r.lastPassage.isSome).toNat := by
    simp only [passed]
    cases r.origin.isSome || r.lastPassage.isSome <;> rfl
  simp only [depart, hlinks]
  rfl

theorem advance_of_last {j : Nat} (h : isLast s.n r.dir j = true) : advance k r j t a p ⟨x, y, z⟩ s =
    done .exiting [BitVec.ofNat 8 k.val, BitVec.ofNat 8 s.platoons[k].gen.val, clampOf x y z]
      (s.setPlatoons (retireAt s.platoons k .exited s.now)) := by
  rw [advance, if_pos h, clamps_bytes]
  rfl

theorem advance_of_departs {j : Byte} {dest travel : Nat} {c : Clamps} (h : Departs a s.n r.dir (some j) dest travel) :
    advance k r j.toNat t a p c s = advanceOnward k (advancedRecord r dest travel p.c s.settings.lm t) c s := by
  rw [advance, if_neg (by rw [isLast_of_departs h]; exact Bool.false_ne_true), linkFrom_of_departs h]
  dsimp only
  rw [depart_passed]

theorem advanceOnward_of_spread (h : s.settings.dl < next.spread) : advanceOnward k next ⟨x, y, z⟩ s =
    done .dissolved [clampOf x y z] (s.setPlatoons (retireAt s.platoons k .dissolved s.now)) := by
  rw [advanceOnward, if_pos h, clamps_bytes]
  rfl

theorem advanceOnward_of_alone (hspread : next.spread ≤ s.settings.dl)
    (h : ∀ e ∈ s.livePlatoons, e.1 ≠ k → e.2.dir = next.dir → e.2.cur = next.cur →
      s.settings.gm ≤ apart e.2.head next.head) : advanceOnward k next ⟨x, y, z⟩ s =
    done (if clampOf x y z = 0 then .none else .clamped) (platoonRecord k s.platoons[k].gen next ++ [clampOf x y z])
      (s.setPlatoons (rewrite s.platoons k next)) := by
  have hnone : mergePartner s.settings.gm next (some k) s.platoons = none :=
    mergePartner_of_alone fun e he hskip => h e he fun hk => hskip (by rw [hk])
  simp only [advanceOnward, if_neg (Nat.not_lt.mpr hspread), hnone, platoonReply_eq, clamps_reason, List.append_nil]
  rfl

/-- The table after a merge at the new junction: the advancing record is gone, its partner carries both or dissolves. -/
def mergedTable (dl : Nat) (k m : Fin 32) (both : Platoon) (now : Ct) (v : Vector (Slot Platoon) 32) :
    Vector (Slot Platoon) 32 :=
  if dl < both.spread then retireAt (retireAt v k .merged now) m .dissolved now
  else rewrite (retireAt v k .merged now) m both

theorem advanceOnward_of_partner (hspread : next.spread ≤ s.settings.dl) (h : Partner m q next (some k) s) :
    advanceOnward k next ⟨x, y, z⟩ s =
      done (if s.settings.dl < (mergedRecord q next).spread then .dissolved else .merged)
        (platoonRecord m s.platoons[m].gen (mergedRecord q next) ++ [clampOf x y z])
        (s.setPlatoons (mergedTable s.settings.dl k m (mergedRecord q next) s.now s.platoons)) := by
  simp only [advanceOnward, if_neg (Nat.not_lt.mpr hspread), mergePartner_of_partner h, passageMerge, mergeInto_eq,
    platoonReply_eq, List.append_nil, mergedTable]
  split <;> rfl

theorem mergedTable_get {dl : Nat} {both : Platoon} {now : Ct} {v : Vector (Slot Platoon) 32} (hk : v[k].live = some r)
    (hm : v[m].live = some q) (hne : m ≠ k) (i : Fin 32) : (mergedTable dl k m both now v)[i] =
      if i = k then ⟨v[k].gen, none, some ⟨v[k].gen, .merged, now⟩⟩ else if i ≠ m then v[i]
      else if dl < both.spread then ⟨v[m].gen, none, some ⟨v[m].gen, .dissolved, now⟩⟩
      else { v[m] with live := some both } := by
  have hgone := retireAt_get_of_live hk .merged now
  have hkept : (retireAt v k .merged now)[m] = v[m] := (hgone m).trans (if_neg hne)
  have hlive : (retireAt v k .merged now)[m].live = some q := hkept ▸ hm
  unfold mergedTable
  by_cases hi : i = m
  · subst hi
    rw [if_neg hne, if_neg (not_not_intro rfl)]
    split
    · rw [retireAt_get_of_live hlive, if_pos rfl, hkept]
    · rw [rewrite_get, if_pos rfl, hkept]
  · rw [if_pos hi, ← hgone i]
    split
    · rw [retireAt_get_of_live hlive, if_neg hi]
    · rw [rewrite_get, if_neg hi]

end

/-! ## A passage that R115 admits, at the port -/

section
variable {k : Fin 32} {r : Platoon} {j : Byte} {t : Ct} {a : ActivePlan} {p : Plan} {s : State}

theorem serve_passing (h : Passing k r j t a p s) (d : Direction) :
    serve (requestOf 0x31 (passageBytes j d t k s.platoons[k].gen)) s =
      passageById ⟨k.val, s.platoons[k].gen.val⟩ j.toNat d (seenAt s.time.ct t) a p ⟨before s.time.ct t, false, false⟩ s :=
  (serve_passage_of_fin j d t k _ s).trans
    (ownPassage_of_admitted h.plan (direction?_dirByte d) h.configured h.inTime)

theorem serve_passing_at (h : Passing k r j t a p s) (hcur : r.cur = j.toNat) :
    serve (requestOf 0x31 (passageBytes j r.dir t k s.platoons[k].gen)) s =
      advance k r j.toNat (seenAt s.time.ct t) a p ⟨before s.time.ct t, false, false⟩ s :=
  (serve_passing h r.dir).trans (passageById_of_live h.live rfl hcur)

/-- Two transactions that their owners serve alike leave the same but for the bytes clocked out. -/
theorem exec_of_same_serve {c c' : Instr} {code : Byte} {ps ps' : List Byte} (hs : Idle s) (hc : c.code? = some code)
    (hp : c.params? = some ps) (hc' : c'.code? = some code) (hp' : c'.params? = some ps')
    (h : serve (requestOf code ps) s = serve (requestOf code ps') s) :
    ∃ u v, exec c s = .next u ∧ exec c' s = .next v ∧ Frame [.port] v u ∧ u.port.state = v.port.state ∧
      u.port.rejected = v.port.rejected := by
  have hu := exec_of_idle_withPins hs hc hp
  have hv := exec_of_idle_withPins hs hc' hp'
  rw [h] at hu
  have hout (x : Reply × State) (o o' : List Byte) : settle s (executing code x.1 (x.2.withPins false o)) =
      (settle s (executing code x.1 (x.2.withPins false o'))).setPort
        { (settle s (executing code x.1 (x.2.withPins false o'))).port with sdo := o } := by
    rw [← settle_setSdo]
    rfl
  refine ⟨_, _, hu, hv, ?_⟩
  rw [hout _ (sendOut s (2 + ps.length + c.extra)) (sendOut s (2 + ps'.length + c'.extra))]
  exact ⟨frame_setPort_of_sequence rfl rfl, rfl, rfl⟩

end

end Sys2Proof.Machine

namespace Sys2Proof.Proofs

open Sys2Proof.Machine Sys2Proof.Safety

/-- Settles O52: a passage with an identifier advances the record it names, one without advances the one it matches, and
both forms go through the same checks. -/
theorem passageMovesRecord : Obligations.PassageMovesRecord := by
  refine ⟨fun k r j t a p s h => ?_, fun k r j t a p s h hcur hnear hfirst => ?_, fun d j t s hs hplan hn htime => ?_,
    fun j b t id s hs hid => ?_⟩
  · intro t' clamp gen c
    refine ⟨fun d hd => ?_, fun hcur hlast => ?_, fun dest travel hcur hdeparts => ?_⟩
    · exact refuses_of_owner h.idle rfl rfl ((serve_passing h d).trans (passageById_of_elsewhere h.live hd))
    · have hend : isLast s.n r.dir j.toNat = true := isLast_iff.mpr (hcur ▸ hlast)
      obtain ⟨u, hexec, hanswer, hframe, hplatoons⟩ := setPlatoons_of_owner (c := c) h.idle rfl rfl
        ((serve_passing_at h hcur).trans (advance_of_last hend))
      exact ⟨u, hexec, hanswer, hframe, hplatoons ▸ retireAt_get_of_live h.live .exited s.time.ct⟩
    · intro next
      have hserve := (serve_passing_at h hcur).trans (advance_of_departs hdeparts)
      refine ⟨fun hspread => ?_, fun hspread halone => ?_, fun m q hspread hpartner => ?_⟩
      · obtain ⟨u, hexec, hanswer, hframe, hplatoons⟩ := setPlatoons_of_owner (c := c) h.idle rfl rfl
          (hserve.trans (advanceOnward_of_spread hspread))
        exact ⟨u, hexec, hanswer, hframe, hplatoons ▸ retireAt_get_of_live h.live .dissolved s.time.ct⟩
      · obtain ⟨u, hexec, hanswer, hframe, hplatoons⟩ := setPlatoons_of_owner (c := c) h.idle rfl rfl
          (hserve.trans (advanceOnward_of_alone hspread halone))
        exact ⟨u, hexec, hanswer, hframe, hplatoons ▸ rewrite_get _ _ _⟩
      · obtain ⟨u, hexec, hanswer, hframe, hplatoons⟩ := setPlatoons_of_owner (c := c) h.idle rfl rfl
          (hserve.trans (advanceOnward_of_partner hspread hpartner))
        have hne : m ≠ k := fun hmk => hpartner.other (by rw [hmk])
        exact ⟨u, hexec, hanswer, hframe, hplatoons ▸ mergedTable_get h.live hpartner.live hne⟩
  · have hmatch : matchPassage j.toNat r.dir (seenAt s.time.ct t) s = some (k, r) :=
      matchPassage_eq h.live rfl hcur hnear (hcur ▸ hfirst)
    refine exec_of_same_serve (ps := [j, dirByte r.dir] ++ ctOf t) h.idle rfl rfl rfl rfl ?_
    exact ((serve_passage j (dirByte r.dir) t s).trans ((ownPassage_of_admitted h.plan (direction?_dirByte r.dir)
      h.configured h.inTime).trans (passageByMatch_of_match hmatch))).trans (serve_passing_at h hcur).symm
  · obtain ⟨⟨a, p⟩, hplan⟩ := Option.isSome_iff_exists.mp hplan
    refine ⟨fun hfar => ?_, fun slot g hrange => ?_, fun k gen hstale => ?_⟩
    · exact answers_of_still_owner hs rfl rfl ((serve_passage j (dirByte d) t s).trans
        ((ownPassage_of_admitted hplan (direction?_dirByte d) hn htime).trans
          (passageByMatch_of_none (matchPassage_eq_none hfar))))
    · have hout : 32 ≤ (Identifier.mk slot.toNat g.toNat).slot ∨ 15 < (Identifier.mk slot.toNat g.toNat).gen := hrange
      exact refuses_of_owner hs rfl rfl ((serve_passage_named j (dirByte d) t slot g s).trans
        ((ownPassage_of_admitted hplan (direction?_dirByte d) hn htime).trans (passageById_of_out_of_range hout)))
    · exact refuses_of_owner hs rfl rfl ((serve_passage_of_fin j d t k gen s).trans
        ((ownPassage_of_admitted hplan (direction?_dirByte d) hn htime).trans (passageById_of_stale hstale)))
  · obtain ⟨x, hserve⟩ := serve_passage_of_form j b t hid s
    have hrefuses {reason : Reason} (h : ownPassage ⟨j.toNat, b.toNat, t, x⟩ s = refuse reason s) :
        Refuses (.passage ([j, b] ++ ctOf t ++ id)) s 0x31 reason [] := refuses_of_owner hs rfl rfl (hserve.trans h)
    refine ⟨fun hnone => ?_, fun hplan hb => ?_, fun hplan hb hn => ?_, fun hplan hb hn hold => ?_⟩
    · exact hrefuses (ownPassage_of_no_plan (activeRecord_none_of_inactive hnone))
    all_goals obtain ⟨⟨a, p⟩, hplan⟩ := Option.isSome_iff_exists.mp hplan
    · exact hrefuses (ownPassage_of_no_direction hplan hb)
    · exact hrefuses (ownPassage_of_unconfigured hplan (direction?_of_le hb) hn)
    · exact hrefuses (ownPassage_of_old hplan (direction?_of_le hb) hn hold)

end Sys2Proof.Proofs
end
